-- ==== Sys2Proof/Word.lean ====
section
/-! DEFINITION. The word types of the KX-32 and the helpers that build fixed-length vectors.

The spec's quantities that wrap, or that software sees as bits, are bit vectors; counts and sizes are `Nat`, and
quantities that the arithmetic of the chapters forms exactly are `Int`. -/

namespace Sys2Proof

/-- A byte of a control frame or of a datagram. -/
abbrev Byte := BitVec 8

/-- A 16-bit quantity: a flow id, a wire sequence, a cue word, a gain. -/
abbrev Half := BitVec 16

/-- A 32-bit quantity: HBC, HS, a source time, an extended sequence, O_ref, Q, a counter (00_scope 5.1, 5.4). -/
abbrev Word := BitVec 32

/-- A sample in the internal 24-bit two's complement format (00_scope 4). -/
abbrev Sample := BitVec 24

/-- The samples of one instant, one for each channel. -/
abbrev Frame := List Sample

end Sys2Proof
end

