-- ==== Sys2Proof/Config.lean ====
section
/-! DEFINITION. What the spec fixes for the part (00_scope 4), and the one value that it leaves open. -/

namespace Sys2Proof.Config

/-- Samples in a house block, and samples of a block of a stream. -/
abbrev blockSamples : Nat := 48

/-- The slot pool (R27, R29). -/
abbrev slotPool : Nat := 4096

/-- Largest contribution payload in bytes (R2, R5, R27). -/
abbrev maxPayload : Nat := 1440

/-- Encapsulation and header bytes of every packet in the load formula: 66 + 16 (R30). -/
abbrev packetOverhead : Nat := 82

/-- Largest control frame body (R175, R176). -/
abbrev maxBody : Nat := 1024

/-- Requests that the request queue holds (R177). -/
abbrev requestQueueSize : Nat := 4

/-- Entries that the notice queue holds (R185). -/
abbrev noticeQueueSize : Nat := 64

/-- Boundaries in a clock window (R55). -/
abbrev windowBlocks : Nat := 1000

/-- The limit of drift D and of the correction rate C, in drift units (R90, R93). -/
abbrev maxRate : Int := 2560

/-- The largest latency error, in samples, that slips work off (R92). -/
abbrev recentreThreshold : Int := 192

/-- The warm-up of a media port, 20 ms, in house samples of 1/48 ms (R7). -/
abbrev warmUpSamples : Nat := 960

/-- Full house blocks that carry LOCKING to LOCKED (R43). -/
abbrev lockBlocks : Nat := 1000

/-- The silent count at which a path is marked silent (R75). -/
abbrev silentBlocks : Nat := 100

/-- FREE VALUE (log 9). R76 gives a PATH_SILENT notice the stream's E_play "when the mark is set", and the spec does not
say whether the path watch of a boundary stands before or after that boundary's draw, which moves E_play. `true`: the
notice reads E_play after the draw. -/
opaque pathWatchAfterDraw : Bool

end Sys2Proof.Config
end

