-- ==== Sys2Proof/Syntax.lean ====
section
/-! DEFINITION. The commands of the KX-32: one constructor of `Instr` for each row of opcode_table.json.

Three kinds of row stand in the table.
* Events on the part's pins and lines (power, RESETn, HREF, carriers, datagrams, control-line bytes, the end of a reply,
  the warm-up timer). Their operands are what comes in from outside with the event.
* House block boundaries. HOUSE_BLOCK_BOUNDARY is any boundary. The rows that name something that comes about within a
  boundary (SLIP, RECENTRE, WINDOW_END, PATH_SILENT, COMMIT_APPLY, RETURN_PACKET_BUILD, METER_PERIOD_END,
  HOUSE_REF_LOCKED) are the boundary at which that thing comes about (log 2). All take what the pins hold at the boundary.
* Requests. A request row is the TAKING of the next request of the part's own request queue, when it is of that kind
  (R177, R179, log 4): its fields are the body of the queued frame, which a REQUEST_ARRIVAL brought. -/

namespace Sys2Proof

/-- A media port: A is port 0 and B is port 1 (01, section 1.2). -/
inductive PortId where
  | a
  | b
  deriving DecidableEq, Repr

/-- A path of a stream: the Flow Table entry 2s is path A and the entry 2s + 1 is path B (R16). -/
inductive PathId where
  | a
  | b
  deriving DecidableEq, Repr

/-- What the pins hold for a house block boundary b: the levels of SIG_IN0 to SIG_IN15 at b, bit k for SIG_INk (R158), and
the 48 frames of 32 slots of 32 bits that the gallery TDM input carried in house block b - 1 (R122). -/
structure BoundaryInput where
  sigIn : Half
  tdm : List (List Word)
  deriving DecidableEq, Repr

/-- The commands, in the table's order. An operand `sample` is the house sample, 0 to 47 within the house block, at which
the command falls (R42, log 1). -/
inductive Instr where
  /-- POWER_ON (R182): Power is applied and every block takes its power-on values. -/
  | powerOn (strap carrierA carrierB : Bool)
  /-- RESETN_FALL (R183): RESETn falls: the part takes its reset condition, discards queued requests and cuts off any reply in transmission. -/
  | resetnFall
  /-- RESETN_RELEASE (R183): RESETn rises: the rate strap is read and house block 0 begins. -/
  | resetnRelease (strap : Bool)
  /-- HREF_EDGE (R43): A reference edge on HREF moves the House Clock Unit from FREE or HOLDOVER to LOCKING. -/
  | hrefEdge (sample : Fin 48)
  /-- HOUSE_BLOCK_BOUNDARY (R54): A house block boundary: HBC rises and every block does its boundary work. -/
  | houseBlockBoundary (inp : BoundaryInput)
  /-- HOUSE_REF_LOCKED (R43): The lock count reaches 1,000: the unit enters LOCKED and posts HOUSE_REF_LOCKED. -/
  | houseRefLocked (inp : BoundaryInput)
  /-- CARRIER_ARRIVAL (R7): Carrier appears on a port: the record is set present, and a DOWN port moves to UP with PORT_UP. -/
  | carrierArrival (port : PortId)
  /-- CARRIER_LOSS (R7): Carrier is lost on a port: the record is set absent, and an UP port moves to DOWN with PORT_DOWN. -/
  | carrierLoss (port : PortId)
  /-- WARM_UP_EXPIRY (R7): The 20 ms warm-up ends: the port goes to UP or DOWN by its carrier record and posts the matching notice. -/
  | warmUpExpiry (port : PortId)
  /-- PACKET_ARRIVAL (R18): A whole datagram arrives on a media port and is counted and carried through the seven ingest steps. -/
  | packetArrival (port : PortId) (sample : Fin 48) (datagram : List Byte)
  /-- SLIP (R97): The slip countdown reaches 0: a slip is decided, the LFSR advances, the countdown reloads and Q changes by 1 after the draw. -/
  | slip (group : Fin 16) (inp : BoundaryInput)
  /-- RECENTRE (R60): A pending recentre is performed at the next boundary: fade-out, Q change, passed-over slots and a RECENTRE notice. -/
  | recentre (group : Fin 16) (inp : BoundaryInput)
  /-- WINDOW_END (R87): Blocks-into-window reaches 1,000 and the eight-step window-end arithmetic runs. -/
  | windowEnd (group : Fin 16) (inp : BoundaryInput)
  /-- PATH_SILENT (R75): A path's silent count reaches 100: its mark is set and PATH_SILENT is posted. -/
  | pathSilent (stream : Fin 32) (path : PathId) (inp : BoundaryInput)
  /-- COMMIT_APPLY (R135): At the first boundary after MAP_COMMIT, the pending entries are applied and COMMIT_DONE is posted. -/
  | commitApply (inp : BoundaryInput)
  /-- RETURN_PACKET_BUILD (R147): The K-th block of a packet in assembly builds a return packet and hands it to the chosen ports. -/
  | returnPacketBuild (feed : Fin 16) (inp : BoundaryInput)
  /-- METER_PERIOD_END (R163): The block count reaches 2^n: the records are latched, the accumulators cleared and the watches evaluated. -/
  | meterPeriodEnd (inp : BoundaryInput)
  /-- REQUEST_ARRIVAL (R177): A whole request frame with a good check is queued, or given a BUSY reply when the queue is full. -/
  | requestArrival (bytes : List Byte)
  /-- FRAME_CHECK_FAIL (R176): A whole frame with a bad check is discarded and the control error count rises. -/
  | frameCheckFail (bytes : List Byte)
  /-- FRAME_OVER_LENGTH (R176): A length above 1,024 discards the frame and raises the control error count. -/
  | frameOverLength (bytes : List Byte)
  /-- FRAME_STOP_BIT_ERROR (R176): A byte with a low stop bit inside a frame discards it and raises the control error count. -/
  | frameStopBitError (bytes : List Byte)
  /-- INTER_BYTE_TIMEOUT (R176): 10 ms pass without the next byte of a frame: the partial frame is discarded and the count rises. -/
  | interByteTimeout (bytes : List Byte)
  /-- REPLY_SENT (R178): A reply frame's last byte is transmitted: its request leaves the queue and the next reply begins. -/
  | replySent
  /-- BAD_KIND (R179): A request of an unknown kind is taken and refused with BAD_KIND. -/
  | badKind
  /-- IDENTIFY (R180): Returns the vendor and part codes, capacities, rate and control error count. -/
  | identify
  /-- RESET (R181): Answered OK and stops the taking of further requests until the reset takes effect. -/
  | reset
  /-- CLOCK_QUERY (R45): Reports the reference state, lock count, loss count, HBC and HS. -/
  | clockQuery (sample : Fin 48)
  /-- NOTICE_FETCH (R186): Removes and returns up to 16 notices, urgent first, and clears the lost count. -/
  | noticeFetch
  /-- NOTICE_ENABLE (R187): Replaces the queue-enable and alert-enable masks. -/
  | noticeEnable
  /-- PORT_ENABLE (R12): Starts the warm-up of a port in OFF. -/
  | portEnable (sample : Fin 48)
  /-- PORT_DISABLE (R12): Moves a port to OFF, abandoning any warm-up. -/
  | portDisable
  /-- PORT_BUDGET (R13): Sets a port's ingest and transmit budgets, subject to the loads. -/
  | portBudget
  /-- PORT_QUERY (R14): Reports a port's state, budgets, loads and counters, optionally clearing the counters. -/
  | portQuery (sample : Fin 48)
  /-- STREAM_OPEN (R28): Admits a stream after its checks, binding flows and charging slots and loads. -/
  | streamOpen
  /-- STREAM_START (R32): Moves a READY stream to ACQUIRING. -/
  | streamStart
  /-- STREAM_STOP (R33): Returns a stream to READY, empties its ring and clears its timeline. -/
  | streamStop
  /-- STREAM_CLOSE (R34): Closes a stream, releasing its flows, slots, loads and group membership. -/
  | streamClose
  /-- STREAM_REPAIR (R39): Returns a PAIR_FAULT stream to PAIRED and clears the window pair mismatch count. -/
  | streamRepair
  /-- STREAM_QUERY (R41): Reports a stream record. -/
  | streamQuery
  /-- STREAM_CLOCK (R106): Reports a stream's window minima and transit count. -/
  | streamClock
  /-- GROUP_SET (R49): Sets a group's H, outage limit and W, subject to the depth check. -/
  | groupSet
  /-- GROUP_QUERY (R51): Reports a group record. -/
  | groupQuery
  /-- GROUP_CLOCK (R105): Reports a group's clock state and last window report. -/
  | groupClock
  /-- GROUP_RECENTRE (R59): Forms e and sets a pending recentre of adj for the next boundary. -/
  | groupRecentre
  /-- MAP_SET (R132): Replaces an entry's staged copy and updates its pending flag. -/
  | mapSet
  /-- MAP_COMMIT (R134): Sets the commit request for the next boundary. -/
  | mapCommit
  /-- MAP_DISCARD (R133): Copies the active copy back over pending staged copies. -/
  | mapDiscard
  /-- MAP_QUERY (R137): Reports map entries, optionally clearing their clip counters. -/
  | mapQuery
  /-- RETURN_SET (R140): Stores a feed's settings, moving its load when a running feed's ports change. -/
  | returnSet
  /-- RETURN_COEF (R141): Replaces one coefficient row of a feed. -/
  | returnCoef
  /-- RETURN_START (R142): Charges a feed's load and sets it RUNNING. -/
  | returnStart
  /-- RETURN_STOP (R143): Stops a feed, removing its load and discarding its packet in assembly. -/
  | returnStop
  /-- RETURN_QUERY (R150): Reports a feed record, optionally clearing its counters. -/
  | returnQuery
  /-- SIGNAL_SET (R153): Configures an output line's mode, stream, bit, invert and fail value. -/
  | signalSet
  /-- SIGNAL_OVERRIDE (R157): Sets override values of the masked lines. -/
  | signalOverride
  /-- SIGNAL_QUERY (R160): Reports the lines, input states and mask. -/
  | signalQuery
  /-- SIGIN_MASK (R159): Replaces the input-notice mask. -/
  | siginMask
  /-- METER_SET (R165): Sets the period exponent and abandons the period in progress. -/
  | meterSet
  /-- METER_READ (R166): Reports the last-period peak and mean of the meter points. -/
  | meterRead
  /-- WATCH_SET (R169): Configures a level watch and arms it, or sets it OFF. -/
  | watchSet
  /-- WATCH_QUERY (R169): Reports one or all level watches. -/
  | watchQuery
  /-- TEST_QUERY (R174): Reports a stream's test-sequence checker, optionally clearing its counts. -/
  | testQuery
  deriving DecidableEq, Repr

end Sys2Proof
end

