-- ==== Sys2Proof/Decode.lean ====
section
/-! DEFINITION. The words that spell commands. No row of opcode_table.json gives bits (the reader counted no row with fixed
bits and none with fields), so no word spells a command; log 20. The frames of the control line and the contribution
packets, which do have byte layouts, are read by the operations of Machine/Control.lean and Machine/Packet.lean. -/

namespace Sys2Proof

/-- The command that a word of the table spells: none, since no row of the table has bits. -/
def decodeTableWord (_nbits _w : Nat) : Option Instr := none

end Sys2Proof
end

