-- ==== Sys2Proof/Machine/Arith.lean ====
section
/-! DEFINITION. The arithmetic of 00_scope 5: signed 32-bit differences, rounding, saturation, the 48-step fades, the CRC-16
of R4 and R175, and big-endian bytes. -/

namespace Sys2Proof.Machine

/-- The difference of two time quantities or of two extended sequences, read as a signed 32-bit value (00_scope 5.1, R63). -/
def sdiff (a b : Word) : Int := (a - b).toInt

/-- An exact integer taken modulo 2^32. -/
def word (x : Int) : Word := BitVec.ofInt 32 x

/-- Division by a positive number, rounded to the nearest integer with a half rounded away from zero (00_scope 5.3). -/
def divHalfAway (x : Int) (d : Nat) : Int :=
  if 0 ≤ x then (((2 * x.natAbs + d) / (2 * d) : Nat) : Int) else -(((2 * x.natAbs + d) / (2 * d) : Nat) : Int)

/-- Division by a positive number, rounded toward zero: the spec's trunc (00_scope 5.3). -/
def divTrunc (x : Int) (d : Nat) : Int := x.tdiv d

/-- A value held between two ends (00_scope 5.3, saturation and clamping). -/
def clampInt (lo hi x : Int) : Int := if x < lo then lo else if hi < x then hi else x

/-- The ends of the 24-bit sample range. -/
def sampleMin : Int := -8388608

/-- The upper end of the 24-bit sample range. -/
def sampleMax : Int := 8388607

/-- Saturation to the 24-bit sample range. -/
def sat24 (x : Int) : Int := clampInt sampleMin sampleMax x

/-- A result lies outside the 24-bit range (R128, R145). -/
def outOfRange24 (x : Int) : Bool := decide (x < sampleMin) || decide (sampleMax < x)

/-- Saturation to the 16-bit sample range. -/
def sat16 (x : Int) : Int := clampInt (-32768) 32767 x

/-- The 24-bit sample of an integer in the sample range. -/
def sampleOf (x : Int) : Sample := BitVec.ofInt 24 x

/-- A sample times k/48, rounded toward zero: the gain of every fade (R60, R109, R110). -/
def fadeSample (s : Sample) (k : Nat) : Sample := sampleOf (divTrunc (s.toInt * k) 48)

/-- A frame times k/48, rounded toward zero, on every channel. -/
def fadeFrame (f : Frame) (k : Nat) : Frame := f.map (fadeSample · k)

/-- One bit of the CRC-16 with polynomial 0x1021, most significant bit first (R4). -/
def crcBit (c : Half) : Half := if c.msb then (c <<< 1) ^^^ 0x1021 else c <<< 1

/-- One byte of the CRC-16. -/
def crcByte (c : Half) (b : Byte) : Half :=
  crcBit (crcBit (crcBit (crcBit (crcBit (crcBit (crcBit (crcBit (c ^^^ (b.zeroExtend 16 <<< 8)))))))))

/-- The CRC-16 of R4 and R175: initial value 0xFFFF, no reflection, no final inversion. -/
def crc16 (bytes : List Byte) : Half := bytes.foldl crcByte 0xFFFF

/-- A byte of a number. -/
def byteOf (n : Nat) : Byte := BitVec.ofNat 8 n

/-- A 16-bit value as two big-endian bytes (00_scope 5.5). -/
def be16 (n : Nat) : List Byte := [byteOf (n / 256), byteOf n]

/-- A 32-bit value as four big-endian bytes (00_scope 5.5). -/
def be32 (n : Nat) : List Byte := [byteOf (n / 16777216), byteOf (n / 65536), byteOf (n / 256), byteOf n]

/-- A word as four big-endian bytes. -/
def beWord (w : Word) : List Byte := be32 w.toNat

/-- A signed quantity as four big-endian bytes, two's complement (R178). -/
def beInt (x : Int) : List Byte := beWord (word x)

/-- A flag as one byte, 0 or 1 (R178). -/
def beFlag (b : Bool) : List Byte := [if b then 1 else 0]

/-- The number that big-endian bytes spell. -/
def beNat (bytes : List Byte) : Nat := bytes.foldl (fun n b => n * 256 + b.toNat) 0

/-- The byte at a place of a body, as a number. -/
def field1 (body : List Byte) (i : Nat) : Nat := (body.getD i 0).toNat

/-- The two bytes at a place of a body, as a number. -/
def field2 (body : List Byte) (i : Nat) : Nat := beNat ((body.drop i).take 2)

/-- The four bytes at a place of a body, as a number. -/
def field4 (body : List Byte) (i : Nat) : Nat := beNat ((body.drop i).take 4)

end Sys2Proof.Machine
end

