-- ==== Sys2Proof/Machine/State.lean ====
section
/-! DEFINITION. The state of the KX-32 as plain data, and the state right after power-on.

Each block of 00_scope section 2 has its own structure. A field marked "model's own" is not named by the spec; the log
entry named there says what it is for. -/

namespace Sys2Proof.Machine

/-- The faults of the part: there are none. Every command ends in a next state, because the spec describes no event that
stops the part: a bad packet, frame or request is counted, dropped or answered with a status. Leaving the type empty is
safe: no claim can rest on a fault. -/
inductive Fault where
  deriving DecidableEq, Repr

/-- The refusals of the model. -/
inductive Refusal where
  /-- Raised only by an arm of `exec` whose command has no meaning yet (there is none); safe, since the run stops there. -/
  | notModelled (mnemonic : String)
  deriving DecidableEq, Repr

/-! ## House Clock Unit (03, section 3.1) -/

/-- The reference state (R43), in the order of R45's codes. -/
inductive RefState where
  | free
  | locking
  | locked
  | holdover
  deriving DecidableEq, Repr

/-- The House Clock Unit and the two house counters. -/
structure HouseClock where
  /-- HBC (R42). -/
  hbc : Word
  /-- The index of the house sample within the house block: HS is HBC × 48 plus it (R42). -/
  sample : Fin 48
  /-- The reference state (R43). -/
  ref : RefState
  /-- The lock count, 0 to 999, used in LOCKING (R43). -/
  lockCount : Nat
  /-- Whether the fallback state is HOLDOVER rather than FREE, used in LOCKING (R43). -/
  fallbackHoldover : Bool
  /-- The reference loss count (R44). -/
  losses : Word
  /-- Model's own (log 5): bit n tells that a reference edge came at house sample n of the house block in progress, which
  is what R43 judges at the next boundary. -/
  edges : BitVec 48
  deriving DecidableEq, Repr

/-! ## Media ports and Flow Table (01) -/

/-- The port state (R7), in the order of R12's codes. -/
inductive PortState where
  | off
  | warming
  | down
  | up
  deriving DecidableEq, Repr

/-- One media port (R7, R10, R11). -/
structure Port where
  state : PortState
  /-- The carrier record: whether the Ethernet line has carrier (R7). -/
  carrier : Bool
  /-- The warm-up timer, as the HS at which it was started; it has a meaning in WARMING (R7, R14, log 10). -/
  warmUpStart : Word
  ingestBudget : Nat
  transmitBudget : Nat
  ingestLoad : Nat
  transmitLoad : Nat
  received : Word
  checkErrors : Word
  malformed : Word
  unknownFlow : Word
  notStarted : Word
  deriving DecidableEq, Repr

/-- One Flow Table entry; its stream and path follow from its index (R16). -/
structure FlowEntry where
  bound : Bool
  port : PortId
  flowId : Half
  deriving DecidableEq, Repr

/-! ## Streams and playout buffers (02, 04, 06, 10) -/

/-- The sample format on the wire (R1), in the order of its codes. -/
inductive SampleFormat where
  | l16
  | l24
  | l32
  deriving DecidableEq, Repr

/-- The stream state (02, section 2.1), in the order of its codes. -/
inductive StreamState where
  | closed
  | ready
  | acquiring
  | primed
  | playing
  | outage
  | draining
  | ended
  deriving DecidableEq, Repr

/-- The pair state (R36), in the order of its codes. -/
inductive PairState where
  | single
  | paired
  | pairFault
  deriving DecidableEq, Repr

/-- A declared flow of a stream. -/
structure Flow where
  port : PortId
  flowId : Half
  deriving DecidableEq, Repr

/-- A stored block: what a FILLED slot holds (R67). -/
structure Block where
  seq : Word
  sourceTime : Word
  /-- The arrival house block. -/
  arrival : Word
  cue : Option Half
  /-- 48 frames of one sample for each declared channel. -/
  samples : List Frame
  /-- Model's own (log 18): whether a draw has served a position of the slot, which R61 asks of a slot passed over. -/
  served : Bool
  deriving DecidableEq, Repr

/-- One slot of a playout ring (R67). -/
inductive Slot where
  | empty
  | filled (b : Block)
  | concealed (seq : Word)
  deriving DecidableEq, Repr

/-- The resume record (R115). -/
structure Resume where
  /-- The last real sequence and its source time, when a block was completed since PRIMED. -/
  lastReal : Option (Word × Word)
  nextExpected : Word
  hbc : Word
  deriving DecidableEq, Repr

/-- The watch of one path (R75). -/
structure PathWatch where
  mark : Bool
  silent : Word
  deriving DecidableEq, Repr

/-- The thirteen counters of a stream, in the order of R40. -/
structure StreamCounters where
  firstA : Word
  firstB : Word
  duplicates : Word
  late : Word
  early : Word
  afterEnd : Word
  formatMismatch : Word
  timelineRejects : Word
  pairMismatches : Word
  pairOff : Word
  missing : Word
  skipped : Word
  outages : Word
  deriving DecidableEq, Repr

/-- The last real block of the concealment state (R107, R108). -/
structure LastReal where
  seq : Word
  sourceTime : Word
  samples : List Frame
  deriving DecidableEq, Repr

/-- The concealment state (R107). -/
structure Conceal where
  lastReal : Option LastReal
  fadeOut : Option Word
  fadeInDue : Bool
  fadeIn : Option Word
  /-- The consecutive-missing count. -/
  missingRun : Word
  deriving DecidableEq, Repr

/-- The clock state of a stream (R86); the minima are read as signed. -/
structure StreamClock where
  current : Option Word
  transits : Word
  last : Option Word
  /-- STREAM_STOP has reached the stream in the window in progress and no transit has been taken since: the model's own field,
  for the STREAM_STOP row of R96 (log 22). -/
  stopped : Bool
  deriving DecidableEq, Repr

/-- The test-sequence checker of a stream (R172). -/
structure Checker where
  /-- SYNC rather than SEARCH. -/
  sync : Bool
  lfsr : BitVec 23
  mismatches : Nat
  lastSeq : Option Word
  errors : Word
  gaps : Word
  checked : Word
  deriving DecidableEq, Repr

/-- One stream record with its playout buffer, concealment state, clock state and checker (R23, R67, R86, R107, R172). -/
structure Stream where
  group : Fin 16
  flowA : Option Flow
  flowB : Option Flow
  channels : Nat
  format : SampleFormat
  packing : Nat
  depth : Nat
  test : Bool
  load : Nat
  state : StreamState
  pair : PairState
  /-- The window pair mismatch count (R38). -/
  windowMismatches : Nat
  /-- The path-A break count (R65). -/
  breaks : Nat
  /-- The timeline origin (seq0, ST0) (R65, R66). -/
  origin : Option (Word × Word)
  ePlay : Option Word
  endSeq : Option Word
  resume : Option Resume
  watchA : PathWatch
  watchB : PathWatch
  counters : StreamCounters
  /-- The consecutive EARLY count (R73). -/
  earlyRun : Nat
  /-- The ring: `depth` slots while the stream is open (R67). -/
  ring : List Slot
  /-- The served-to position, a stream offset (R62). -/
  servedTo : Option Int
  /-- The LOW_HEADROOM arming: armed (R83). -/
  headroomArmed : Bool
  conceal : Conceal
  clock : StreamClock
  checker : Checker
  deriving DecidableEq, Repr

/-! ## Venue groups (03, 05) -/

/-- The slip direction (03, section 3.2): NONE, REPEAT or DROP, in the order of its codes. -/
inductive SlipDir where
  | steady
  | repeating
  | dropping
  deriving DecidableEq, Repr

/-- A window report (R95). -/
structure WindowReport where
  number : Word
  lead : Option (Fin 32)
  members : List (Fin 32 × Option Word)
  delta : Option Int
  step : Bool
  drift : Int
  e : Option Int
  adj : Int
  corr : Int
  dir : SlipDir
  interval : Option Nat
  deriving DecidableEq, Repr

/-- One group record (03, section 3.2). -/
structure Group where
  members : List (Fin 32)
  anchored : Bool
  oRef : Option Word
  q : Option Word
  qAnchor : Option Word
  /-- Hold-back H. -/
  hold : Nat
  outageLimit : Nat
  /-- Early warning W. -/
  warning : Nat
  /-- Drift D. -/
  drift : Int
  /-- Correction rate C. -/
  corr : Int
  dir : SlipDir
  /-- Slip interval I. -/
  interval : Option Nat
  countdown : Nat
  lfsr : BitVec 6
  /-- The window number and blocks-into-window; absent while the window is not started. -/
  window : Option (Word × Nat)
  report : Option WindowReport
  leadLast : Option (Fin 32)
  repeats : Word
  drops : Word
  recentres : Word
  steps : Word
  adjSum : Word
  /-- The adjustment of the pending recentre. -/
  pending : Option Int
  deriving DecidableEq, Repr

/-! ## Output Assembler (07) -/

/-- The source of an output channel; a field that the kind does not use is not held, which stores it as 0 (R123, R132). -/
inductive Source where
  | silent
  | stream (number : Fin 32) (channel : Fin 8)
  | tone (level : Fin 2)
  | feed (number : Fin 16) (channel : Fin 2)
  deriving DecidableEq, Repr

/-- One copy of a map entry (07, section 7.2). -/
structure MapCopy where
  source : Source
  gain : Half
  mute : Bool
  deriving DecidableEq, Repr

/-- One entry of the output map (07, section 7.2). -/
structure MapEntry where
  active : MapCopy
  staged : MapCopy
  pending : Bool
  /-- The clip flag: clipping rather than clean (R131). -/
  clipping : Bool
  clips : Word
  deriving DecidableEq, Repr

/-- The Output Assembler: the map, the commit request and the two TDM buses. -/
structure OutputUnit where
  entries : Vector MapEntry 64
  /-- The commit request (R134). -/
  commit : Bool
  /-- What the gallery TDM output sends in the house block in progress: 64 channels of 48 samples (R121). -/
  tdmOut : List (List Sample)
  /-- The gallery input block available to the Return Mixer: 48 frames of 32 channels (R122). -/
  galleryIn : List Frame
  deriving DecidableEq, Repr

/-! ## Return Mixer (08) -/

/-- The ports a feed sends on (R140). -/
inductive FeedPorts where
  | a
  | b
  | both
  deriving DecidableEq, Repr

/-- The mode of a feed (R140). -/
inductive FeedMode where
  | mix
  | test
  deriving DecidableEq, Repr

/-- One return feed record (08, section 8.1). -/
structure Feed where
  running : Bool
  flowId : Half
  ports : FeedPorts
  channels : Nat
  format : SampleFormat
  packing : Nat
  mode : FeedMode
  row0 : List Half
  row1 : List Half
  talkback : Word
  dimLine : Option (Fin 16)
  dimGain : Half
  cueMask : Half
  nextSeq : Half
  /-- The packet in assembly: the payload bytes of each block already formed (R146, R147). -/
  assembly : List (List Byte)
  /-- The mode applied to the packet in assembly. -/
  assemblyMode : FeedMode
  /-- The boundary that formed the first block of the packet in assembly (R147). -/
  firstBoundary : Word
  generator : BitVec 23
  /-- Model's own (log 14): the mode of the last packet built, which R149 asks for. -/
  lastMode : Option FeedMode
  load : Nat
  sentA : Word
  sentB : Word
  unsentA : Word
  unsentB : Word
  saturated0 : Word
  saturated1 : Word
  deriving DecidableEq, Repr

/-- The Return Mixer. -/
structure ReturnMixer where
  feeds : Vector Feed 16
  /-- What the media ports transmitted at the latest boundary: the port and the packet, in the order handed over. Model's own
  view of the ports' transmit lines (R9, R148, log 18). -/
  transmitted : List (PortId × List Byte)
  deriving DecidableEq, Repr

/-! ## Signal Router (09) -/

/-- The mode of an output line (R152, R153). -/
inductive LineMode where
  | off
  | aligned
  | direct
  | override
  deriving DecidableEq, Repr

/-- The fail value of an output line (R152, R153). -/
inductive FailValue where
  | low
  | high
  | hold
  deriving DecidableEq, Repr

/-- One output line record; `current` is the level of the SIG_OUT pin (R152). -/
structure Line where
  mode : LineMode
  stream : Fin 32
  bit : Fin 16
  invert : Bool
  fail : FailValue
  override : Bool
  current : Bool
  deriving DecidableEq, Repr

/-- The Signal Router. -/
structure SignalRouter where
  lines : Vector Line 16
  /-- The sampled input states (R158). -/
  sampled : Half
  /-- The input-notice mask (R159). -/
  mask : Half
  deriving DecidableEq, Repr

/-! ## Meter Unit (10) -/

/-- One meter point: its accumulator and its last-period record (R162). -/
structure MeterPoint where
  runPeak : Nat
  runSum : Nat
  peak : Nat
  mean : Nat
  deriving DecidableEq, Repr

/-- The figure a watch reads (R167). -/
inductive Measure where
  | peak
  | mean
  deriving DecidableEq, Repr

/-- The mode of a watch (R167). -/
inductive WatchMode where
  | off
  | above
  | below
  | inside
  | outside
  deriving DecidableEq, Repr

/-- The state of a watch (R167). -/
inductive WatchState where
  | off
  | armed
  | tripped
  deriving DecidableEq, Repr

/-- One level watch (R167). -/
structure Watch where
  point : Fin 96
  measure : Measure
  mode : WatchMode
  low : Nat
  high : Nat
  persistence : Nat
  state : WatchState
  run : Nat
  deriving DecidableEq, Repr

/-- The Meter Unit (R162, R163). -/
structure MeterUnit where
  points : Vector MeterPoint 96
  watches : Vector Watch 16
  exponent : Nat
  blocks : Nat
  periods : Word
  lastEnd : Word
  valid : Bool
  deriving DecidableEq, Repr

/-! ## Control line and notice queue (11) -/

/-- The 22 notice kinds, in the order of their codes (R184). -/
inductive NoticeKind where
  | portDown
  | streamOutage
  | groupRelock
  | pairFault
  | houseRefLost
  | watchTrip
  | portUp
  | streamPlaying
  | streamResumed
  | streamEnded
  | pathSilent
  | pathRestored
  | lowHeadroom
  | earlyResync
  | step
  | recentre
  | houseRefLocked
  | commitDone
  | outputClip
  | sigInChange
  | watchClear
  | testSyncLost
  deriving DecidableEq, Repr

/-- One notice of the queue; its class follows from its kind (R184). -/
structure Notice where
  kind : NoticeKind
  subject : Nat
  hbc : Word
  detail : Word
  repeats : BitVec 8
  deriving DecidableEq, Repr

/-- The notice queue (R185, R187); ALERT_N follows from it (R188, log 21). -/
structure NoticeQueue where
  /-- The entries, in arrival order. -/
  entries : List Notice
  lost : Word
  /-- Queue enables, bit i for the kind of code i. -/
  queueEnable : BitVec 22
  /-- Alert enables, bit i for the kind of code i. -/
  alertEnable : BitVec 22
  deriving DecidableEq, Repr

/-- A request of the request queue; `reply` is the body of its reply once it has been taken (R177). -/
structure Request where
  kind : Byte
  tag : Byte
  body : List Byte
  reply : Option (List Byte)
  deriving DecidableEq, Repr

/-- A reply frame: its kind, tag and body (R175). -/
structure Reply where
  kind : Byte
  tag : Byte
  body : List Byte
  deriving DecidableEq, Repr

/-- The reply in transmission; `queued` tells the reply to the oldest queued request from a BUSY reply (R178). -/
structure Sending where
  reply : Reply
  queued : Bool
  deriving DecidableEq, Repr

/-- The Control Line Interface (R176 to R182). -/
structure ControlLine where
  /-- The receiver: hunting, or in a frame with the bytes taken after the sync byte (R176). -/
  receiver : Option (List Byte)
  /-- The request queue, oldest first (R177). -/
  queue : List Request
  /-- The BUSY replies that wait for transmission, oldest first (R178). -/
  busy : List Reply
  /-- The reply in transmission (R178). -/
  sending : Option Sending
  /-- The control rate: 921,600 rather than 115,200 bit/s (R176). -/
  fastRate : Bool
  /-- The control error count (R176). -/
  errors : Word
  /-- A RESET request has been taken and its reset has not yet taken effect (R181). -/
  resetTaken : Bool
  deriving DecidableEq, Repr

/-- The whole part. -/
structure State where
  /-- RESETn is low (R183). -/
  resetLow : Bool
  clock : HouseClock
  portA : Port
  portB : Port
  flows : Vector FlowEntry 64
  streams : Vector Stream 32
  /-- The slots in use of the slot pool (R29). -/
  slotsInUse : Nat
  groups : Vector Group 16
  output : OutputUnit
  returns : ReturnMixer
  signals : SignalRouter
  meters : MeterUnit
  control : ControlLine
  notices : NoticeQueue
  /-- The commands that wait, first in, first out. -/
  pending : List Instr
  deriving DecidableEq, Repr

/-! ## Reset values -/

/-- The House Clock Unit after power-on and RESETn (R42, R43, R44). -/
def HouseClock.reset : HouseClock :=
  { hbc := 0, sample := 0, ref := .free, lockCount := 0, fallbackHoldover := false, losses := 0, edges := 0 }

/-- A port after any reset; the carrier record follows the line (R15). -/
def Port.reset (carrier : Bool) : Port :=
  { state := .off, carrier := carrier, warmUpStart := 0, ingestBudget := 400000, transmitBudget := 100000
    ingestLoad := 0, transmitLoad := 0, received := 0, checkErrors := 0, malformed := 0, unknownFlow := 0, notStarted := 0 }

/-- An unbound Flow Table entry (R16). -/
def FlowEntry.unbound : FlowEntry := { bound := false, port := .a, flowId := 0 }

/-- The initial condition of the concealment state (R107). -/
def Conceal.initial : Conceal :=
  { lastReal := none, fadeOut := none, fadeInDue := false, fadeIn := none, missingRun := 0 }

/-- A clock state with nothing in it (R86). -/
def StreamClock.cleared : StreamClock := { current := none, transits := 0, last := none, stopped := false }

/-- A checker after a reset, STREAM_OPEN or STREAM_CLOSE (R173). -/
def Checker.initial : Checker :=
  { sync := false, lfsr := 1, mismatches := 0, lastSeq := none, errors := 0, gaps := 0, checked := 0 }

/-- Thirteen counters at 0 (R23). -/
def StreamCounters.zero : StreamCounters :=
  { firstA := 0, firstB := 0, duplicates := 0, late := 0, early := 0, afterEnd := 0, formatMismatch := 0
    timelineRejects := 0, pairMismatches := 0, pairOff := 0, missing := 0, skipped := 0, outages := 0 }

/-- A path watch that has just been started or stopped (R75). -/
def PathWatch.cleared : PathWatch := { mark := false, silent := 0 }

/-- A stream record in the CLOSED condition; the fields that then hold no meaning are reported as 0 (R23). -/
def Stream.closed : Stream :=
  { group := 0, flowA := none, flowB := none, channels := 0, format := .l16, packing := 0, depth := 0, test := false
    load := 0, state := .closed, pair := .single, windowMismatches := 0, breaks := 0, origin := none, ePlay := none
    endSeq := none, resume := none, watchA := .cleared, watchB := .cleared, counters := .zero, earlyRun := 0, ring := []
    servedTo := none, headroomArmed := true, conceal := .initial, clock := .cleared, checker := .initial }

/-- The LFSR value that resets and anchoring set: 0b100001 (R46, R52, R98). -/
def slipSeed : BitVec 6 := 0b100001

/-- A group record after any reset (R46). -/
def Group.reset : Group :=
  { members := [], anchored := false, oRef := none, q := none, qAnchor := none, hold := 480, outageLimit := 50
    warning := 0, drift := 0, corr := 0, dir := .steady, interval := none, countdown := 0, lfsr := slipSeed, window := none
    report := none, leadLast := none, repeats := 0, drops := 0, recentres := 0, steps := 0, adjSum := 0, pending := none }

/-- A copy of a map entry after any reset (R124). -/
def MapCopy.reset : MapCopy := { source := .silent, gain := 16384, mute := false }

/-- A map entry after any reset (R124). -/
def MapEntry.reset : MapEntry :=
  { active := .reset, staged := .reset, pending := false, clipping := false, clips := 0 }

/-- House block 0 carries 0 in every slot of the output bus (R121). -/
def silentOut : List (List Sample) := List.replicate 64 (List.replicate 48 0)

/-- A gallery input block of zeros: what stands before the first capture (log 7). -/
def silentIn : List Frame := List.replicate 48 (List.replicate 32 0)

/-- The Output Assembler after power-on and RESETn (R121, R122, R124). -/
def OutputUnit.reset : OutputUnit :=
  { entries := Vector.replicate 64 .reset, commit := false, tdmOut := silentOut, galleryIn := silentIn }

/-- A return feed record after any reset (R138). -/
def Feed.reset : Feed :=
  { running := false, flowId := 0, ports := .a, channels := 1, format := .l16, packing := 1, mode := .mix
    row0 := List.replicate 32 0, row1 := List.replicate 32 0, talkback := 0, dimLine := none, dimGain := 16384
    cueMask := 0, nextSeq := 0, assembly := [], assemblyMode := .mix, firstBoundary := 0, generator := 1, lastMode := none
    load := 0, sentA := 0, sentB := 0, unsentA := 0, unsentB := 0, saturated0 := 0, saturated1 := 0 }

/-- The Return Mixer after any reset (R138). -/
def ReturnMixer.reset : ReturnMixer := { feeds := Vector.replicate 16 .reset, transmitted := [] }

/-- An output line after any reset (R152). -/
def Line.reset : Line :=
  { mode := .off, stream := 0, bit := 0, invert := false, fail := .low, override := false, current := false }

/-- The Signal Router after any reset (R152, R158, R159). -/
def SignalRouter.reset : SignalRouter := { lines := Vector.replicate 16 .reset, sampled := 0, mask := 0 }

/-- A meter point after any reset (R163). -/
def MeterPoint.reset : MeterPoint := { runPeak := 0, runSum := 0, peak := 0, mean := 0 }

/-- A watch after any reset (R167). -/
def Watch.reset : Watch :=
  { point := 0, measure := .peak, mode := .off, low := 0, high := 0, persistence := 1, state := .off, run := 0 }

/-- The Meter Unit after any reset (R163, R167). -/
def MeterUnit.reset : MeterUnit :=
  { points := Vector.replicate 96 .reset, watches := Vector.replicate 16 .reset, exponent := 8, blocks := 0
    periods := 0, lastEnd := 0, valid := false }

/-- The notice queue after any reset: every kind queue-enabled, the six URGENT kinds (codes 0 to 5) alert-enabled (R187). -/
def NoticeQueue.reset : NoticeQueue :=
  { entries := [], lost := 0, queueEnable := 0x3FFFFF, alertEnable := 0x3F }

/-- The control line after power-on and RESETn, at a rate (R182). -/
def ControlLine.reset (fastRate : Bool) : ControlLine :=
  { receiver := none, queue := [], busy := [], sending := none, fastRate := fastRate, errors := 0, resetTaken := false }

/-- The part right after power-on, RESETn high, with no carrier on either Ethernet line and the rate strap at 115,200 bit/s
(logs 7 and 17), and no command waiting. -/
def State.reset : State :=
  { resetLow := false, clock := .reset, portA := .reset false, portB := .reset false
    flows := Vector.replicate 64 .unbound, streams := Vector.replicate 32 .closed, slotsInUse := 0
    groups := Vector.replicate 16 .reset, output := .reset, returns := .reset, signals := .reset, meters := .reset
    control := .reset false, notices := .reset, pending := [] }

end Sys2Proof.Machine
end

