-- ==== Sys2Proof/Machine/Vec.lean ====
section
/-! DEFINITION. Building and changing the fixed register files (32 streams, 16 groups, 64 map entries, ...) in a form that
the kernel evaluates: a vector is generated from a function of its index. -/

namespace Sys2Proof.Machine

/-- The vector whose entry i is `f i`. -/
def vgen {α : Type} (n : Nat) (f : Fin n → α) : Vector α n :=
  ⟨⟨(List.finRange n).map f⟩, by simp⟩

/-- Every entry of a vector changed by a function of its index and itself. -/
def vmap {α β : Type} {n : Nat} (v : Vector α n) (f : Fin n → α → β) : Vector β n :=
  vgen n fun i => f i (v.get i)

/-- One entry of a vector replaced. -/
def vset {α : Type} {n : Nat} (v : Vector α n) (i : Fin n) (x : α) : Vector α n :=
  v.set i.val x i.isLt

/-- Every entry of a vector, in index order. -/
def vlist {α : Type} {n : Nat} (v : Vector α n) : List α := v.toList

/-- The index of a byte value, when it is in range. -/
def toFin? (n : Nat) (k : Nat) : Option (Fin n) :=
  if h : k < n then some ⟨k, h⟩ else none

end Sys2Proof.Machine
end

