-- ==== Sys2Proof/Machine/Flags.lean ====
section
/-! DEFINITION. The notice queue with ALERT_N (R184 to R188), and the status codes of replies (R178). -/

namespace Sys2Proof.Machine

/-- The status of a reply (R178). -/
inductive Status where
  | ok
  | busy
  | badKind
  | badLength
  | badValue
  | badState
  | notFound
  | noSlots
  | noBandwidth
  | flowInUse
  | tooLarge
  | depthTooSmall
  | groupFull
  deriving DecidableEq, Repr

/-- The value of a status in the first body byte of a reply (R178). -/
def Status.code : Status → Byte
  | .ok => 0
  | .busy => 1
  | .badKind => 2
  | .badLength => 3
  | .badValue => 4
  | .badState => 5
  | .notFound => 6
  | .noSlots => 7
  | .noBandwidth => 8
  | .flowInUse => 9
  | .tooLarge => 10
  | .depthTooSmall => 11
  | .groupFull => 12

/-- The code of a notice kind (R184). -/
def NoticeKind.code : NoticeKind → Nat
  | .portDown => 0
  | .streamOutage => 1
  | .groupRelock => 2
  | .pairFault => 3
  | .houseRefLost => 4
  | .watchTrip => 5
  | .portUp => 6
  | .streamPlaying => 7
  | .streamResumed => 8
  | .streamEnded => 9
  | .pathSilent => 10
  | .pathRestored => 11
  | .lowHeadroom => 12
  | .earlyResync => 13
  | .step => 14
  | .recentre => 15
  | .houseRefLocked => 16
  | .commitDone => 17
  | .outputClip => 18
  | .sigInChange => 19
  | .watchClear => 20
  | .testSyncLost => 21

/-- Whether a kind is of class URGENT: the kinds of codes 0 to 5 (R184). -/
def NoticeKind.urgent : NoticeKind → Bool
  | .portDown | .streamOutage | .groupRelock | .pairFault | .houseRefLost | .watchTrip => true
  | .portUp | .streamPlaying | .streamResumed | .streamEnded | .pathSilent | .pathRestored | .lowHeadroom | .earlyResync
  | .step | .recentre | .houseRefLocked | .commitDone | .outputClip | .sigInChange | .watchClear | .testSyncLost => false

/-- A notice as a block posts it: its kind, its subject and its detail. -/
structure Post where
  kind : NoticeKind
  subject : Nat
  detail : Int
  deriving DecidableEq, Repr

/-- An entry is of the notice's kind and subject (R185). -/
def Notice.matchesPost (n : Notice) (p : Post) : Bool := n.kind == p.kind && n.subject == p.subject

/-- The repeat count rises by 1 unless it stands at 255 (R185). -/
def bumpRepeat (r : BitVec 8) : BitVec 8 := if r = 255 then r else r + 1

/-- A coalescing update of an entry (R185, case 2). -/
def Notice.update (n : Notice) (p : Post) (hbc : Word) : Notice :=
  { n with repeats := bumpRepeat n.repeats, detail := word p.detail, hbc := hbc }

/-- Posting one notice at an HBC: the four cases of R185, in their order. -/
def NoticeQueue.post (nq : NoticeQueue) (hbc : Word) (p : Post) : NoticeQueue :=
  if nq.queueEnable.getLsbD p.kind.code = false then nq
  else if nq.entries.any (·.matchesPost p) then
    { nq with entries := nq.entries.map fun n => if n.matchesPost p then n.update p hbc else n }
  else if nq.entries.length < Config.noticeQueueSize then
    { nq with entries := nq.entries ++
        [{ kind := p.kind, subject := p.subject, hbc := hbc, detail := word p.detail, repeats := 0 }] }
  else { nq with lost := nq.lost + 1 }

/-- Posting several notices in order at one HBC. -/
def NoticeQueue.postAll (nq : NoticeQueue) (hbc : Word) (ps : List Post) : NoticeQueue :=
  ps.foldl (fun q p => q.post hbc p) nq

/-- ALERT_N is high when no queued entry is of an alert-enabled kind, and low otherwise (R188). -/
def NoticeQueue.alertN (nq : NoticeQueue) : Bool :=
  !(nq.entries.any fun n => nq.alertEnable.getLsbD n.kind.code)

/-- The ALERT_N pin: true for high (R188). -/
def State.alertN (s : State) : Bool := s.notices.alertN

/-- A notice posted by a block, at the HBC as it stands (R185). -/
def State.post (s : State) (p : Post) : State :=
  { s with notices := s.notices.post s.clock.hbc p }

/-- Notices posted in order, at the HBC as it stands (R185). -/
def State.postAll (s : State) (ps : List Post) : State :=
  { s with notices := s.notices.postAll s.clock.hbc ps }

/-- The entries that a NOTICE_FETCH of at most `n` removes: the URGENT ones in arrival order, then the ROUTINE ones (R186). -/
def NoticeQueue.fetched (nq : NoticeQueue) (n : Nat) : List Notice :=
  (nq.entries.filter (·.kind.urgent) ++ nq.entries.filter (fun e => !e.kind.urgent)).take n

/-- The queue after a NOTICE_FETCH: the fetched entries removed, the others in their order, the lost count 0 (R186). -/
def NoticeQueue.afterFetch (nq : NoticeQueue) (n : Nat) : NoticeQueue :=
  { nq with entries := nq.entries.filter (fun e => !(nq.fetched n).contains e), lost := 0 }

end Sys2Proof.Machine
end

