-- ==== Sys2Proof/Machine/Ops.lean ====
section
/-! DEFINITION. The named operations over the state's records: reading and writing one port, stream, group, map entry, feed,
output line, flow entry, and the time of an event within its house block. -/

namespace Sys2Proof.Machine

/-- The port of a number: 0 is A and 1 is B. -/
def portOf (n : Nat) : PortId := if n = 0 then .a else .b

/-- The number of a port. -/
def portNumber : PortId → Nat
  | .a => 0
  | .b => 1

/-- The number of a path: 0 for path A and 1 for path B (R76). -/
def pathNumber : PathId → Nat
  | .a => 0
  | .b => 1

/-- One port. -/
def State.port (s : State) : PortId → Port
  | .a => s.portA
  | .b => s.portB

/-- One port replaced. -/
def State.setPort (s : State) (p : PortId) (x : Port) : State :=
  match p with
  | .a => { s with portA := x }
  | .b => { s with portB := x }

/-- One stream record. -/
def State.stream (s : State) (i : Fin 32) : Stream := s.streams.get i

/-- One stream record replaced. -/
def State.setStream (s : State) (i : Fin 32) (x : Stream) : State := { s with streams := vset s.streams i x }

/-- One group record. -/
def State.group (s : State) (g : Fin 16) : Group := s.groups.get g

/-- One group record replaced. -/
def State.setGroup (s : State) (g : Fin 16) (x : Group) : State := { s with groups := vset s.groups g x }

/-- One map entry. -/
def State.mapEntry (s : State) (k : Fin 64) : MapEntry := s.output.entries.get k

/-- One map entry replaced. -/
def State.setMapEntry (s : State) (k : Fin 64) (x : MapEntry) : State :=
  { s with output := { s.output with entries := vset s.output.entries k x } }

/-- One return feed record. -/
def State.feed (s : State) (r : Fin 16) : Feed := s.returns.feeds.get r

/-- One return feed record replaced. -/
def State.setFeed (s : State) (r : Fin 16) (x : Feed) : State :=
  { s with returns := { s.returns with feeds := vset s.returns.feeds r x } }

/-- One output line record. -/
def State.line (s : State) (k : Fin 16) : Line := s.signals.lines.get k

/-- One output line record replaced. -/
def State.setLine (s : State) (k : Fin 16) (x : Line) : State :=
  { s with signals := { s.signals with lines := vset s.signals.lines k x } }

/-- One level watch. -/
def State.watch (s : State) (w : Fin 16) : Watch := s.meters.watches.get w

/-- One level watch replaced. -/
def State.setWatch (s : State) (w : Fin 16) (x : Watch) : State :=
  { s with meters := { s.meters with watches := vset s.meters.watches w x } }

/-- The house sample count: HBC × 48 plus the index within the block, modulo 2^32 (R42). -/
def State.hs (s : State) : Word := s.clock.hbc * 48 + BitVec.ofNat 32 s.clock.sample.val

/-- The house sample at which an event falls: time within a house block goes on and never back, and it stands still while
RESETn is low (R42, R183, log 1). -/
def State.atSample (s : State) (n : Fin 48) : State :=
  if s.resetLow || n.val ≤ s.clock.sample.val then s else { s with clock := { s.clock with sample := n } }

/-- Every stream record changed by a function of its number and itself. -/
def State.mapStreams (s : State) (f : Fin 32 → Stream → Stream) : State :=
  { s with streams := vmap s.streams f }

/-- The sixteen states as a word, bit k for line k. -/
def bitsOf (f : Fin 16 → Bool) : Half :=
  (List.finRange 16).foldl (fun w k => if f k then w ||| (1#16 <<< k.val) else w) 0

end Sys2Proof.Machine
end

