-- ==== Sys2Proof/Machine/Operands.lean ====
section
/-! DEFINITION. How values stand in request bodies and replies: the codes of named lists (R178: a value takes the code of
the request that sets it, or else its place in the list where its values are first given), and the bytes of records. -/

namespace Sys2Proof.Machine

/-- The code of a reference state (R45). -/
def RefState.code : RefState → Byte
  | .free => 0
  | .locking => 1
  | .locked => 2
  | .holdover => 3

/-- The code of a port state (R12). -/
def PortState.code : PortState → Byte
  | .off => 0
  | .warming => 1
  | .down => 2
  | .up => 3

/-- The code of a sample format (R1, R25). -/
def SampleFormat.code : SampleFormat → Nat
  | .l16 => 0
  | .l24 => 1
  | .l32 => 2

/-- The sample format of a code. -/
def formatOf (n : Nat) : Option SampleFormat :=
  if n = 0 then some .l16 else if n = 1 then some .l24 else if n = 2 then some .l32 else none

/-- Bytes of one sample on the wire (R2). -/
def SampleFormat.bytes : SampleFormat → Nat
  | .l16 => 2
  | .l24 => 3
  | .l32 => 4

/-- The payload of K blocks in bytes (R2, R5, R27). -/
def payloadBytes (k channels : Nat) (f : SampleFormat) : Nat := k * 48 * channels * f.bytes

/-- The code of a stream state, by its place in the list of 02 section 2.1 (R178). -/
def StreamState.code : StreamState → Byte
  | .closed => 0
  | .ready => 1
  | .acquiring => 2
  | .primed => 3
  | .playing => 4
  | .outage => 5
  | .draining => 6
  | .ended => 7

/-- The code of a pair state, by its place in the list of 02 section 2.1 (R178). -/
def PairState.code : PairState → Byte
  | .single => 0
  | .paired => 1
  | .pairFault => 2

/-- The code of a slip direction, by its place in the list of 03 section 3.2 (R178). -/
def SlipDir.code : SlipDir → Byte
  | .steady => 0
  | .repeating => 1
  | .dropping => 2

/-- The three bytes of a source in MAP_SET's encoding: kind, first and second parameter, unused ones 0 (R132). -/
def Source.bytes : Source → List Byte
  | .silent => [0, 0, 0]
  | .stream n c => [1, byteOf n.val, byteOf c.val]
  | .tone l => [2, byteOf l.val, 0]
  | .feed r c => [3, byteOf r.val, byteOf c.val]

/-- The source that MAP_SET's three bytes name, when they are in range; unused parameters are not read (R132). -/
def sourceOf (kind p1 p2 : Nat) : Option Source :=
  if kind = 0 then some .silent
  else if kind = 1 then
    match toFin? 32 p1, toFin? 8 p2 with
    | some n, some c => some (.stream n c)
    | _, _ => none
  else if kind = 2 then (toFin? 2 p1).map .tone
  else if kind = 3 then
    match toFin? 16 p1, toFin? 2 p2 with
    | some r, some c => some (.feed r c)
    | _, _ => none
  else none

/-- The six bytes of a map copy: the fields of MAP_SET from the source kind on (R137). -/
def MapCopy.bytes (c : MapCopy) : List Byte := c.source.bytes ++ be16 c.gain.toNat ++ beFlag c.mute

/-- The code of a feed's ports (R140). -/
def FeedPorts.code : FeedPorts → Byte
  | .a => 0
  | .b => 1
  | .both => 2

/-- The ports of a code. -/
def feedPortsOf (n : Nat) : Option FeedPorts :=
  if n = 0 then some .a else if n = 1 then some .b else if n = 2 then some .both else none

/-- Whether a feed's ports name a port. -/
def FeedPorts.names : FeedPorts → PortId → Bool
  | .a, .a => true
  | .b, .b => true
  | .both, _ => true
  | .a, .b => false
  | .b, .a => false

/-- The code of a feed's mode (R140). -/
def FeedMode.code : FeedMode → Byte
  | .mix => 0
  | .test => 1

/-- The mode of a code. -/
def feedModeOf (n : Nat) : Option FeedMode := if n = 0 then some .mix else if n = 1 then some .test else none

/-- The code of a line mode (R153). -/
def LineMode.code : LineMode → Byte
  | .off => 0
  | .aligned => 1
  | .direct => 2
  | .override => 3

/-- The line mode of a code. -/
def lineModeOf (n : Nat) : Option LineMode :=
  if n = 0 then some .off else if n = 1 then some .aligned else if n = 2 then some .direct
  else if n = 3 then some .override else none

/-- The code of a fail value (R153). -/
def FailValue.code : FailValue → Byte
  | .low => 0
  | .high => 1
  | .hold => 2

/-- The fail value of a code. -/
def failValueOf (n : Nat) : Option FailValue :=
  if n = 0 then some .low else if n = 1 then some .high else if n = 2 then some .hold else none

/-- The code of a measure (R169). -/
def Measure.code : Measure → Byte
  | .peak => 0
  | .mean => 1

/-- The measure of a code. -/
def measureOf (n : Nat) : Option Measure := if n = 0 then some .peak else if n = 1 then some .mean else none

/-- The code of a watch mode (R169). -/
def WatchMode.code : WatchMode → Byte
  | .off => 0
  | .above => 1
  | .below => 2
  | .inside => 3
  | .outside => 4

/-- The watch mode of a code. -/
def watchModeOf (n : Nat) : Option WatchMode :=
  if n = 0 then some .off else if n = 1 then some .above else if n = 2 then some .below
  else if n = 3 then some .inside else if n = 4 then some .outside else none

/-- The code of a watch state (R169). -/
def WatchState.code : WatchState → Byte
  | .off => 0
  | .armed => 1
  | .tripped => 2

/-- A present flag followed by a value of four bytes, 0 when absent (R178). -/
def optWord : Option Word → List Byte
  | none => beFlag false ++ be32 0
  | some w => beFlag true ++ beWord w

/-- A present flag followed by a signed quantity of four bytes, 0 when absent (R178). -/
def optInt : Option Int → List Byte
  | none => beFlag false ++ be32 0
  | some x => beFlag true ++ beInt x

/-- A present flag followed by a count of four bytes, 0 when absent (R178). -/
def optNat : Option Nat → List Byte
  | none => beFlag false ++ be32 0
  | some n => beFlag true ++ be32 n

/-- A present flag followed by a stream number of one byte, 0 when absent (R178). -/
def optStream : Option (Fin 32) → List Byte
  | none => beFlag false ++ [0]
  | some i => beFlag true ++ [byteOf i.val]

/-- A flow as a present flag, a port and a flow id (R41). -/
def Flow.bytes? : Option Flow → List Byte
  | none => beFlag false ++ [0] ++ be16 0
  | some f => beFlag true ++ [byteOf (portNumber f.port)] ++ be16 f.flowId.toNat

/-- A window as a started flag, the window number and blocks-into-window (R51). -/
def windowBytes : Option (Word × Nat) → List Byte
  | none => beFlag false ++ be32 0 ++ be32 0
  | some (n, b) => beFlag true ++ beWord n ++ be32 b

/-- The thirteen counters in the order of R40. -/
def StreamCounters.bytes (c : StreamCounters) : List Byte :=
  beWord c.firstA ++ beWord c.firstB ++ beWord c.duplicates ++ beWord c.late ++ beWord c.early ++ beWord c.afterEnd ++
  beWord c.formatMismatch ++ beWord c.timelineRejects ++ beWord c.pairMismatches ++ beWord c.pairOff ++
  beWord c.missing ++ beWord c.skipped ++ beWord c.outages

/-- The timeline origin as a present flag, seq0 and ST0 (R41). -/
def originBytes : Option (Word × Word) → List Byte
  | none => beFlag false ++ be32 0 ++ be32 0
  | some (q, t) => beFlag true ++ beWord q ++ beWord t

/-- The resume record as R41 reports it; an absent last real sequence stands as 0 (log 11). -/
def Resume.bytes? : Option Resume → List Byte
  | none => beFlag false ++ be32 0 ++ be32 0 ++ be32 0 ++ be32 0
  | some r => beFlag true ++ beWord (r.lastReal.elim 0 (·.1)) ++ beWord (r.lastReal.elim 0 (·.2)) ++
      beWord r.nextExpected ++ beWord r.hbc

/-- A window report in the order of R95, its members as a count and their entries (R105). -/
def WindowReport.bytes (r : WindowReport) : List Byte :=
  beWord r.number ++ optStream r.lead ++ be32 r.members.length ++
  r.members.flatMap (fun m => [byteOf m.1.val] ++ optWord m.2) ++
  optInt r.delta ++ beFlag r.step ++ beInt r.drift ++ optInt r.e ++ beInt r.adj ++ beInt r.corr ++
  [r.dir.code] ++ optNat r.interval

/-- The report of a group that holds none: every field 0 and no member (R105, log 11). -/
def WindowReport.none : WindowReport :=
  { number := 0, lead := Option.none, members := [], delta := Option.none, step := false, drift := 0, e := Option.none
    adj := 0, corr := 0, dir := .steady, interval := Option.none }

/-- The last window report as a present flag and its fields (R105). -/
def reportBytes : Option WindowReport → List Byte
  | .none => beFlag false ++ WindowReport.none.bytes
  | .some r => beFlag true ++ r.bytes

/-- A notice as NOTICE_FETCH returns it: 12 bytes (R186). -/
def Notice.bytes (n : Notice) : List Byte :=
  [byteOf n.kind.code] ++ [if n.kind.urgent then 0 else 1] ++ [byteOf n.subject] ++ beWord n.hbc ++ beWord n.detail ++ [n.repeats]

/-- An output line in the encodings of SIGNAL_SET (R160). -/
def Line.bytes (l : Line) : List Byte :=
  [l.mode.code, byteOf l.stream.val, byteOf l.bit.val] ++ beFlag l.invert ++ [l.fail.code] ++ beFlag l.override ++
  beFlag l.current

/-- A watch in the encodings of WATCH_SET, then its state and its run counter (R169). -/
def Watch.bytes (w : Watch) (number : Nat) : List Byte :=
  [byteOf number, byteOf w.point.val, w.measure.code, w.mode.code] ++ be32 w.low ++ be32 w.high ++
  [byteOf w.persistence] ++ [w.state.code] ++ be32 w.run

end Sys2Proof.Machine
end

