-- ==== Sys2Proof/Machine/Control.lean ====
section
/-! DEFINITION. The Control Line Interface: the receiver (R175, R176), the request queue and the taking of requests (R177,
R179), and the transmitter (R178). -/

namespace Sys2Proof.Machine

/-- The sync byte (R175). -/
def syncByte : Byte := 0xC3

/-- The kind of the reply to a request kind (R175, R179). -/
def replyKind (k : Byte) : Byte := if k.toNat < 0x80 then k + 0x80 else k

/-- The bytes of a reply frame on the line: sync, kind, tag, length, body, and the check over all but the sync (R175). -/
def Reply.frame (r : Reply) : List Byte :=
  let covered := [r.kind, r.tag] ++ be16 r.body.length ++ r.body
  [syncByte] ++ covered ++ be16 (crc16 covered).toNat

/-- The body bytes that each request kind must carry, and none for a kind absent from the table of R178. -/
def bodyLength (k : Byte) : Option Nat :=
  match k.toNat with
  | 0x01 => some 0
  | 0x02 => some 0
  | 0x03 => some 0
  | 0x04 => some 1
  | 0x05 => some 8
  | 0x10 => some 1
  | 0x11 => some 1
  | 0x12 => some 9
  | 0x13 => some 2
  | 0x20 => some 16
  | 0x21 => some 1
  | 0x22 => some 1
  | 0x23 => some 1
  | 0x24 => some 1
  | 0x25 => some 1
  | 0x26 => some 1
  | 0x30 => some 6
  | 0x31 => some 1
  | 0x32 => some 1
  | 0x33 => some 1
  | 0x40 => some 7
  | 0x41 => some 0
  | 0x42 => some 1
  | 0x43 => some 3
  | 0x50 => some 17
  | 0x51 => some 66
  | 0x52 => some 1
  | 0x53 => some 1
  | 0x54 => some 2
  | 0x60 => some 6
  | 0x61 => some 4
  | 0x62 => some 0
  | 0x63 => some 2
  | 0x70 => some 1
  | 0x71 => some 2
  | 0x72 => some 13
  | 0x73 => some 1
  | 0x74 => some 2
  | _ => none

/-- The transmitter begins the next frame when none is in transmission: a waiting BUSY reply first, and otherwise the
reply of the oldest queued request once it has been taken (R178). -/
def ControlLine.startReply (c : ControlLine) : ControlLine :=
  match c.sending with
  | some _ => c
  | none =>
    match c.busy with
    | r :: rest => { c with sending := some { reply := r, queued := false }, busy := rest }
    | [] =>
      match c.queue with
      | [] => c
      | r :: _ =>
        match r.reply with
        | none => c
        | some body => { c with sending := some { reply := { kind := replyKind r.kind, tag := r.tag, body := body }, queued := true } }

/-- A request frame received whole with a matching check arrives: it is queued, or given a BUSY reply when the queue holds
four (R177). -/
def ControlLine.arrive (c : ControlLine) (kind tag : Byte) (body : List Byte) : ControlLine :=
  if c.queue.length < Config.requestQueueSize then
    { c with queue := c.queue ++ [{ kind := kind, tag := tag, body := body, reply := none }] }
  else
    ControlLine.startReply { c with busy := c.busy ++ [{ kind := replyKind kind, tag := tag, body := [Status.busy.code] }] }

/-- The frame in the receiver is discarded, the control error count rises, and the receiver hunts (R176). -/
def ControlLine.discardFrame (c : ControlLine) : ControlLine :=
  { c with receiver := none, errors := c.errors + 1 }

/-- The length that a frame's bytes after the sync byte give: bytes 2 and 3 (R175). -/
def frameLength (frame : List Byte) : Nat := field2 frame 2

/-- A whole frame ends: it arrives when its check matches, and is discarded otherwise (R175, R176). -/
def ControlLine.endFrame (c : ControlLine) (frame : List Byte) : ControlLine :=
  let covered := frame.take (4 + frameLength frame)
  if (crc16 covered).toNat = field2 frame (4 + frameLength frame) then
    ControlLine.arrive { c with receiver := none } (frame.getD 0 0) (frame.getD 1 0) (covered.drop 4)
  else c.discardFrame

/-- A byte with a good stop bit reaches the receiver (R176). -/
def ControlLine.receiveByte (c : ControlLine) (b : Byte) : ControlLine :=
  match c.receiver with
  | none => if b = syncByte then { c with receiver := some [] } else c
  | some got =>
    let frame := got ++ [b]
    if frame.length < 4 then { c with receiver := some frame }
    else if Config.maxBody < frameLength frame then c.discardFrame
    else if frame.length = 6 + frameLength frame then c.endFrame frame
    else { c with receiver := some frame }

/-- Bytes with good stop bits reach the receiver, in order. -/
def ControlLine.receive (c : ControlLine) (bytes : List Byte) : ControlLine := bytes.foldl ControlLine.receiveByte c

/-- A byte with a low stop bit, or the 10 ms expiry: a frame in progress is discarded and counted, and a hunting receiver
does nothing (R176). -/
def ControlLine.breakFrame (c : ControlLine) : ControlLine :=
  match c.receiver with
  | none => c
  | some _ => c.discardFrame

/-- Bytes reach the part; while RESETn is low it receives none (R182). -/
def State.receive (s : State) (bytes : List Byte) : State :=
  if s.resetLow then s else { s with control := s.control.receive bytes }

/-- The next request to be taken: the oldest one not yet taken, and none while a RESET taken has not taken effect (R177, R181). -/
def ControlLine.next (c : ControlLine) : Option Request :=
  if c.resetTaken then none else c.queue.find? (·.reply.isNone)

/-- The reply of the oldest request not yet taken is formed. -/
def answerFirst (body : List Byte) : List Request → List Request
  | [] => []
  | r :: rest => if r.reply.isNone then { r with reply := some body } :: rest else r :: answerFirst body rest

/-- The next request is taken with this reply body, and the transmitter begins it when it may (R177, R178). -/
def ControlLine.answer (c : ControlLine) (body : List Byte) : ControlLine :=
  ControlLine.startReply { c with queue := answerFirst body c.queue }

/-- The next request is taken with this reply body. -/
def State.answer (s : State) (body : List Byte) : State := { s with control := s.control.answer body }

/-- What a request's own checks and effects give: a refusal with its status, or the new state and the reply's data. -/
abbrev Served := Except Status (State × List Byte)

/-- The taking of a request that has been served: a refused one changes nothing and its reply is the status alone; one that
is taken has its effects and its reply is OK and the data (R177, R178). -/
def State.conclude (s : State) : Served → State
  | .error st => s.answer [st.code]
  | .ok (t, data) => t.answer (Status.ok.code :: data)

/-- The taking of the next request when it is of the kind `kind`: a wrong body length is BAD_LENGTH, and otherwise the
request's own checks and effects follow (R179). When the next request is of another kind, or there is none, the event is
not due and nothing happens (log 3). -/
def State.take (s : State) (kind : Byte) (serve : State → List Byte → Served) : State :=
  match s.control.next with
  | none => s
  | some r =>
    if r.kind = kind then
      if bodyLength kind = some r.body.length then s.conclude (serve s r.body)
      else s.answer [Status.badLength.code]
    else s

/-- A request's check: refused with a status when it fails. -/
def require (ok : Bool) (st : Status) : Except Status Unit := if ok then .ok () else .error st

end Sys2Proof.Machine
end

