-- ==== Sys2Proof/Machine/Clock.lean ====
section
/-! DEFINITION. The House Clock Unit: the house counters, the reference state and its queries (R42 to R45). -/

namespace Sys2Proof.Machine

/-- A reference edge at the present house sample: FREE and HOLDOVER move to LOCKING with lock count 0 and themselves as the
fallback state (R43). -/
def HouseClock.edge (c : HouseClock) : HouseClock :=
  let c := { c with edges := c.edges ||| (1#48 <<< c.sample.val) }
  match c.ref with
  | .free => { c with ref := .locking, lockCount := 0, fallbackHoldover := false }
  | .holdover => { c with ref := .locking, lockCount := 0, fallbackHoldover := true }
  | .locking => c
  | .locked => c

/-- The judgement of the house block just ended (R43). -/
inductive BlockJudgement where
  | full
  | partialBlock
  | absent
  deriving DecidableEq, Repr

/-- A block is full when a reference edge came at every house sample of it, absent when none came, and partial otherwise. -/
def HouseClock.judgement (c : HouseClock) : BlockJudgement :=
  if c.edges = BitVec.allOnes 48 then .full else if c.edges = 0 then .absent else .partialBlock

/-- The reference state after the boundary that judges a block, and the notices that it posts (R43, R44). -/
def HouseClock.judge (c : HouseClock) : HouseClock × List Post :=
  match c.ref, c.judgement with
  | .locking, .full =>
    if c.lockCount + 1 < Config.lockBlocks then ({ c with lockCount := c.lockCount + 1 }, [])
    else ({ c with ref := .locked, lockCount := 0, fallbackHoldover := false },
      [{ kind := .houseRefLocked, subject := 0, detail := if c.fallbackHoldover then 1 else 0 }])
  | .locking, .partialBlock => ({ c with lockCount := 0 }, [])
  | .locking, .absent =>
    ({ c with ref := if c.fallbackHoldover then .holdover else .free, lockCount := 0, fallbackHoldover := false }, [])
  | .locked, .absent =>
    ({ c with ref := .holdover, losses := c.losses + 1 }, [{ kind := .houseRefLost, subject := 0, detail := 0 }])
  | .locked, .full => (c, [])
  | .locked, .partialBlock => (c, [])
  | .free, _ => (c, [])
  | .holdover, _ => (c, [])

/-- HBC rises by 1 and a new house block begins at its sample 0 (R42). -/
def HouseClock.advance (c : HouseClock) : HouseClock := { c with hbc := c.hbc + 1, sample := 0, edges := 0 }

/-- The House Clock Unit at a boundary: HBC rises, and the block just ended is judged with its notices posted at the new
HBC (R42, R43, R44). -/
def State.clockBoundary (s : State) : State :=
  let j := s.clock.judge
  ({ s with clock := j.1.advance } : State).postAll j.2

/-- CLOCK_QUERY's checks and reply (R45). -/
def serveClockQuery (s : State) (_body : List Byte) : Served :=
  let c := s.clock
  let locking := c.ref == .locking
  .ok (s, [c.ref.code] ++ [if locking && c.fallbackHoldover then 3 else 0] ++ be32 (if locking then c.lockCount else 0) ++
    beWord c.losses ++ beWord c.hbc ++ beWord s.hs)

/-- HREF_EDGE (R43); while RESETn is low the unit does not act on edges (R183). -/
def execHrefEdge (sample : Fin 48) (s : State) : Host.Outcome State Fault Refusal :=
  if s.resetLow then .next s
  else
    let t := s.atSample sample
    .next { t with clock := t.clock.edge }

/-- CLOCK_QUERY (R45), taken at a house sample. -/
def execClockQuery (sample : Fin 48) (s : State) : Host.Outcome State Fault Refusal :=
  .next (s.take 0x03 fun t body => serveClockQuery (t.atSample sample) body)

end Sys2Proof.Machine
end

