-- ==== Sys2Proof/Machine/Meters.lean ====
section
/-! DEFINITION. The Meter Unit: the meter points and the meter period (R162 to R164), the level watches (R167, R168), and the
meter and watch requests (R165, R166, R169). -/

namespace Sys2Proof.Machine

/-- The magnitude of a sample, 0 to 8,388,608 (R164). -/
def magnitude (s : Sample) : Nat := s.toInt.natAbs

/-- The square of a sample shifted right arithmetically by 8 bits, which floors (R164). -/
def squareOf (s : Sample) : Nat := ((s.toInt / 256) * (s.toInt / 256)).toNat

/-- A point takes its block into its accumulator (R163, R164). -/
def MeterPoint.accumulate (p : MeterPoint) (block : List Sample) : MeterPoint :=
  { p with
    runPeak := block.foldl (fun m s => max m (magnitude s)) p.runPeak
    runSum := block.foldl (fun t s => t + squareOf s) p.runSum }

/-- A period end latches the point's record and clears its accumulator; the period held 48 × 2^n samples (R163, R164). -/
def MeterPoint.latch (p : MeterPoint) (exponent : Nat) : MeterPoint :=
  { runPeak := 0, runSum := 0, peak := p.runPeak, mean := p.runSum / (48 * 2 ^ exponent) }

/-- An accumulator cleared, the record kept (R165). -/
def MeterPoint.abandon (p : MeterPoint) : MeterPoint := { p with runPeak := 0, runSum := 0 }

/-- The measured value of a watch (R167). -/
def Watch.measured (w : Watch) (p : MeterPoint) : Nat :=
  match w.measure with
  | .peak => p.peak
  | .mean => p.mean

/-- The condition of a watch on a measured value (R167). -/
def Watch.condition (w : Watch) (v : Nat) : Bool :=
  match w.mode with
  | .off => false
  | .above => decide (w.high < v)
  | .below => decide (v < w.low)
  | .inside => decide (w.low ≤ v) && decide (v ≤ w.high)
  | .outside => decide (v < w.low) || decide (w.high < v)

/-- A watch evaluated at a period end (R168). -/
def Watch.evaluate (w : Watch) (v : Nat) : Watch :=
  match w.state with
  | .off => w
  | .armed =>
    if w.condition v then
      if w.run + 1 < w.persistence then { w with run := w.run + 1 } else { w with state := .tripped, run := 0 }
    else { w with run := 0 }
  | .tripped =>
    if w.condition v then { w with run := 0 }
    else if w.run + 1 < w.persistence then { w with run := w.run + 1 } else { w with state := .armed, run := 0 }

/-- The notice of a watch evaluated at a period end (R168). -/
def Watch.posts (w : Watch) (number : Nat) (v : Nat) : List Post :=
  match w.state with
  | .off => []
  | .armed =>
    if w.condition v && !decide (w.run + 1 < w.persistence) then
      [{ kind := .watchTrip, subject := number, detail := (v : Int) }] else []
  | .tripped =>
    if !w.condition v && !decide (w.run + 1 < w.persistence) then
      [{ kind := .watchClear, subject := number, detail := (v : Int) }] else []

/-- The boundary is the period end: the count reaches 2^n with its block (R163). -/
def MeterUnit.periodDue (m : MeterUnit) : Bool := m.blocks + 1 == 2 ^ m.exponent

/-- The points with their blocks taken (R163). -/
def MeterUnit.taken (m : MeterUnit) (blocks : Fin 96 → List Sample) : Vector MeterPoint 96 :=
  vmap m.points fun k p => p.accumulate (blocks k)

/-- The points as a period end latches them (R163). -/
def MeterUnit.latched (m : MeterUnit) (blocks : Fin 96 → List Sample) : Vector MeterPoint 96 :=
  vmap m.points fun k p => (p.accumulate (blocks k)).latch m.exponent

/-- The Meter Unit at a boundary, with the notices of its watches (R163, R168). The notices of one period end are posted in rising
watch number: R168 gives no order (DESIGN CHOICE, log 27). -/
def MeterUnit.boundary (m : MeterUnit) (hbc : Word) (blocks : Fin 96 → List Sample) : MeterUnit × List Post :=
  if m.periodDue then
    let points := m.latched blocks
    ({ m with
        points := points
        watches := vmap m.watches fun _ w => w.evaluate (w.measured (points.get w.point))
        blocks := 0, periods := m.periods + 1, lastEnd := hbc, valid := true },
      ((vmap m.watches fun k w => w.posts k.val (w.measured (points.get w.point))).toList).flatten)
  else ({ m with points := m.taken blocks, blocks := m.blocks + 1 }, [])

/-- METER_SET's check, effect and reply (R165). -/
def serveMeterSet (s : State) (body : List Byte) : Served := do
  let n := field1 body 0
  require (decide (4 ≤ n) && decide (n ≤ 10)) .badValue
  let m : MeterUnit := { s.meters with
    exponent := n, blocks := 0, valid := false, points := vmap s.meters.points fun _ p => p.abandon }
  return ({ s with meters := m }, [byteOf n])

/-- METER_READ's checks and reply (R166). -/
def serveMeterRead (s : State) (body : List Byte) : Served :=
  let first := field1 body 0
  let count := field1 body 1
  if 95 < first then .error .notFound
  else do
    require (decide (1 ≤ count) && decide (first + count ≤ 96)) .badValue
    let m := s.meters
    return (s, [byteOf m.exponent] ++ beFlag m.valid ++ beWord m.periods ++ beWord m.lastEnd ++
      ((m.points.toList.drop first).take count).flatMap fun p => be32 p.peak ++ be32 p.mean)

/-- The watch that a WATCH_SET body gives, when its fields are in range; mode OFF gives the reset condition (R169). -/
def watchOf (body : List Byte) : Option Watch :=
  match watchModeOf (field1 body 3) with
  | none => none
  | some .off => some .reset
  | some mode =>
    match toFin? 96 (field1 body 1), measureOf (field1 body 2) with
    | some p, some m =>
      if field1 body 12 ≠ 0 ∧ field4 body 4 ≤ field4 body 8 then
        some { point := p, measure := m, mode := mode, low := field4 body 4, high := field4 body 8
               persistence := field1 body 12, state := .armed, run := 0 }
      else none
    | _, _ => none

/-- WATCH_SET's checks, effect and reply (R169). -/
def serveWatchSet (s : State) (body : List Byte) : Served :=
  match toFin? 16 (field1 body 0) with
  | none => .error .notFound
  | some k =>
    match watchOf body with
    | none => .error .badValue
    | some w => .ok (s.setWatch k w, [w.state.code])

/-- WATCH_QUERY's check and reply (R169). -/
def serveWatchQuery (s : State) (body : List Byte) : Served :=
  let n := field1 body 0
  if n = 255 then .ok (s, (s.meters.watches.toList.zipIdx).flatMap fun w => w.1.bytes w.2)
  else
    match toFin? 16 n with
    | none => .error .notFound
    | some k => .ok (s, (s.watch k).bytes k.val)

/-- METER_SET (R165). -/
def execMeterSet (s : State) : Host.Outcome State Fault Refusal := .next (s.take 0x70 serveMeterSet)

/-- METER_READ (R166). -/
def execMeterRead (s : State) : Host.Outcome State Fault Refusal := .next (s.take 0x71 serveMeterRead)

/-- WATCH_SET (R169). -/
def execWatchSet (s : State) : Host.Outcome State Fault Refusal := .next (s.take 0x72 serveWatchSet)

/-- WATCH_QUERY (R169). -/
def execWatchQuery (s : State) : Host.Outcome State Fault Refusal := .next (s.take 0x73 serveWatchQuery)

end Sys2Proof.Machine
end

