-- ==== Sys2Proof/Machine/Packet.lean ====
section
/-! DEFINITION. The contribution packet: its check, its format and length tests, its fields, its samples (R1 to R6), and the
layout of the packets that the part builds (R147). -/

namespace Sys2Proof.Machine

/-- A well-formed contribution packet (R1). -/
structure Packet where
  packing : Nat
  format : SampleFormat
  channels : Nat
  cuePresent : Bool
  test : Bool
  endFlag : Bool
  flowId : Half
  seq : Half
  sourceTime : Word
  cue : Half
  payload : List Byte
  deriving DecidableEq, Repr

/-- The packing K of a packing code (R1). -/
def packingOf (n : Nat) : Option Nat := if n = 0 then some 1 else if n = 1 then some 2 else if n = 2 then some 4 else none

/-- The packing code of K (R1). -/
def packingCode (k : Nat) : Nat := if k = 1 then 0 else if k = 2 then 1 else 2

/-- The check of a datagram: CRC-16 over bytes 0 to 13 and every byte after byte 15, against bytes 14 and 15 (R4). -/
def packetCheckOk (d : List Byte) : Bool := (crc16 (d.take 14 ++ d.drop 16)).toNat == field2 d 14

/-- The format validity and length tests, and the packet when it passes them all (R1, R5). -/
def parsePacket (d : List Byte) : Option Packet :=
  let b0 := field1 d 0
  let b1 := field1 d 1
  let channels := b1 / 16
  match packingOf (b0 / 4 % 4), formatOf (b0 % 4) with
  | some k, some f =>
    let size := payloadBytes k channels f
    if decide (b0 / 16 = 1) && decide (1 ≤ channels) && decide (channels ≤ 8) && decide (b1 % 2 = 0) &&
        decide (field2 d 12 = size) && decide (size ≤ Config.maxPayload) && decide (d.length = 16 + field2 d 12) then
      some
        { packing := k, format := f, channels := channels, cuePresent := b1 / 8 % 2 == 1, test := b1 / 4 % 2 == 1
          endFlag := b1 / 2 % 2 == 1, flowId := BitVec.ofNat 16 (field2 d 2), seq := BitVec.ofNat 16 (field2 d 4)
          sourceTime := BitVec.ofNat 32 (field4 d 6), cue := BitVec.ofNat 16 (field2 d 10), payload := d.drop 16 }
    else none
  | _, _ => none

/-- What step 1 of the ingest order makes of a datagram (R4, R5). -/
inductive Verdict where
  | malformed
  | checkFailed
  | wellFormed (p : Packet)
  deriving DecidableEq, Repr

/-- Step 1 of the ingest order: the length of a header, the check, then the format and length tests (R4, R5, R18). -/
def judgeDatagram (d : List Byte) : Verdict :=
  if d.length < 16 then .malformed
  else if packetCheckOk d then
    match parsePacket d with
    | some p => .wellFormed p
    | none => .malformed
  else .checkFailed

/-- A list cut into `count` pieces of `size`. -/
def chunks {α : Type} (size : Nat) : Nat → List α → List (List α)
  | 0, _ => []
  | count + 1, l => l.take size :: chunks size count (l.drop size)

/-- One wire sample converted to the internal 24-bit format (R6). -/
def convertSample (f : SampleFormat) (bytes : List Byte) : Sample :=
  match f with
  | .l16 => sampleOf ((BitVec.ofNat 16 (beNat bytes)).toInt * 256)
  | .l24 => BitVec.ofNat 24 (beNat bytes)
  | .l32 => sampleOf ((BitVec.ofNat 32 (beNat bytes)).toInt / 256)

/-- One block's bytes as 48 frames, channel 0 first (R2, R6). -/
def blockFrames (f : SampleFormat) (channels : Nat) (bytes : List Byte) : List Frame :=
  (chunks (channels * f.bytes) 48 bytes).map fun instant => (chunks f.bytes channels instant).map (convertSample f)

/-- The blocks of a packet, in order (R3, R6). -/
def Packet.blocks (p : Packet) : List (List Frame) :=
  (chunks (48 * p.channels * p.format.bytes) p.packing p.payload).map (blockFrames p.format p.channels)

/-- A 24-bit sample as the bytes of an L24 payload. -/
def bytes24 (s : Sample) : List Byte := [byteOf (s.toNat / 65536), byteOf (s.toNat / 256), byteOf s.toNat]

/-- A 16-bit value as the bytes of an L16 payload. -/
def bytes16 (x : Int) : List Byte := be16 (BitVec.ofInt 16 x).toNat

/-- The header bytes 0 to 13 of a packet (R1). -/
def Packet.header (p : Packet) : List Byte :=
  [byteOf (16 + packingCode p.packing * 4 + p.format.code),
   byteOf (p.channels * 16 + (if p.cuePresent then 8 else 0) + (if p.test then 4 else 0) + (if p.endFlag then 2 else 0))] ++
  be16 p.flowId.toNat ++ be16 p.seq.toNat ++ beWord p.sourceTime ++ be16 p.cue.toNat ++ be16 p.payload.length

/-- The whole packet with its check in bytes 14 and 15 (R1, R4). -/
def Packet.datagram (p : Packet) : List Byte :=
  p.header ++ be16 (crc16 (p.header ++ p.payload)).toNat ++ p.payload

end Sys2Proof.Machine
end

