-- ==== Sys2Proof/Machine/Groups.lean ====
section
/-! DEFINITION. Venue groups: anchoring and unanchoring (R52, R53), the window-end arithmetic (R87 to R95), the slip LFSR and
the slip decision (R97, R98), the pending recentre (R58), and the group requests (R48 to R51, R59, R104 to R106). -/

namespace Sys2Proof.Machine

/-- A stream holds its group's timeline in PRIMED, PLAYING, OUTAGE, DRAINING and ENDED (R53). -/
def StreamState.holdsTimeline : StreamState → Bool
  | .primed | .playing | .outage | .draining | .ended => true
  | .closed | .ready | .acquiring => false

/-- A stream is drawn in PRIMED, PLAYING, OUTAGE and DRAINING (R77). -/
def StreamState.drawn : StreamState → Bool
  | .primed | .playing | .outage | .draining => true
  | .closed | .ready | .acquiring | .ended => false

/-- The current minimum becomes absent and the transit count 0; the last minimum stands (R86). -/
def StreamClock.drop (c : StreamClock) : StreamClock := { c with current := none, transits := 0 }

/-- STREAM_STOP drops the current minimum (R86) and marks the window for the STREAM_STOP row of R96. -/
def StreamClock.stop (c : StreamClock) : StreamClock := { c.drop with stopped := true }

/-- A transit offset is taken: the smaller of it and the current minimum as signed values (R85, R86). -/
def StreamClock.take (c : StreamClock) (o : Word) : StreamClock :=
  { c with
    current := match c.current with
      | none => some o
      | some m => if o.toInt < m.toInt then some o else some m
    transits := c.transits + 1
    stopped := false }

/-- A window end: the current minimum, present or absent, moves to the last minimum (R86, R95), but for a member that STREAM_STOP
reached in the window that ends: it keeps its last minimum, by the STREAM_STOP row of R96 against R86 and R95 (DESIGN CHOICE, log
22). -/
def StreamClock.roll (c : StreamClock) : StreamClock :=
  { current := none, transits := 0, last := if c.current = none ∧ c.stopped = true then c.last else c.current, stopped := false }

/-! ## Anchoring and unanchoring -/

/-- The group record after its anchoring by a packet with arrival time AT and source time ST (R52). -/
def Group.anchor (g : Group) (arrivalTime sourceTime : Word) : Group :=
  let o := arrivalTime - sourceTime
  let q := o + BitVec.ofNat 32 g.hold
  { g with
    anchored := true, oRef := some o, q := some q, qAnchor := some q, window := none, lfsr := slipSeed, dir := .steady
    countdown := 0, interval := none, repeats := 0, drops := 0, recentres := 0, steps := 0, adjSum := 0
    report := none, leadLast := none }

/-- The group record after its unanchoring (R53). -/
def Group.unanchor (g : Group) : Group :=
  { g with
    anchored := false, oRef := none, q := none, qAnchor := none, window := none, dir := .steady, countdown := 0
    interval := none, pending := none }

/-- Every member of a group changed by a function. -/
def State.mapMembers (s : State) (g : Fin 16) (f : Stream → Stream) : State :=
  let ms := (s.group g).members
  s.mapStreams fun i x => if ms.contains i then f x else x

/-- A group is anchored, and every member's clock state is emptied (R52, R86). -/
def State.anchor (s : State) (g : Fin 16) (arrivalTime sourceTime : Word) : State :=
  (s.mapMembers g fun x => { x with clock := .cleared }).setGroup g ((s.group g).anchor arrivalTime sourceTime)

/-- A group is unanchored: its record (R53), and every member's window minimum and window pair mismatch count. -/
def State.unanchor (s : State) (g : Fin 16) : State :=
  (s.mapMembers g fun x => { x with clock := x.clock.drop, windowMismatches := 0 }).setGroup g (s.group g).unanchor

/-- An anchored group none of whose members holds the timeline becomes UNANCHORED (R53). -/
def State.unanchorIfLeft (s : State) (g : Fin 16) : State :=
  if (s.group g).anchored && !((s.group g).members.any fun i => (s.stream i).state.holdsTimeline) then s.unanchor g else s

/-! ## The window end -/

/-- The members of a group in join order with their current minima (R88, R95). -/
def State.memberMinima (s : State) (g : Fin 16) : List (Fin 32 × Option Word) :=
  (s.group g).members.map fun i => (i, (s.stream i).clock.current)

/-- The lead: the first member, in join order, whose current minimum is present (R88). -/
def leadOf (mins : List (Fin 32 × Option Word)) : Option (Fin 32 × Word) :=
  mins.findSome? fun m => m.2.map fun v => (m.1, v)

/-- The largest current minimum, read as signed (R91). -/
def largestMin (mins : List (Fin 32 × Option Word)) : Option Int :=
  (mins.filterMap fun m => m.2.map BitVec.toInt).max?

/-- The delta of the window: the lead's minimum against its minimum in the last report, when the lead is last window's lead (R88).
After a STREAM_CLOSE of an earlier member, R88's two conditions decide here too, and not the word "absent" of R96's STREAM_CLOSE
row (DESIGN CHOICE, log 23). -/
def Group.delta (g : Group) (mins : List (Fin 32 × Option Word)) : Option Int :=
  match leadOf mins, g.leadLast, g.report with
  | some (i, m), some j, some r =>
    if i = j then
      match r.members.find? (·.1 == i) with
      | some (_, some base) => some (sdiff m base)
      | some (_, none) => none
      | none => none
    else none
  | _, _, _ => none

/-- A delta above 10 samples in magnitude is a step (R89). -/
def isStep (delta : Option Int) : Bool :=
  match delta with
  | some d => decide (10 < d.natAbs)
  | none => false

/-- Drift smoothing: D + trunc((delta × 256 − D) / 8) for a delta that is present and no step (R90). -/
def smoothDrift (d : Int) (delta : Option Int) : Int :=
  match delta with
  | some x => if isStep (some x) then d else d + divTrunc (x * 256 - d) 8
  | none => d

/-- The latency error e = (Q − O_ref) − m_max − H, when some member has a current minimum (R91). It is an exact integer: the spec
gives it no range, and it is cut to 32 bits only in replies, notices and Q (DESIGN CHOICE, log 24). -/
def Group.latencyError (g : Group) (mins : List (Fin 32 × Option Word)) : Option Int :=
  (largestMin mins).map fun m => sdiff (g.q.getD 0) (g.oRef.getD 0) - m - (g.hold : Int)

/-- The adjustment of a recentre: 48 × (e / 48 rounded half away from zero) (R58). -/
def recentreAdj (e : Int) : Int := 48 * divHalfAway e 48

/-- The recentre that a window end schedules: when |e| exceeds 192 (R92). -/
def scheduledRecentre (e : Option Int) : Option Int :=
  match e with
  | some x => if Config.recentreThreshold < (x.natAbs : Int) then some (recentreAdj x) else none
  | none => none

/-- The correction rate C = D − 32 × residual, clamped; D when the residual is absent (R92, R93). -/
def correctionRate (d : Int) (e : Option Int) : Int :=
  match e with
  | some x => clampInt (-Config.maxRate) Config.maxRate (d - 32 * (x - (scheduledRecentre (some x)).getD 0))
  | none => d

/-- The slip direction that C gives (R94). -/
def slipDirOf (c : Int) : SlipDir := if c.natAbs < 4 then .steady else if 0 < c then .repeating else .dropping

/-- The slip interval that C gives: trunc(256,000 / |C|), absent below 4 (R94). -/
def slipIntervalOf (c : Int) : Option Nat := if c.natAbs < 4 then none else some (256000 / c.natAbs)

/-- The slip countdown after a window end, by the cases of R94 in their order. -/
def slipCountdownOf (g : Group) (c : Int) (recentred : Bool) : Nat :=
  match slipIntervalOf c with
  | none => 0
  | some i =>
    if recentred then i
    else if g.dir = .steady then i
    else if g.dir ≠ slipDirOf c then i
    else min g.countdown i

/-- The group record after a window end: the eight steps of R87 on the member minima, window number `n`. -/
def Group.windowEnd (g : Group) (n : Word) (mins : List (Fin 32 × Option Word)) : Group :=
  let delta := g.delta mins
  let step := isStep delta
  let drift := smoothDrift g.drift delta
  let e := g.latencyError mins
  let rec? := scheduledRecentre e
  let c := correctionRate drift e
  let lead := (leadOf mins).map (·.1)
  { g with
    steps := if step then g.steps + 1 else g.steps
    drift := drift
    corr := c
    pending := match rec? with
      | some a => some a
      | none => g.pending
    dir := slipDirOf c
    interval := slipIntervalOf c
    countdown := slipCountdownOf g c rec?.isSome
    report := some
      { number := n, lead := lead, members := mins, delta := delta, step := step, drift := drift, e := e
        adj := rec?.getD 0, corr := c, dir := slipDirOf c, interval := slipIntervalOf c }
    leadLast := lead
    window := some (n + 1, 0) }

/-- The notice of a window end: STEP with the delta as detail (R89). -/
def Group.windowEndPosts (g : Group) (number : Nat) (mins : List (Fin 32 × Option Word)) : List Post :=
  match g.delta mins with
  | some d => if isStep (some d) then [{ kind := .step, subject := number, detail := d }] else []
  | none => []

/-- A window end of a group: its arithmetic, then the members' minima roll over and their window pair mismatch counts clear
(R95, R96). -/
def State.windowEnd (s : State) (g : Fin 16) (n : Word) : State :=
  let mins := s.memberMinima g
  let x := s.group g
  ((s.mapMembers g fun m => { m with clock := m.clock.roll, windowMismatches := 0 }).setGroup g (x.windowEnd n mins)).postAll
    (x.windowEndPosts g.val mins)

/-! ## Slips -/

/-- The LFSR of x^6 + x^5 + 1 advanced by one (R98). -/
def advanceSlip (v : BitVec 6) : BitVec 6 := (v <<< 1) ||| (if v.getLsbD 5 != v.getLsbD 4 then 1 else 0)

/-- The slip position of an LFSR value: (value mod 47) + 1 (R98). -/
def slipPosition (v : BitVec 6) : Nat := v.toNat % 47 + 1

/-- A slip that a draw carries, with its position (R97). -/
inductive Slip where
  | steady
  | repeatAt (p : Nat)
  | dropAt (p : Nat)
  deriving DecidableEq, Repr

/-- The source samples that a draw uses: 48, 47 for a REPEAT and 49 for a DROP (R77). -/
def Slip.sources : Slip → Nat
  | .steady => 48
  | .repeatAt _ => 47
  | .dropAt _ => 49

/-- A slip falls at the next boundary: a direction stands and the countdown is about to reach 0 (R97). -/
def Group.slipDue (g : Group) : Bool := g.dir != .steady && g.countdown ≤ 1

/-- Stage 1: the slip decision, with the countdown and the LFSR it leaves (R97, R98). -/
def Group.slipDecision (g : Group) : Group × Slip :=
  match g.dir with
  | .steady => (g, .steady)
  | .repeating =>
    if g.countdown ≤ 1 then
      let v := advanceSlip g.lfsr
      ({ g with countdown := g.interval.getD 0, lfsr := v }, .repeatAt (slipPosition v))
    else ({ g with countdown := g.countdown - 1 }, .steady)
  | .dropping =>
    if g.countdown ≤ 1 then
      let v := advanceSlip g.lfsr
      ({ g with countdown := g.interval.getD 0, lfsr := v }, .dropAt (slipPosition v))
    else ({ g with countdown := g.countdown - 1 }, .steady)

/-- Stage 4: a slip's change of Q and of its total (R101). -/
def Group.applySlip (g : Group) : Slip → Group
  | .steady => g
  | .repeatAt _ => { g with q := g.q.map (· + 1), repeats := g.repeats + 1 }
  | .dropAt _ => { g with q := g.q.map (· - 1), drops := g.drops + 1 }

/-- Stage 3, the record: Q decreases by adj, the recentre total rises, adj joins the sum, and the recentre is absent (R60). -/
def Group.applyRecentre (g : Group) (adj : Int) : Group :=
  { g with
    q := g.q.map (· - word adj), recentres := g.recentres + 1, adjSum := g.adjSum + word adj, pending := none }

/-! ## Requests -/

/-- The smallest depth among the streams of a group's list (R49). -/
def State.smallestDepth (s : State) (g : Fin 16) : Option Nat :=
  ((s.group g).members.map fun i => (s.stream i).depth).min?

/-- A depth holds a hold-back: H is at most (D − 2) × 48 (R27, R49). -/
def depthHolds (depth hold : Nat) : Bool := hold ≤ (depth - 2) * 48

/-- GROUP_SET's checks, effect and reply (R49). -/
def serveGroupSet (s : State) (body : List Byte) : Served :=
  match toFin? 16 (field1 body 0) with
  | none => .error .notFound
  | some g => do
    let h := field2 body 1
    let limit := field2 body 3
    let w := field1 body 5
    require (decide (48 ≤ h) && decide (h ≤ 12192) && decide (4 ≤ limit) && decide (limit ≤ 1000) && decide (w ≤ 64)) .badValue
    require ((s.smallestDepth g).all fun d => depthHolds d h) .depthTooSmall
    return (s.setGroup g { s.group g with hold := h, outageLimit := limit, warning := w }, be16 h ++ be16 limit ++ [byteOf w])

/-- The five totals in the order of 03 section 3.2. -/
def Group.totals (g : Group) : List Byte :=
  beWord g.repeats ++ beWord g.drops ++ beWord g.recentres ++ beWord g.steps ++ beWord g.adjSum

/-- GROUP_QUERY's reply data (R51). -/
def Group.queryReport (g : Group) : List Byte :=
  beFlag g.anchored ++ be32 g.members.length ++ g.members.map (fun i => byteOf i.val) ++
  be16 g.hold ++ be16 g.outageLimit ++ [byteOf g.warning] ++ optWord g.oRef ++ optWord g.q ++ optWord g.qAnchor ++
  beInt g.drift ++ beInt g.corr ++ [g.dir.code] ++ optNat g.interval ++ be32 g.countdown ++ windowBytes g.window ++
  g.totals ++ optInt g.pending

/-- GROUP_QUERY's check and reply (R51). -/
def serveGroupQuery (s : State) (body : List Byte) : Served :=
  match toFin? 16 (field1 body 0) with
  | none => .error .notFound
  | some g => .ok (s, (s.group g).queryReport)

/-- GROUP_CLOCK's reply data (R105). -/
def Group.clockReport (g : Group) : List Byte :=
  beFlag g.anchored ++ windowBytes g.window ++ beInt g.drift ++ beInt g.corr ++ [g.dir.code] ++ optNat g.interval ++
  be32 g.countdown ++ [byteOf g.lfsr.toNat] ++ g.totals ++ optInt g.pending ++ reportBytes g.report

/-- GROUP_CLOCK's check and reply (R105). -/
def serveGroupClock (s : State) (body : List Byte) : Served :=
  match toFin? 16 (field1 body 0) with
  | none => .error .notFound
  | some g => .ok (s, (s.group g).clockReport)

/-- The latency error that a GROUP_RECENTRE uses: of the window in progress, or else the e of the last report (R59). -/
def State.requestError (s : State) (g : Fin 16) : Option Int :=
  match (s.group g).latencyError (s.memberMinima g) with
  | some e => some e
  | none => (s.group g).report.bind (·.e)

/-- GROUP_RECENTRE's checks, effect and reply (R59). -/
def serveGroupRecentre (s : State) (body : List Byte) : Served :=
  match toFin? 16 (field1 body 0) with
  | none => .error .notFound
  | some g =>
    if (s.group g).anchored && (s.group g).pending.isNone then
      match s.requestError g with
      | none => .error .badState
      | some e =>
        .ok (s.setGroup g { s.group g with pending := some (recentreAdj e) }, beInt e ++ beInt (recentreAdj e))
    else .error .badState

/-- STREAM_CLOCK's check and reply; a stream in CLOSED stands in group 0 (R106). -/
def serveStreamClock (s : State) (body : List Byte) : Served :=
  match toFin? 32 (field1 body 0) with
  | none => .error .notFound
  | some i =>
    let x := s.stream i
    let g := s.group x.group
    .ok (s, [x.state.code, byteOf x.group.val] ++ beFlag g.anchored ++ beWord (g.window.elim 0 (·.1)) ++
      optWord x.clock.last ++ optWord x.clock.current ++ beWord x.clock.transits)

/-- GROUP_SET (R49). -/
def execGroupSet (s : State) : Host.Outcome State Fault Refusal := .next (s.take 0x30 serveGroupSet)

/-- GROUP_QUERY (R51). -/
def execGroupQuery (s : State) : Host.Outcome State Fault Refusal := .next (s.take 0x31 serveGroupQuery)

/-- GROUP_CLOCK (R105). -/
def execGroupClock (s : State) : Host.Outcome State Fault Refusal := .next (s.take 0x32 serveGroupClock)

/-- GROUP_RECENTRE (R59). -/
def execGroupRecentre (s : State) : Host.Outcome State Fault Refusal := .next (s.take 0x33 serveGroupRecentre)

/-- STREAM_CLOCK (R106). -/
def execStreamClock (s : State) : Host.Outcome State Fault Refusal := .next (s.take 0x26 serveStreamClock)

end Sys2Proof.Machine
end

