-- ==== Sys2Proof/Machine/Streams.lean ====
section
/-! DEFINITION. Streams and admission: the open, start, stop, close, repair and query requests (R24 to R41), and the ways back
to READY and ACQUIRING (R33, R56, R74). -/

namespace Sys2Proof.Machine

/-! ## Leaving a timeline -/

/-- A checker returned to SEARCH with its counts kept (R173). -/
def Checker.restart (c : Checker) : Checker := { c with sync := false, mismatches := 0, lastSeq := none }

/-- What STREAM_STOP, a group relock and an early resync all do to a stream, which then stands in the state given: the ring
is emptied and stays reserved, the timeline, resume record and served-to position are absent, the break and EARLY counts
are 0, the path watch stops, the concealment state is initial, and the window minimum is absent (R33, R56, R62, R74). -/
def Stream.leaveTimeline (x : Stream) (state : StreamState) : Stream :=
  { x with
    state := state, ring := List.replicate x.depth .empty, origin := none, ePlay := none, endSeq := none, resume := none
    breaks := 0, earlyRun := 0, watchA := .cleared, watchB := .cleared, servedTo := none, headroomArmed := true
    conceal := .initial, clock := x.clock.drop, checker := x.checker.restart }

/-- A stream is in one of the states that a relock returns to ACQUIRING (R56). -/
def StreamState.relocks : StreamState → Bool
  | .acquiring | .primed | .playing | .outage | .draining => true
  | .closed | .ready | .ended => false

/-- A group relocks: its members in ACQUIRING to DRAINING go to ACQUIRING, the group becomes UNANCHORED whatever ENDED members
it holds, and GROUP_RELOCK is posted with the stream that caused it as detail (R56). -/
def State.relock (s : State) (g : Fin 16) (cause : Fin 32) : State :=
  let t := s.mapMembers g fun x => if x.state.relocks then x.leaveTimeline .acquiring else x
  (t.unanchor g).post { kind := .groupRelock, subject := g.val, detail := (cause.val : Int) }

/-- An early resync of one member: it goes to ACQUIRING, EARLY_RESYNC is posted, and the group is unanchored when no member
holds its timeline any more (R74). -/
def State.earlyResync (s : State) (i : Fin 32) (detail : Int) : State :=
  let x := s.stream i
  ((s.setStream i (x.leaveTimeline .acquiring)).post { kind := .earlyResync, subject := i.val, detail := detail }).unanchorIfLeft
    x.group

/-! ## Admission -/

/-- The load of a flow in kbit/s, rounded up: (82 + payload) × 8 × 1,000 / K bit/s (R30, R144). -/
def flowLoad (k channels : Nat) (f : SampleFormat) : Nat :=
  ((Config.packetOverhead + payloadBytes k channels f) * 8 + (k - 1)) / k

/-- The Flow Table entry of a stream's path A (R16). -/
def entryA (i : Fin 32) : Fin 64 := ⟨2 * i.val, by omega⟩

/-- The Flow Table entry of a stream's path B (R16). -/
def entryB (i : Fin 32) : Fin 64 := ⟨2 * i.val + 1, by omega⟩

/-- An entry is bound to a port and flow id (R17). -/
def FlowEntry.holds (e : FlowEntry) (f : Flow) : Bool := e.bound && e.port == f.port && e.flowId == f.flowId

/-- A flow is held by a bound Flow Table entry (R27, check 6). -/
def State.flowHeld (s : State) (f : Flow) : Bool := s.flows.toList.any (·.holds f)

/-- An entry bound to a flow (R16). -/
def FlowEntry.bind (f : Flow) : FlowEntry := { bound := true, port := f.port, flowId := f.flowId }

/-- An entry with its bound flag cleared (R16). -/
def FlowEntry.unbind (e : FlowEntry) : FlowEntry := { e with bound := false }

/-- What flows charge on a port: the load once for each of them bound there (R27, R28, R31). -/
def chargeOn (p : PortId) (load : Nat) (a b : Option Flow) : Nat :=
  (if a.any (·.port == p) then load else 0) + (if b.any (·.port == p) then load else 0)

/-- A port's admitted ingest load raised. -/
def Port.chargeIngest (x : Port) (n : Nat) : Port := { x with ingestLoad := x.ingestLoad + n }

/-- A port's admitted ingest load lowered. -/
def Port.releaseIngest (x : Port) (n : Nat) : Port := { x with ingestLoad := x.ingestLoad - n }

/-- The fields of a STREAM_OPEN body that are in range (R25, R26). -/
structure OpenFields where
  group : Fin 16
  channels : Nat
  format : SampleFormat
  packing : Nat
  depth : Nat
  test : Bool
  flowA : Flow
  flowB : Option Flow
  deriving DecidableEq, Repr

/-- STREAM_OPEN's fields, when all are in range (R25, R26). -/
def openFields (body : List Byte) : Option OpenFields :=
  match toFin? 16 (field1 body 1), formatOf (field1 body 3) with
  | some g, some f =>
    let channels := field1 body 2
    let k := field1 body 4
    let depth := field2 body 5
    let test := field1 body 7
    let givenA := field1 body 8
    let portA := field1 body 9
    let givenB := field1 body 12
    let portB := field1 body 13
    if decide (1 ≤ channels) && decide (channels ≤ 8) && [1, 2, 4].contains k && [16, 32, 64, 128, 256].contains depth &&
        decide (test ≤ 1) && givenA == 1 && decide (portA ≤ 1) && decide (givenB ≤ 1) &&
        (givenB == 0 || decide (portB ≤ 1)) then
      some
        { group := g, channels := channels, format := f, packing := k, depth := depth, test := test == 1
          flowA := { port := portOf portA, flowId := BitVec.ofNat 16 (field2 body 10) }
          flowB := if givenB = 1 then some { port := portOf portB, flowId := BitVec.ofNat 16 (field2 body 14) } else none }
    else none
  | _, _ => none

/-- The load of the stream that a STREAM_OPEN asks for (R30). -/
def OpenFields.load (o : OpenFields) : Nat := flowLoad o.packing o.channels o.format

/-- What the stream would charge on a port (R27, check 8). -/
def OpenFields.chargeOn (o : OpenFields) (p : PortId) : Nat :=
  Sys2Proof.Machine.chargeOn p o.load (some o.flowA) o.flowB

/-- A port has room for what a stream would add; a port that no given flow names is not checked (R27, check 8). -/
def Port.admits (x : Port) (add : Nat) : Bool := add == 0 || decide (x.ingestLoad + add ≤ x.ingestBudget)

/-- The record that an admitted STREAM_OPEN leaves (R28). -/
def OpenFields.record (o : OpenFields) : Stream :=
  { Stream.closed with
    group := o.group, flowA := some o.flowA, flowB := o.flowB, channels := o.channels, format := o.format
    packing := o.packing, depth := o.depth, test := o.test, load := o.load, state := .ready
    pair := if o.flowB.isSome then .paired else .single
    ring := List.replicate o.depth .empty }

/-- The checks 3 to 8 of R27, in their order. -/
def OpenFields.checks (o : OpenFields) (s : State) : Except Status Unit := do
  require (payloadBytes o.packing o.channels o.format ≤ Config.maxPayload) .tooLarge
  require ((s.group o.group).members.length < 8) .groupFull
  require (depthHolds o.depth (s.group o.group).hold) .depthTooSmall
  require (!(s.flowHeld o.flowA || o.flowB.any s.flowHeld || o.flowB == some o.flowA)) .flowInUse
  require (s.slotsInUse + o.depth ≤ Config.slotPool) .noSlots
  require (s.portA.admits (o.chargeOn .a) && s.portB.admits (o.chargeOn .b)) .noBandwidth

/-- The Flow Table with a stream's flows bound (R16, R28). -/
def bindFlows (fs : Vector FlowEntry 64) (i : Fin 32) (a : Flow) (b : Option Flow) : Vector FlowEntry 64 :=
  let t := vset fs (entryA i) (.bind a)
  match b with
  | some f => vset t (entryB i) (.bind f)
  | none => t

/-- The effects of an admitted STREAM_OPEN (R28). -/
def State.openStream (s : State) (i : Fin 32) (o : OpenFields) : State :=
  let g := s.group o.group
  let t := (s.setStream i o.record).setGroup o.group { g with members := g.members ++ [i] }
  { t with
    flows := bindFlows s.flows i o.flowA o.flowB
    slotsInUse := s.slotsInUse + o.depth
    portA := s.portA.chargeIngest (o.chargeOn .a)
    portB := s.portB.chargeIngest (o.chargeOn .b) }

/-- STREAM_OPEN's checks 0 to 8, effect and reply (R27, R28). -/
def serveStreamOpen (s : State) (body : List Byte) : Served :=
  match toFin? 32 (field1 body 0) with
  | none => .error .notFound
  | some i =>
    if (s.stream i).state ≠ .closed then .error .badState
    else
      match openFields body with
      | none => .error .badValue
      | some o => do
        o.checks s
        let t := s.openStream i o
        return (t, be32 o.load ++ be32 t.portA.ingestLoad ++ be32 t.portB.ingestLoad ++ be32 t.slotsInUse)

/-! ## Start, stop, close, repair, query -/

/-- STREAM_START's checks, effect and reply (R24, R32). -/
def serveStreamStart (s : State) (body : List Byte) : Served :=
  match toFin? 32 (field1 body 0) with
  | none => .error .notFound
  | some i =>
    if (s.stream i).state = .ready then
      .ok (s.setStream i { s.stream i with state := .acquiring }, [StreamState.acquiring.code])
    else .error .badState

/-- The effects of a STREAM_STOP on a started stream (R33). -/
def State.stopStream (s : State) (i : Fin 32) : State :=
  let x := s.stream i
  (s.setStream i { x.leaveTimeline .ready with windowMismatches := 0, clock := x.clock.stop }).unanchorIfLeft x.group

/-- STREAM_STOP's checks, effect and reply (R24, R33). -/
def serveStreamStop (s : State) (body : List Byte) : Served :=
  match toFin? 32 (field1 body 0) with
  | none => .error .notFound
  | some i =>
    match (s.stream i).state with
    | .closed => .error .badState
    | .ready => .ok (s, [StreamState.ready.code])
    | .acquiring | .primed | .playing | .outage | .draining | .ended => .ok (s.stopStream i, [StreamState.ready.code])

/-- A stream leaves its group's list: later members move up, a lead of last window that names it becomes absent (R47, R88). -/
def Group.removeMember (g : Group) (i : Fin 32) : Group :=
  { g with members := g.members.filter (· != i), leadLast := if g.leadLast = some i then none else g.leadLast }

/-- A group whose list is empty has drift D and C at 0 (R47, R53). -/
def Group.settleEmpty (g : Group) : Group := if g.members.isEmpty then { g with drift := 0, corr := 0 } else g

/-- The effects of a STREAM_CLOSE (R34). -/
def State.closeStream (s : State) (i : Fin 32) : State :=
  let x := s.stream i
  let g := x.group
  let t := (s.setStream i .closed).setGroup g ((s.group g).removeMember i)
  let t := t.unanchorIfLeft g
  let t := t.setGroup g (t.group g).settleEmpty
  { t with
    flows := vset (vset s.flows (entryA i) (s.flows.get (entryA i)).unbind) (entryB i) (s.flows.get (entryB i)).unbind
    slotsInUse := s.slotsInUse - x.depth
    portA := s.portA.releaseIngest (chargeOn .a x.load x.flowA x.flowB)
    portB := s.portB.releaseIngest (chargeOn .b x.load x.flowA x.flowB) }

/-- STREAM_CLOSE's checks, effect and reply (R24, R34). -/
def serveStreamClose (s : State) (body : List Byte) : Served :=
  match toFin? 32 (field1 body 0) with
  | none => .error .notFound
  | some i =>
    if (s.stream i).state = .closed then .error .badState
    else
      let t := s.closeStream i
      .ok (t, be32 t.slotsInUse ++ be32 t.portA.ingestLoad ++ be32 t.portB.ingestLoad)

/-- STREAM_REPAIR's checks, effect and reply (R24, R39). -/
def serveStreamRepair (s : State) (body : List Byte) : Served :=
  match toFin? 32 (field1 body 0) with
  | none => .error .notFound
  | some i =>
    let x := s.stream i
    if x.state = .closed then .error .badState
    else
      match x.pair with
      | .single => .error .badState
      | .paired => .ok (s.setStream i { x with windowMismatches := 0 }, [PairState.paired.code])
      | .pairFault =>
        .ok (s.setStream i { x with pair := .paired, windowMismatches := 0 }, [PairState.paired.code])

/-- A stream's place in its group's member list, counted from 0, and 255 in CLOSED (R41). -/
def State.placeOf (s : State) (i : Fin 32) : Nat :=
  let x := s.stream i
  if x.state = .closed then 255 else (s.group x.group).members.idxOf i

/-- STREAM_QUERY's reply data: the thirteen items of R41 in their order. -/
def State.streamReport (s : State) (i : Fin 32) : List Byte :=
  let x := s.stream i
  [x.state.code, x.pair.code] ++
  [byteOf x.group.val, byteOf (s.placeOf i)] ++
  [byteOf x.channels, byteOf x.format.code, byteOf x.packing] ++ beFlag x.test ++
  be16 x.depth ++ be32 x.load ++
  Flow.bytes? x.flowA ++ Flow.bytes? x.flowB ++
  originBytes x.origin ++
  optWord x.ePlay ++
  optWord x.endSeq ++
  Resume.bytes? x.resume ++
  beFlag x.watchA.mark ++ beFlag x.watchB.mark ++
  be32 x.breaks ++ be32 x.windowMismatches ++
  x.counters.bytes ++
  be32 s.slotsInUse

/-- STREAM_QUERY's check and reply (R41). -/
def serveStreamQuery (s : State) (body : List Byte) : Served :=
  match toFin? 32 (field1 body 0) with
  | none => .error .notFound
  | some i => .ok (s, s.streamReport i)

/-- STREAM_OPEN (R28). -/
def execStreamOpen (s : State) : Host.Outcome State Fault Refusal := .next (s.take 0x20 serveStreamOpen)

/-- STREAM_START (R32). -/
def execStreamStart (s : State) : Host.Outcome State Fault Refusal := .next (s.take 0x21 serveStreamStart)

/-- STREAM_STOP (R33). -/
def execStreamStop (s : State) : Host.Outcome State Fault Refusal := .next (s.take 0x22 serveStreamStop)

/-- STREAM_CLOSE (R34). -/
def execStreamClose (s : State) : Host.Outcome State Fault Refusal := .next (s.take 0x23 serveStreamClose)

/-- STREAM_REPAIR (R39). -/
def execStreamRepair (s : State) : Host.Outcome State Fault Refusal := .next (s.take 0x24 serveStreamRepair)

/-- STREAM_QUERY (R41). -/
def execStreamQuery (s : State) : Host.Outcome State Fault Refusal := .next (s.take 0x25 serveStreamQuery)

end Sys2Proof.Machine
end

