-- ==== Sys2Proof/Machine/TestSeq.lean ====
section
/-! DEFINITION. Test sequences: the 23-bit generator (R171), the checker of a stream (R172, R173), and TEST_QUERY (R174). -/

namespace Sys2Proof.Machine

/-- The LFSR of x^23 + x^18 + 1 advanced by one (R171). -/
def advanceTest (v : BitVec 23) : BitVec 23 := (v <<< 1) ||| (if v.getLsbD 22 != v.getLsbD 17 then 1 else 0)

/-- The sample of a generator state: the state followed by a 0 bit (R171). -/
def testSample (v : BitVec 23) : Sample := v ++ 0#1

/-- The next `n` samples of a generator, and the state that they leave (R171). -/
def testSamples : Nat → BitVec 23 → BitVec 23 × List Sample
  | 0, v => (v, [])
  | n + 1, v =>
    let w := advanceTest v
    let r := testSamples n w
    (r.1, testSample w :: r.2)

/-- One sample taken by the checker, and the error count when sync is lost at it (R172). -/
def Checker.sample (c : Checker) (s : Sample) : Checker × Option Word :=
  if c.sync then
    let v := advanceTest c.lfsr
    let c := { c with lfsr := v, checked := c.checked + 1 }
    if s = testSample v then ({ c with mismatches := 0 }, none)
    else
      let c := { c with errors := c.errors + 1 }
      if c.mismatches + 1 < 16 then ({ c with mismatches := c.mismatches + 1 }, none)
      else ({ c with sync := false, mismatches := 0 }, some c.errors)
  else if s.getLsbD 0 = false ∧ s.extractLsb' 1 23 ≠ 0 then
    ({ c with sync := true, lfsr := s.extractLsb' 1 23, mismatches := 0 }, none)
  else (c, none)

/-- Samples taken in order, with the error counts at the losses of sync. -/
def Checker.samples (c : Checker) (ss : List Sample) : Checker × List Word :=
  ss.foldl (fun a s =>
    let r := a.1.sample s
    (r.1, match r.2 with
      | some n => a.2 ++ [n]
      | none => a.2)) (c, [])

/-- The gap test before an accepted block is checked (R173). -/
def Checker.gapTest (c : Checker) (seq : Word) : Checker :=
  let c := match c.lastSeq with
    | some l => if seq = l + 1 then c else { c with gaps := c.gaps + 1, sync := false }
    | none => c
  { c with lastSeq := some seq }

/-- An accepted block taken by the checker of stream `i`: the gap test, then its samples in interleave order, with the notices
of the losses of sync (R172, R173). -/
def Checker.block (c : Checker) (i : Fin 32) (seq : Word) (frames : List Frame) : Checker × List Post :=
  let r := (c.gapTest seq).samples frames.flatten
  (r.1, r.2.map fun n => { kind := .testSyncLost, subject := i.val, detail := n.toInt })

/-- TEST_QUERY's reply data (R174). -/
def Stream.testReport (x : Stream) : List Byte :=
  let c := x.checker
  beFlag x.test ++ beFlag c.sync ++ be32 c.mismatches ++ optWord c.lastSeq ++ beWord c.errors ++ beWord c.gaps ++ beWord c.checked

/-- TEST_QUERY's checks, effect and reply (R174). -/
def serveTestQuery (s : State) (body : List Byte) : Served :=
  match toFin? 32 (field1 body 0) with
  | none => .error .notFound
  | some i => do
    require (field1 body 1 ≤ 1) .badValue
    let x := s.stream i
    return (if field1 body 1 = 1 then
        s.setStream i { x with checker := { x.checker with errors := 0, gaps := 0, checked := 0 } } else s, x.testReport)

/-- TEST_QUERY (R174). -/
def execTestQuery (s : State) : Host.Outcome State Fault Refusal := .next (s.take 0x74 serveTestQuery)

end Sys2Proof.Machine
end

