-- ==== Sys2Proof/Machine/Buffer.lean ====
section
/-! DEFINITION. The Ingest Unit and the playout buffer at an arrival: the ingest order (R17 to R21), the timeline check and
the first packet (R63 to R66), classification and acceptance (R68 to R73), deliveries (R75, R76), the transit (R85), and
what a DIRECT line does at an acceptance (R155). -/

namespace Sys2Proof.Machine

/-! ## Slots and block offers -/

/-- The slot that holds, or would hold, an extended sequence: index (sequence mod D) (R67). -/
def Stream.slotAt (x : Stream) (seq : Word) : Slot := x.ring.getD (seq.toNat % x.depth) .empty

/-- The slot of an extended sequence replaced (R67). -/
def Stream.setSlot (x : Stream) (seq : Word) (y : Slot) : Stream :=
  { x with ring := x.ring.set (seq.toNat % x.depth) y }

/-- A block offer with its extended sequence (R21, R63). -/
structure Offer where
  seq : Word
  sourceTime : Word
  arrival : Word
  cue : Option Half
  endMark : Bool
  samples : List Frame
  deriving DecidableEq, Repr

/-- The block that an accepted offer stores (R69). -/
def Offer.block (o : Offer) : Block :=
  { seq := o.seq, sourceTime := o.sourceTime, arrival := o.arrival, cue := o.cue, samples := o.samples, served := false }

/-- The offers of a packet whose first block has the extended sequence `ext`, arriving in house block `hbc` (R3, R21, R63). -/
def Packet.offers (p : Packet) (ext hbc : Word) : List Offer :=
  p.blocks.zipIdx.map fun b =>
    { seq := ext + BitVec.ofNat 32 b.2
      sourceTime := p.sourceTime + BitVec.ofNat 32 (48 * b.2)
      arrival := hbc
      cue := if p.cuePresent then some p.cue else none
      endMark := p.endFlag && b.2 + 1 == p.packing
      samples := b.1 }

/-! ## Classification -/

/-- The classes of a block (R68). -/
inductive BlockClass where
  | afterEnd
  | late
  | early
  | duplicate
  | accepted
  deriving DecidableEq, Repr

/-- A slot is CONCEALED with a sequence. -/
def Slot.isConcealed (y : Slot) (seq : Word) : Bool :=
  match y with
  | .concealed q => q == seq
  | .empty => false
  | .filled _ => false

/-- A slot is FILLED with a sequence. -/
def Slot.isFilled (y : Slot) (seq : Word) : Bool :=
  match y with
  | .filled b => b.seq == seq
  | .empty => false
  | .concealed _ => false

/-- The class of a block of an extended sequence: the tests of R68 in their order. -/
def Stream.classify (x : Stream) (ext : Word) : BlockClass :=
  let e := x.ePlay.getD 0
  if x.endSeq.any (fun q => 0 < sdiff ext q) then .afterEnd
  else if sdiff ext e < 0 || (x.slotAt ext).isConcealed ext then .late
  else if (x.depth : Int) ≤ sdiff ext e then .early
  else if (x.slotAt ext).isFilled ext then .duplicate
  else .accepted

/-- The watch of a path. -/
def Stream.watch (x : Stream) : PathId → PathWatch
  | .a => x.watchA
  | .b => x.watchB

/-- The watch of a path replaced. -/
def Stream.setWatch (x : Stream) (p : PathId) (w : PathWatch) : Stream :=
  match p with
  | .a => { x with watchA := w }
  | .b => { x with watchB := w }

/-- A delivery on a path: the silent count becomes 0, and a mark is cleared with PATH_RESTORED (R75, R76). -/
def Stream.deliver (x : Stream) (i : Fin 32) (p : PathId) : Stream × List Post :=
  let w := x.watch p
  (x.setWatch p .cleared,
    if w.mark then
      [{ kind := .pathRestored, subject := 2 * i.val + pathNumber p, detail := w.silent.toInt }]
    else [])

/-- The counters after a first copy from a path (R40, R69). -/
def StreamCounters.firstCopy (c : StreamCounters) : PathId → StreamCounters
  | .a => { c with firstA := c.firstA + 1 }
  | .b => { c with firstB := c.firstB + 1 }

/-- The end mark of an accepted block: the end sequence is recorded when none is, and PRIMED or PLAYING moves to DRAINING (R70). -/
def Stream.recordEnd (x : Stream) (o : Offer) : Stream :=
  if o.endMark && x.endSeq.isNone then
    { x with
      endSeq := some o.seq
      state := match x.state with
        | .primed => .draining
        | .playing => .draining
        | st => st }
  else x

/-- DIRECT lines follow a cue word in PRIMED, PLAYING and DRAINING (R155). -/
def StreamState.directFollows : StreamState → Bool
  | .primed | .playing | .draining => true
  | .closed | .ready | .acquiring | .outage | .ended => false

/-- The stream while a packet's blocks are classified, the notices to post, the cue words for its DIRECT lines, whether a block
was accepted, and the detail of the early resync that the packet ends in. -/
structure Ingest where
  x : Stream
  posts : List Post
  cues : List Half
  accepted : Bool
  resync : Option Int
  deriving DecidableEq, Repr

/-- The acceptance of a block: checker, store and end mark, delivery, cue word (R69). -/
def Ingest.accept (a : Ingest) (i : Fin 32) (p : PathId) (o : Offer) : Ingest :=
  let x := { a.x with counters := a.x.counters.firstCopy p, earlyRun := 0 }
  let c := if x.test then x.checker.block i o.seq o.samples else (x.checker, [])
  let x := (({ x with checker := c.1 } : Stream).setSlot o.seq (.filled o.block)).recordEnd o
  let d := x.deliver i p
  { a with
    x := d.1
    posts := a.posts ++ c.2 ++ d.2
    cues := a.cues ++ (if d.1.state.directFollows then o.cue.toList else [])
    accepted := true }

/-- One block offer: it is classified, counted, and dropped or accepted (R68 to R73). -/
def Ingest.offer (i : Fin 32) (p : PathId) (a : Ingest) (o : Offer) : Ingest :=
  let x := a.x
  let c := x.counters
  match x.classify o.seq with
  | .afterEnd => { a with x := { x with counters := { c with afterEnd := c.afterEnd + 1 }, earlyRun := 0 } }
  | .late => { a with x := { x with counters := { c with late := c.late + 1 }, earlyRun := 0 } }
  | .early =>
    if x.earlyRun < 7 then
      { a with x := { x with counters := { c with early := c.early + 1 }, earlyRun := x.earlyRun + 1 } }
    else
      { a with
        x := { x with counters := { c with early := c.early + 1 } }
        resync := match a.resync with
          | some d => some d
          | none => some (sdiff o.seq (x.ePlay.getD 0)) }
  | .duplicate =>
    let d := ({ x with counters := { c with duplicates := c.duplicates + 1 }, earlyRun := 0 } : Stream).deliver i p
    { a with x := d.1, posts := a.posts ++ d.2 }
  | .accepted => a.accept i p o

/-- A packet's offers, in block order (R64). -/
def Stream.ingest (x : Stream) (i : Fin 32) (p : PathId) (os : List Offer) : Ingest :=
  os.foldl (Ingest.offer i p) { x := x, posts := [], cues := [], accepted := false, resync := none }

/-! ## DIRECT lines and transits -/

/-- A line follows a cue word: its bit, inverted when invert is set (R152). -/
def Line.follow (l : Line) (cue : Half) : Line := { l with current := cue.getLsbD l.bit.val != l.invert }

/-- A cue word of an accepted first copy of a stream reaches its DIRECT lines (R155). -/
def SignalRouter.directCue (r : SignalRouter) (i : Fin 32) (cue : Half) : SignalRouter :=
  { r with lines := vmap r.lines fun _ l => if l.mode = .direct ∧ l.stream = i then l.follow cue else l }

/-- A packet's transit reaches its member: the offset AT − ST − O_ref (R85, R86). -/
def State.transit (s : State) (i : Fin 32) (sourceTime : Word) : State :=
  let x := s.stream i
  let o := s.hs - sourceTime - (s.group x.group).oRef.getD 0
  s.setStream i { x with clock := x.clock.take o }

/-- The blocks of a packet are classified; its notices are posted and its cue words reach the DIRECT lines (R64, R69). -/
def State.classifyPacket (s : State) (i : Fin 32) (a : Ingest) : State :=
  let t := (s.setStream i a.x).postAll a.posts
  { t with signals := a.cues.foldl (fun r c => r.directCue i c) t.signals }

/-! ## First and later packets -/

/-- E_play for a first packet whose read position at the next draw stands `pos` samples from the origin (R66, stage 3). -/
def firstEPlay (seq0 : Word) (pos : Int) : Word := if pos < 0 then seq0 else seq0 + word (divTrunc pos 48)

/-- The record of a stream in ACQUIRING after stages 1 and 3 to 5 of its first packet, its group's offset being Q (R66). -/
def Stream.prime (x : Stream) (p : Packet) (q hbc : Word) : Stream :=
  let seq0 : Word := p.seq.zeroExtend 32
  let pos := ((hbc + 1) * 48 - q - p.sourceTime).toInt
  let e := firstEPlay seq0 pos
  { x with
    origin := some (seq0, p.sourceTime), ePlay := some e, breaks := 0, earlyRun := 0, watchA := .cleared, watchB := .cleared
    counters := { x.counters with skipped := x.counters.skipped + (e - seq0) }
    state := .primed }

/-- The first packet of a stream in ACQUIRING: the seven stages of R66. -/
def State.firstPacket (s : State) (i : Fin 32) (path : PathId) (p : Packet) : State :=
  let g := (s.stream i).group
  let t := if (s.group g).anchored then s else s.anchor g s.hs p.sourceTime
  let t := t.setStream i ((t.stream i).prime p ((t.group g).q.getD 0) s.clock.hbc)
  let t := t.transit i p.sourceTime
  t.classifyPacket i ((t.stream i).ingest i path (p.offers (p.seq.zeroExtend 32) s.clock.hbc))

/-- The extended sequence of a packet's 16-bit sequence against E_play (R63). -/
def extendSeq (ePlay : Word) (s16 : Half) : Word := ePlay + (s16 - ePlay.truncate 16).signExtend 32

/-- The timeline check of a packet against the origin (R65). -/
def onTimeline (origin : Word × Word) (ext sourceTime : Word) : Bool :=
  sourceTime == origin.2 + 48 * (ext - origin.1)

/-- A timeline reject of path A: the break count rises, and at 4 the group relocks (R56, R65). -/
def State.rejectA (s : State) (i : Fin 32) : State :=
  let x := s.stream i
  let c := { x.counters with timelineRejects := x.counters.timelineRejects + 1 }
  let t := s.setStream i { x with counters := c, breaks := x.breaks + 1 }
  if x.breaks + 1 < 4 then t else t.relock x.group i

/-- A timeline reject of path B: a pair mismatch when the stream is PAIRED and the break count is 0, and at the fourth of a window
a pair fault (R37, R38, R65). -/
def State.rejectB (s : State) (i : Fin 32) : State :=
  let x := s.stream i
  let c := { x.counters with timelineRejects := x.counters.timelineRejects + 1 }
  if x.pair = .paired ∧ x.breaks = 0 then
    let c := { c with pairMismatches := c.pairMismatches + 1 }
    let y := { x with counters := c, windowMismatches := x.windowMismatches + 1 }
    if x.windowMismatches + 1 < 4 then s.setStream i y
    else
      (s.setStream i { y with pair := .pairFault }).post
        { kind := .pairFault, subject := i.val, detail := (x.group.val : Int) }
  else s.setStream i { x with counters := c }

/-- A packet of a stream that has a timeline: the timeline check, then classification, the transit when a block was accepted,
and the early resync (R64, R65, R69, R73, R85). -/
def State.laterPacket (s : State) (i : Fin 32) (path : PathId) (p : Packet) : State :=
  let x := s.stream i
  let ext := extendSeq (x.ePlay.getD 0) p.seq
  if onTimeline (x.origin.getD (0, 0)) ext p.sourceTime then
    let x := match path with
      | .a => { x with breaks := 0 }
      | .b => x
    let a := x.ingest i path (p.offers ext s.clock.hbc)
    let t := s.classifyPacket i a
    let t := if a.accepted then t.transit i p.sourceTime else t
    match a.resync with
    | some d => t.earlyResync i d
    | none => t
  else
    match path with
    | .a => s.rejectA i
    | .b => s.rejectB i

/-! ## The ingest order -/

/-- The Flow Table lookup: the stream and path of the bound entry of a port and flow id (R16, R17). -/
def State.lookup (s : State) (port : PortId) (flowId : Half) : Option (Fin 32 × PathId) :=
  (List.finRange 32).findSome? fun i =>
    if (s.flows.get (entryA i)).holds { port := port, flowId := flowId } then some (i, .a)
    else if (s.flows.get (entryB i)).holds { port := port, flowId := flowId } then some (i, .b)
    else none

/-- The four fields of a packet agree with the stream's declared format (R20). -/
def Stream.formatMatches (x : Stream) (p : Packet) : Bool :=
  x.channels == p.channels && x.format == p.format && x.packing == p.packing && x.test == p.test

/-- Steps 3 to 7 of the ingest order for a packet whose flow is bound to a stream and a path (R18 to R21). -/
def State.ingestStream (s : State) (port : PortId) (i : Fin 32) (path : PathId) (p : Packet) : State :=
  let x := s.stream i
  let y := s.port port
  match x.state with
  | .ready | .ended | .closed => s.setPort port { y with notStarted := y.notStarted + 1 }
  | .acquiring | .primed | .playing | .outage | .draining =>
    if path = .b ∧ x.pair = .pairFault then
      s.setStream i { x with counters := { x.counters with pairOff := x.counters.pairOff + 1 } }
    else if x.formatMatches p then
      if x.state = .acquiring then s.firstPacket i path p else s.laterPacket i path p
    else
      s.setStream i { x with counters := { x.counters with formatMismatch := x.counters.formatMismatch + 1 } }

/-- A datagram that a port received goes through the ingest order (R18). -/
def State.ingestDatagram (s : State) (port : PortId) (d : List Byte) : State :=
  let y := s.port port
  match judgeDatagram d with
  | .malformed => s.setPort port { y with malformed := y.malformed + 1 }
  | .checkFailed => s.setPort port { y with checkErrors := y.checkErrors + 1 }
  | .wellFormed p =>
    match s.lookup port p.flowId with
    | none => s.setPort port { y with unknownFlow := y.unknownFlow + 1 }
    | some (i, path) => s.ingestStream port i path p

/-- A datagram reaches a port: in UP it is counted and passed on, and in any other state it is discarded uncounted (R9, R11). -/
def State.arrival (s : State) (port : PortId) (d : List Byte) : State :=
  let y := s.port port
  if y.state = .up then (s.setPort port { y with received := y.received + 1 }).ingestDatagram port d else s

/-- PACKET_ARRIVAL (R18), at a house sample. -/
def execPacketArrival (port : PortId) (sample : Fin 48) (datagram : List Byte) (s : State) : Host.Outcome State Fault Refusal :=
  .next ((s.atSample sample).arrival port datagram)

end Sys2Proof.Machine
end

