-- ==== Sys2Proof/Machine/Draw.lean ====
section
/-! DEFINITION. The draw of one stream at a boundary (R77 to R83, R99, R100), concealment and outage within it (R107 to R117),
and what a recentre does to a drawn stream (R60 to R62). -/

namespace Sys2Proof.Machine

/-! ## Where a source position stands -/

/-- The sequence of a source position: seq0 + floor(x / 48) (R77). -/
def Stream.seqOf (x : Stream) (pos : Int) : Word := (x.origin.getD (0, 0)).1 + word (pos / 48)

/-- The index of a source position within its sequence: x mod 48 (R77). -/
def indexOf (pos : Int) : Nat := (pos % 48).toNat

/-- The sequence and index from which a source position is served, or none where the first four rows of R78 serve silence:
before the origin, after the end sequence, below E_play, or below the served-to position. -/
def Stream.place (x : Stream) (pos : Int) : Option (Word × Nat) :=
  let q := x.seqOf pos
  if pos < 0 then none
  else if x.endSeq.any (fun e => 0 < sdiff q e) then none
  else if sdiff q (x.ePlay.getD 0) < 0 then none
  else if x.servedTo.any (fun t => pos < t) then none
  else some (q, indexOf pos)

/-- What supplies output sample 0 of a draw, as the Signal Router reads it (R77, R154). -/
inductive FirstSlot where
  | beforeOrigin
  | real (cue : Option Half)
  | noReal
  deriving DecidableEq, Repr

/-- The slot that supplies output sample 0, which always takes the read position, by the cases of R154 in their order (R77, R99,
R154): a FILLED slot that holds the read position comes before the silence below the served-to position, which R78 serves there, so a
line follows its cue word; a CONCEALED slot and all silence are held through. A stream in OUTAGE before its
origin, after a backward recentre, yields silence that a line holds through (R119, R154, R155). In PLAYING and DRAINING a read
position before the origin counts as in PRIMED, by the condition of R154's second row and not its gloss (DESIGN CHOICE, log 26). -/
def Stream.firstSlot (x : Stream) (pos : Int) : FirstSlot :=
  if pos < 0 then (if x.state = .outage then .noReal else .beforeOrigin)
  else
    match x.slotAt (x.seqOf pos) with
    | .filled b => if b.seq = x.seqOf pos then .real b.cue else .noReal
    | .empty => .noReal
    | .concealed _ => .noReal

/-! ## Serving one position -/

/-- The stream within its draw: the notices so far, the output samples so far, the slots completed, the arrival house block of
the first FILLED slot served, and whether R114 has ended the stream. -/
structure DrawAcc where
  x : Stream
  posts : List Post
  out : List Frame
  completed : List Word
  firstArrival : Option Word
  halted : Bool
  deriving DecidableEq, Repr

/-- A frame of silence: 0 on every declared channel. -/
def Stream.silence (x : Stream) : Frame := List.replicate x.channels 0

/-- The completion of a FILLED slot: it becomes the last real block, and a fade-in of it ends (R108, R110). -/
def Conceal.completeReal (c : Conceal) (b : Block) : Conceal :=
  { c with
    lastReal := some { seq := b.seq, sourceTime := b.sourceTime, samples := b.samples }
    fadeIn := if c.fadeIn = some b.seq then none else c.fadeIn }

/-- The completion of a CONCEALED slot: a fade-out copy of it ends (R108, R109). -/
def Conceal.completeMissing (c : Conceal) (q : Word) : Conceal :=
  { c with fadeOut := if c.fadeOut = some q then none else c.fadeOut }

/-- Serving a position of a FILLED slot: the fade-in is taken up when it is due, and the consecutive-missing count becomes 0
(R110, R112). -/
def Conceal.serveReal (c : Conceal) (q : Word) : Conceal :=
  { c with fadeIn := if c.fadeInDue then some q else c.fadeIn, fadeInDue := false, missingRun := 0 }

/-- The declaration of a missing slot: a fade-out copy when the last real block is the one just before it, the fade-in due, and
one more consecutive missing slot (R109, R110, R112). -/
def Conceal.declare (c : Conceal) (q : Word) : Conceal :=
  { c with
    fadeOut := if c.lastReal.any (fun l => l.seq + 1 == q) then some q else c.fadeOut
    fadeInDue := true
    missingRun := c.missingRun + 1 }

/-- A stream in OUTAGE resumes at a FILLED slot: PLAYING, or DRAINING when an end sequence is recorded (R117). -/
def Stream.resumeState (x : Stream) : StreamState :=
  match x.state with
  | .outage => if x.endSeq.isSome then .draining else .playing
  | st => st

/-- The notice of a resume (R117). -/
def Stream.resumePosts (x : Stream) (i : Fin 32) (q : Word) : List Post :=
  match x.state with
  | .outage => [{ kind := .streamResumed, subject := i.val, detail := sdiff q (x.resume.elim 0 (·.nextExpected)) }]
  | _ => []

/-- A position of a FILLED slot is served, faded in when its slot takes the fade-in (R78, R110, R117). -/
def DrawAcc.serveFilled (a : DrawAcc) (i : Fin 32) (b : Block) (n : Nat) : DrawAcc :=
  let x := a.x
  let c := x.conceal.serveReal b.seq
  let frame := b.samples.getD n x.silence
  let frame := if c.fadeIn = some b.seq then fadeFrame frame (n + 1) else frame
  let y := { x with
    state := x.resumeState
    conceal := if n = 47 then c.completeReal b else c }
  { a with
    x := y.setSlot b.seq (.filled { b with served := true })
    posts := a.posts ++ x.resumePosts i b.seq
    out := a.out ++ [frame]
    completed := if n = 47 then a.completed ++ [b.seq] else a.completed
    firstArrival := match a.firstArrival with
      | some h => some h
      | none => some b.arrival }

/-- What a position of a missing slot yields: the faded copy of the last real block, or silence (R109). -/
def Stream.concealedFrame (x : Stream) (q : Word) (n : Nat) : Frame :=
  if x.conceal.fadeOut = some q then
    match x.conceal.lastReal with
    | some l => fadeFrame (l.samples.getD n x.silence) (47 - n)
    | none => x.silence
  else x.silence

/-- A position of a CONCEALED slot is served (R78, R109). -/
def DrawAcc.serveConcealed (a : DrawAcc) (q : Word) (n : Nat) : DrawAcc :=
  { a with
    x := { a.x with conceal := if n = 47 then a.x.conceal.completeMissing q else a.x.conceal }
    out := a.out ++ [a.x.concealedFrame q n]
    completed := if n = 47 then a.completed ++ [q] else a.completed }

/-- The resume record that an entry to OUTAGE sets (R115). -/
def Stream.resumeRecord (x : Stream) (hbc : Word) : Resume :=
  { lastReal := x.conceal.lastReal.map fun l => (l.seq, l.sourceTime)
    nextExpected := match x.conceal.lastReal with
      | some l => l.seq + 1
      | none => (x.origin.getD (0, 0)).1
    hbc := hbc }

/-- The record after a slot is declared missing, before the outage test (R78, R109, R112). -/
def Stream.declareMissing (x : Stream) (q : Word) : Stream :=
  { x.setSlot q (.concealed q) with
    conceal := x.conceal.declare q
    counters := { x.counters with missing := x.counters.missing + 1 } }

/-- A position of an EMPTY slot is reached: the slot is declared missing, the outage test is made in PLAYING and DRAINING, and
the position is served (R78, R112, R113, R114). -/
def DrawAcc.serveMissing (a : DrawAcc) (i : Fin 32) (hbc : Word) (limit : Nat) (q : Word) (n : Nat) : DrawAcc :=
  let x := a.x.declareMissing q
  let run : Int := (x.conceal.missingRun.toNat : Int)
  if limit ≤ x.conceal.missingRun.toNat then
    match x.state with
    | .playing =>
      let y := { x with
        state := .outage
        resume := some (x.resumeRecord hbc)
        counters := { x.counters with outages := x.counters.outages + 1 } }
      DrawAcc.serveConcealed
        { a with x := y, posts := a.posts ++ [{ kind := .streamOutage, subject := i.val, detail := run }] } q n
    | .draining =>
      { a with
        x := { x with state := .ended, clock := x.clock.drop }
        posts := a.posts ++ [{ kind := .streamEnded, subject := i.val, detail := (x.endSeq.getD 0).toInt }]
        out := a.out ++ [x.silence]
        completed := a.completed ++ [q]
        halted := true }
    | _ => DrawAcc.serveConcealed { a with x := x } q n
  else DrawAcc.serveConcealed { a with x := x } q n

/-- A position is served as silence. -/
def DrawAcc.serveSilence (a : DrawAcc) : DrawAcc := { a with out := a.out ++ [a.x.silence] }

/-- One source position served by R78; after R114 has ended the stream every later position is silence. -/
def DrawAcc.serve (a : DrawAcc) (i : Fin 32) (hbc : Word) (limit : Nat) (pos : Int) : DrawAcc :=
  if a.halted then a.serveSilence
  else
    match a.x.place pos with
    | none => a.serveSilence
    | some (q, n) =>
      match a.x.slotAt q with
      | .filled b => if b.seq = q then a.serveFilled i b n else a.serveMissing i hbc limit q n
      | .concealed r => if r = q then a.serveConcealed q n else a.serveMissing i hbc limit q n
      | .empty => a.serveMissing i hbc limit q n

/-- A position that a DROP omits: neither served nor counted, and when it is the last of its slot the slot is completed (R99, R108). -/
def DrawAcc.omitted (a : DrawAcc) (pos : Int) : DrawAcc :=
  if a.halted then a
  else
    match a.x.place pos with
    | none => a
    | some (q, n) =>
      if n = 47 then
        match a.x.slotAt q with
        | .filled b =>
          if b.seq = q then
            { a with x := { a.x with conceal := a.x.conceal.completeReal b }, completed := a.completed ++ [q] }
          else a
        | .concealed r =>
          if r = q then
            { a with x := { a.x with conceal := a.x.conceal.completeMissing q }, completed := a.completed ++ [q] }
          else a
        | .empty => a
      else a

/-! ## The whole draw -/

/-- What the draw of a group's member reads besides its record: the boundary, the group's outage limit and early warning, the
slip it carries, and whether it takes a recentre's fade-out (R60, R77, R83, R112). -/
structure DrawContext where
  hbc : Word
  limit : Nat
  warning : Nat
  slip : Slip
  fade : Bool
  deriving DecidableEq, Repr

/-- What a draw yields: 48 frames, and what supplied output sample 0 (R77). -/
structure Drawn where
  frames : List Frame
  first : FirstSlot
  deriving DecidableEq, Repr

/-- One of the draw's source positions: served, or omitted by a DROP at its place (R99). -/
def DrawAcc.step (ctx : DrawContext) (i : Fin 32) (pos : Int) (a : DrawAcc) (k : Nat) : DrawAcc :=
  if ctx.slip = .dropAt k then a.omitted (pos + k) else a.serve i ctx.hbc ctx.limit (pos + k)

/-- All source positions of a draw, in order. -/
def Stream.visit (x : Stream) (ctx : DrawContext) (i : Fin 32) (pos : Int) : DrawAcc :=
  (List.range ctx.slip.sources).foldl (DrawAcc.step ctx i pos)
    { x := x, posts := [], out := [], completed := [], firstArrival := none, halted := false }

/-- The slip mapping from the positions served to the 48 output samples: a REPEAT at p takes position p − 1 again (R99, R100). -/
def mapSlip (slip : Slip) (served : List Frame) : List Frame :=
  match slip with
  | .steady => served
  | .repeatAt p => served.take p ++ (served.drop (p - 1)).take 1 ++ served.drop p
  | .dropAt _ => served

/-- The recentre's fade-out: output sample n times (47 − n)/48 (R60). -/
def fadeOutFrames (fs : List Frame) : List Frame := fs.zipIdx.map fun f => fadeFrame f.1 (47 - f.2)

/-- Completed slots are released to EMPTY in sequence order, and E_play advances past each (R79). -/
def Stream.release (x : Stream) (qs : List Word) : Stream :=
  qs.foldl (fun y q => { y.setSlot q .empty with ePlay := some (q + 1) }) x

/-- The state moves after a draw that reached `last` as its last position: PRIMED to PLAYING, DRAINING to ENDED (R80, R81). -/
def Stream.afterDraw (x : Stream) (i : Fin 32) (hbc : Word) (last : Int) (completed : List Word)
    (firstArrival : Option Word) : Stream × List Post :=
  match x.state with
  | .primed =>
    if 0 ≤ last then
      ({ x with state := .playing },
        [{ kind := .streamPlaying, subject := i.val, detail := match firstArrival with
            | some h => sdiff hbc h
            | none => -1 }])
    else (x, [])
  | .draining =>
    if x.endSeq.any completed.contains then
      ({ x with state := .ended, clock := x.clock.drop },
        [{ kind := .streamEnded, subject := i.val, detail := (x.endSeq.getD 0).toInt }])
    else (x, [])
  | _ => (x, [])

/-- The number of FILLED slots in a run from a sequence on, within `fuel` slots (R82). -/
def Stream.filledRun (x : Stream) (q : Word) : Nat → Nat
  | 0 => 0
  | fuel + 1 => if (x.slotAt q).isFilled q then Stream.filledRun x (q + 1) fuel + 1 else 0

/-- The slots of the run of R82: FILLED without a gap from E_play on, and none beyond a recorded end sequence. -/
def Stream.readyRun (x : Stream) : Nat :=
  let e := x.ePlay.getD 0
  let run := x.filledRun e x.depth
  match x.endSeq with
  | some q => min run (sdiff q e + 1).toNat
  | none => run

/-- The headroom in samples, `next` being the first source position not yet drawn (R82). -/
def Stream.headroom (x : Stream) (next : Int) : Int :=
  if x.readyRun = 0 then 0
  else (sdiff (x.ePlay.getD 0) (x.origin.getD (0, 0)).1 + x.readyRun) * 48 - next

/-- The LOW_HEADROOM test after a draw, of a stream then in PLAYING (R82, R83). -/
def Stream.headroomTest (x : Stream) (i : Fin 32) (warning : Nat) (next : Int) : Stream × List Post :=
  match x.state with
  | .playing =>
    let h := x.headroom next
    if 0 < warning ∧ x.headroomArmed = true ∧ h < warning * 48 then
      ({ x with headroomArmed := false }, [{ kind := .lowHeadroom, subject := i.val, detail := h }])
    else if x.headroomArmed = false ∧ (warning + 2 : Int) * 48 ≤ h then ({ x with headroomArmed := true }, [])
    else (x, [])
  | _ => (x, [])

/-- The served-to position becomes absent after a draw whose positions reach or pass it (R62). -/
def Stream.clearServedTo (x : Stream) (last : Int) : Stream :=
  { x with servedTo := if x.servedTo.any (fun t => t ≤ last) then none else x.servedTo }

/-- The draw of one stream at stream offset `pos`: its record after it, what it yields, and its notices (R77 to R83). -/
def Stream.draw (x : Stream) (ctx : DrawContext) (i : Fin 32) (pos : Int) : Stream × Drawn × List Post :=
  let a := x.visit ctx i pos
  let next : Int := pos + ctx.slip.sources
  let moved := (a.x.release a.completed).afterDraw i ctx.hbc (next - 1) a.completed a.firstArrival
  let tested := (moved.1.clearServedTo (next - 1)).headroomTest i ctx.warning next
  let frames := mapSlip ctx.slip a.out
  (tested.1,
    { frames := if ctx.fade then fadeOutFrames frames else frames, first := x.firstSlot pos },
    a.posts ++ moved.2 ++ tested.2)

/-- The stream offset of a member at a boundary: the read position b × 48 − Q less ST0, read as signed (R77). -/
def Stream.offsetAt (x : Stream) (hbc q : Word) : Int := (hbc * 48 - q - (x.origin.getD (0, 0)).2).toInt

/-! ## A recentre -/

/-- A sequence lies from `lo` up to but not including `hi`. -/
def inRun (lo hi q : Word) : Bool := decide (0 ≤ sdiff q lo) && decide (sdiff q hi < 0)

/-- A slot of a run passed over has had a sample served: it was served in part, or it was declared missing (R61). -/
def Slot.servedIn (lo hi : Word) : Slot → Bool
  | .filled b => inRun lo hi b.seq && b.served
  | .concealed q => inRun lo hi q
  | .empty => false

/-- A slot that lies in a run passed over is released (R61). -/
def Slot.clearedIn (lo hi : Word) : Slot → Slot
  | .filled b => if inRun lo hi b.seq then .empty else .filled b
  | .concealed q => if inRun lo hi q then .empty else .concealed q
  | .empty => .empty

/-- The FILLED slot of a run that had been served in part: its release completes it (R108). -/
def partServed (lo hi : Word) (ring : List Slot) : Option Block :=
  ring.findSome? fun y =>
    match y with
    | .filled b => if inRun lo hi b.seq && b.served then some b else none
    | .concealed _ => none
    | .empty => none

/-- E_play advances to `hi`: the slots below it are released, and each sequence passed over without a sample served is one
skipped block (R61, R108). -/
def Stream.passOver (x : Stream) (hi : Word) : Stream :=
  let lo := x.ePlay.getD 0
  if 0 < sdiff hi lo then
    { x with
      ring := x.ring.map (Slot.clearedIn lo hi)
      ePlay := some hi
      counters := { x.counters with skipped := x.counters.skipped + (hi - lo) - BitVec.ofNat 32 (x.ring.countP (Slot.servedIn lo hi)) }
      conceal := match partServed lo hi x.ring with
        | some b => x.conceal.completeReal b
        | none => x.conceal }
  else x

/-- The end block's last sample lies before a read position, in a state that then ends (R61, R118). -/
def Stream.endPassed (x : Stream) (newPos : Int) : Bool :=
  match x.endSeq, x.state with
  | some e, .draining => decide (sdiff e (x.origin.getD (0, 0)).1 * 48 + 47 < newPos)
  | some e, .outage => decide (sdiff e (x.origin.getD (0, 0)).1 * 48 + 47 < newPos)
  | _, _ => false

/-- A forward recentre of a drawn stream whose draw stopped at `stop` (R61, R62, R110, R118). -/
def Stream.recentreForward (x : Stream) (i : Fin 32) (stop adj : Int) : Stream × List Post :=
  let newPos := stop + adj
  let ends := x.endPassed newPos
  let y := if ends then x.passOver (x.endSeq.getD 0 + 1) else if newPos < 0 then x else x.passOver (x.seqOf newPos)
  let y := { y with
    conceal := { y.conceal with fadeInDue := true }
    servedTo := if y.servedTo.any (fun t => t ≤ newPos) then none else y.servedTo }
  if ends then
    ({ y with state := .ended, clock := y.clock.drop },
      [{ kind := .streamEnded, subject := i.val, detail := (x.endSeq.getD 0).toInt }])
  else (y, [])

/-- A backward recentre of a drawn stream whose draw stopped at `stop`: that place, or a later served-to position already held,
is the served-to position (R62, R110). -/
def Stream.recentreBack (x : Stream) (stop : Int) : Stream :=
  { x with
    servedTo := some (match x.servedTo with
      | some t => max t stop
      | none => stop)
    conceal := { x.conceal with fadeInDue := true } }

/-- What a performed recentre does to a drawn stream; an adjustment of 0 does nothing to it (R60 to R62). -/
def Stream.recentre (x : Stream) (i : Fin 32) (stop adj : Int) : Stream × List Post :=
  if adj = 0 then (x, []) else if 0 < adj then x.recentreForward i stop adj else (x.recentreBack stop, [])

end Sys2Proof.Machine
end

