-- ==== Sys2Proof/Machine/Output.lean ====
section
/-! DEFINITION. The Output Assembler: the TDM buses (R121, R122), the output map and its commit (R123, R129, R130, R135), the
sources (R125 to R127), gains and clipping (R128, R131), and the map requests (R132 to R137). -/

namespace Sys2Proof.Machine

/-! ## Sources -/

/-- The first quarter of the tone table, n = 0 to 12: A × sin(2πn/48) rounded, A = 1,056,072 (R126). -/
def toneQuarter0 : List Int :=
  [0, 137845, 273332, 404141, 528036, 642896, 746756, 837838, 914585, 975683, 1020087, 1047037, 1056072]

/-- The first quarter of the tone table, n = 0 to 12: A × sin(2πn/48) rounded, A = 838,861 (R126). -/
def toneQuarter1 : List Int :=
  [0, 109493, 217113, 321018, 419431, 510666, 593164, 665513, 726475, 775007, 810278, 831684, 838861]

/-- Sample n of the line-up tone at a level, by the symmetry of the sine about its quarters (R126). -/
def toneSample (level : Fin 2) (n : Nat) : Int :=
  let quarter := if level = 0 then toneQuarter0 else toneQuarter1
  let m := n % 24
  let v := quarter.getD (if m ≤ 12 then m else 24 - m) 0
  if n % 48 < 24 then v else -v

/-- A block of one cycle of the tone (R126). -/
def toneBlock (level : Fin 2) : List Sample := (List.range 48).map fun n => sampleOf (toneSample level n)

/-- A block of silence. -/
def silentBlock : List Sample := List.replicate 48 0

/-- What the boundary has formed when the output block is made: the draws, and the 24-bit mixes of each feed's channels, an
empty list for a feed that gives silence (R121, R127). -/
structure BoundaryAudio where
  draws : List (Fin 32 × Drawn)
  mixes : Vector (List (List Sample)) 16
  deriving Repr

/-- The draw of a stream at this boundary, when it was drawn (R125). -/
def BoundaryAudio.drawOf (a : BoundaryAudio) (i : Fin 32) : Option Drawn := (a.draws.find? (·.1 == i)).map (·.2)

/-- One channel of the frames of a draw; silence at or above the declared channel count (R125). -/
def channelBlock (c : Nat) (frames : List Frame) : List Sample := frames.map (·.getD c 0)

/-- The source block of a source at a boundary (R125, R126, R127). -/
def BoundaryAudio.sourceBlock (a : BoundaryAudio) : Source → List Sample
  | .silent => silentBlock
  | .stream i c =>
    match a.drawOf i with
    | some d => channelBlock c.val d.frames
    | none => silentBlock
  | .tone l => toneBlock l
  | .feed r c => (a.mixes.get r).getD c.val silentBlock

/-! ## Gains and clipping -/

/-- The effective gain of a copy: 0 when its mute is on (R123). -/
def MapCopy.effectiveGain (c : MapCopy) : Int := if c.mute then 0 else (c.gain.toNat : Int)

/-- The gain of sample n in the block in which a commit changes an entry: a ramp when the source stays, a fade-in from 0 when
it changes (R129, R130). -/
def committedGain (old new : MapCopy) (n : Nat) : Int :=
  let g1 := new.effectiveGain
  if old.source = new.source then
    old.effectiveGain + divTrunc ((g1 - old.effectiveGain) * (n + 1)) 48
  else divTrunc (g1 * (n + 1)) 48

/-- An output sample before its saturation: s × g / 16,384, rounded half away from zero (R128). -/
def gainedSample (s : Sample) (g : Int) : Int := divHalfAway (s.toInt * g) 16384

/-- An entry as a commit leaves it: a pending entry's staged copy becomes active (R135). -/
def MapEntry.commit (e : MapEntry) : MapEntry := if e.pending then { e with active := e.staged, pending := false } else e

/-- The gain of sample n of the block formed at a boundary; `old` is the active copy before any commit applied there, and
`applied` tells whether one was applied to the entry (R128 to R130). -/
def blockGain (old new : MapCopy) (applied : Bool) (n : Nat) : Int :=
  if applied then committedGain old new n else new.effectiveGain

/-- The rounded results of an entry's block before saturation (R128). -/
def rawBlock (old new : MapCopy) (applied : Bool) (src : List Sample) : List Int :=
  src.zipIdx.map fun s => gainedSample s.1 (blockGain old new applied s.2)

/-- An entry after a block with this many saturated samples: its clip counter and clip flag (R128, R131). -/
def MapEntry.countClips (e : MapEntry) (saturated : Nat) : MapEntry :=
  { e with clips := e.clips + BitVec.ofNat 32 saturated, clipping := decide (0 < saturated) }

/-- The notice of a block: OUTPUT_CLIP when a clean entry had a saturated sample (R131). -/
def MapEntry.clipPosts (e : MapEntry) (k : Fin 64) (saturated : Nat) : List Post :=
  if 0 < saturated ∧ e.clipping = false then
    [{ kind := .outputClip, subject := k.val, detail := (saturated : Int) }]
  else []

/-- One entry at a boundary: the entry, its 48 output samples, and its notices (R121, R128 to R131, R135). -/
def MapEntry.form (e : MapEntry) (k : Fin 64) (commit : Bool) (a : BoundaryAudio) : MapEntry × List Sample × List Post :=
  let f := if commit then e.commit else e
  let raw := rawBlock e.active f.active (commit && e.pending) (a.sourceBlock f.active.source)
  let saturated := raw.countP outOfRange24
  (f.countClips saturated, raw.map fun y => sampleOf (sat24 y), e.clipPosts k saturated)

/-- The entries with their pending flag set (R134, R135). -/
def OutputUnit.pendingCount (u : OutputUnit) : Nat := u.entries.toList.countP (·.pending)

/-- The notice of a commit applied: COMMIT_DONE with the number of entries applied (R135). -/
def OutputUnit.commitPosts (u : OutputUnit) : List Post :=
  if u.commit then [{ kind := .commitDone, subject := 0, detail := (u.pendingCount : Int) }] else []

/-- The Output Assembler at a boundary: the commit, the block of every channel, the clip state, and the notices (R121, R135).
COMMIT_DONE is posted first and the OUTPUT_CLIP notices follow in rising channel number: the spec gives no order (DESIGN CHOICE, log
27). -/
def OutputUnit.boundary (u : OutputUnit) (a : BoundaryAudio) : OutputUnit × List Post :=
  ({ u with
      entries := vmap u.entries fun k e => (e.form k u.commit a).1
      commit := false
      tdmOut := (vmap u.entries fun k e => (e.form k u.commit a).2.1).toList },
    u.commitPosts ++ ((vmap u.entries fun k e => (e.form k u.commit a).2.2).toList).flatten)

/-- The 64 slots of 32 bits of frame j of the house block in progress: the sample in the upper 24 bits, the lower 8 bits 0 (R121). -/
def State.tdmFrame (s : State) (j : Nat) : List Word := s.output.tdmOut.map fun ch => ch.getD j 0 ++ 0#8

/-- The gallery input block of the frames that the input bus carried: the upper 24 bits of each of the 32 slots (R122). -/
def captureInput (tdm : List (List Word)) : List Frame :=
  (List.range 48).map fun j => (List.range 32).map fun k => (((tdm.getD j []).getD k 0).extractLsb' 8 24 : Sample)

/-! ## Requests -/

/-- The pending flag of an entry set to match its copies (R123). -/
def MapEntry.settle (e : MapEntry) : MapEntry := { e with pending := e.staged != e.active }

/-- MAP_SET's checks, effect and reply (R132). -/
def serveMapSet (s : State) (body : List Byte) : Served :=
  match toFin? 64 (field1 body 0) with
  | none => .error .notFound
  | some k =>
    match sourceOf (field1 body 1) (field1 body 2) (field1 body 3) with
    | none => .error .badValue
    | some src => do
      require (field1 body 6 ≤ 1) .badValue
      let c : MapCopy := { source := src, gain := BitVec.ofNat 16 (field2 body 4), mute := field1 body 6 == 1 }
      let e : MapEntry := MapEntry.settle { s.mapEntry k with staged := c }
      return (s.setMapEntry k e, beFlag e.pending)

/-- MAP_COMMIT's effect and reply (R134). -/
def serveMapCommit (s : State) (_body : List Byte) : Served :=
  .ok ({ s with output := { s.output with commit := true } }, be32 s.output.pendingCount)

/-- An entry's pending edit discarded: the active copy over the staged one (R133). -/
def MapEntry.discard (e : MapEntry) : MapEntry := if e.pending then { e with staged := e.active, pending := false } else e

/-- MAP_DISCARD's check, effect and reply (R133). -/
def serveMapDiscard (s : State) (body : List Byte) : Served :=
  let n := field1 body 0
  if n = 255 then
    .ok ({ s with output := { s.output with entries := vmap s.output.entries fun _ e => e.discard } }, be32 s.output.pendingCount)
  else
    match toFin? 64 n with
    | none => .error .notFound
    | some k => .ok (s.setMapEntry k (s.mapEntry k).discard, be32 (if (s.mapEntry k).pending then 1 else 0))

/-- One entry as MAP_QUERY reports it (R137). -/
def MapEntry.report (e : MapEntry) : List Byte :=
  e.active.bytes ++ e.staged.bytes ++ beFlag e.pending ++ beFlag e.clipping ++ beWord e.clips

/-- MAP_QUERY's checks, effect and reply (R137). -/
def serveMapQuery (s : State) (body : List Byte) : Served :=
  let first := field1 body 0
  let count := field1 body 1
  let clear := field1 body 2
  if 63 < first then .error .notFound
  else do
    require (decide (1 ≤ count) && decide (count ≤ 32) && decide (first + count ≤ 64) && decide (clear ≤ 1)) .badValue
    let data := beFlag s.output.commit ++ ((s.output.entries.toList.drop first).take count).flatMap MapEntry.report
    let cleared := vmap s.output.entries fun k e =>
      if first ≤ k.val ∧ k.val < first + count then { e with clips := 0 } else e
    return (if clear = 1 then { s with output := { s.output with entries := cleared } } else s, data)

/-- MAP_SET (R132). -/
def execMapSet (s : State) : Host.Outcome State Fault Refusal := .next (s.take 0x40 serveMapSet)

/-- MAP_COMMIT (R134). -/
def execMapCommit (s : State) : Host.Outcome State Fault Refusal := .next (s.take 0x41 serveMapCommit)

/-- MAP_DISCARD (R133). -/
def execMapDiscard (s : State) : Host.Outcome State Fault Refusal := .next (s.take 0x42 serveMapDiscard)

/-- MAP_QUERY (R137). -/
def execMapQuery (s : State) : Host.Outcome State Fault Refusal := .next (s.take 0x43 serveMapQuery)

end Sys2Proof.Machine
end

