-- ==== Sys2Proof/Machine/Returns.lean ====
section
/-! DEFINITION. The Return Mixer: the mix (R145, R146), packets in assembly and their sending (R147, R148), TEST mode (R149),
and the return requests (R139 to R144, R150). -/

namespace Sys2Proof.Machine

/-! ## The mix -/

/-- The exact sum of coefficient times input sample over the inputs whose talkback flag is as given (R145). -/
def weightedSum (row : List Half) (talkback : Word) (flag : Bool) (frame : Frame) : Int :=
  (List.range 32).foldl
    (fun t j => if talkback.getLsbD j = flag then t + (row.getD j 0).toInt * (frame.getD j 0).toInt else t) 0

/-- One mixed sample before its saturation: (P + T) / 16,384 with P dimmed when the dim line is high (R145). -/
def mixSample (row : List Half) (talkback : Word) (dim : Option Half) (frame : Frame) : Int :=
  let p := weightedSum row talkback false frame
  let t := weightedSum row talkback true frame
  let p := match dim with
    | some g => divHalfAway (p * (g.toNat : Int)) 16384
    | none => p
  divHalfAway (p + t) 16384

/-- The dim gain that applies at a boundary: the feed's, when its dim line names an input sampled high (R145). -/
def Feed.dimAt (f : Feed) (sampled : Half) : Option Half :=
  match f.dimLine with
  | some k => if sampled.getLsbD k.val then some f.dimGain else none
  | none => none

/-- The coefficient row of a channel. -/
def Feed.row (f : Feed) (c : Nat) : List Half := if c = 0 then f.row0 else f.row1

/-- The unsaturated mix of a channel: 48 values (R145). -/
def Feed.rawMix (f : Feed) (c : Nat) (input : List Frame) (sampled : Half) : List Int :=
  input.map (mixSample (f.row c) f.talkback (f.dimAt sampled))

/-- The 24-bit mix of a channel (R145, R146). -/
def mix24 (raw : List Int) : List Sample := raw.map fun y => sampleOf (sat24 y)

/-- A 24-bit sample reduced to L16, before its saturation (R146). -/
def reduce16 (s : Sample) : Int := divHalfAway s.toInt 256

/-- A value lies outside the 16-bit range. -/
def outOfRange16 (x : Int) : Bool := decide (x < -32768) || decide (32767 < x)

/-- The samples of a channel that saturate at the mix, or only at the reduction to L16: each is counted once (R145, R146). -/
def saturatedCount (format : SampleFormat) (raw : List Int) : Nat :=
  raw.countP fun y =>
    outOfRange24 y ||
      (match format with
        | .l16 => outOfRange16 (reduce16 (sampleOf (sat24 y)))
        | .l24 => false
        | .l32 => false)

/-- A sample as the payload of a format carries it (R146, R149). -/
def wireSample (format : SampleFormat) (s : Sample) : List Byte :=
  match format with
  | .l16 => bytes16 (sat16 (reduce16 s))
  | .l24 => bytes24 s
  | .l32 => bytes24 s

/-- The payload bytes of a block of channels, interleaved by sample instant (R2). -/
def blockPayload (format : SampleFormat) (chans : List (List Sample)) : List Byte :=
  (List.range 48).flatMap fun n => chans.flatMap fun ch => wireSample format (ch.getD n 0)

/-! ## A boundary of a feed -/

/-- The mode of the block formed at a boundary: the record's when the packet in assembly is empty, and else the packet's (R147). -/
def Feed.modeAt (f : Feed) : FeedMode := if f.assembly.isEmpty then f.mode else f.assemblyMode

/-- The packet in assembly takes its mode when it is empty; the generator is set to 1 when it takes TEST after a MIX packet (R147, R149). -/
def Feed.beginBlock (f : Feed) (hbc : Word) : Feed :=
  if f.assembly.isEmpty then
    { f with
      assemblyMode := f.mode
      firstBoundary := hbc
      generator := if f.mode = .test ∧ f.lastMode = some .mix then 1 else f.generator }
  else f

/-- The mixed channels of a feed at a boundary: none unless it runs and forms the block in MIX (R145, R146). -/
def Feed.mixesAt (f : Feed) (input : List Frame) (sampled : Half) : List (List Sample) :=
  if f.running ∧ f.modeAt = .mix then (List.range f.channels).map fun c => mix24 (f.rawMix c input sampled) else []

/-- A block joins the packet in assembly: the mix with its saturations counted, or the test sequence (R145, R146, R149). -/
def Feed.formBlock (f : Feed) (input : List Frame) (sampled : Half) : Feed :=
  match f.assemblyMode with
  | .mix =>
    let chans := (List.range f.channels).map fun c => mix24 (f.rawMix c input sampled)
    { f with
      assembly := f.assembly ++ [blockPayload f.format chans]
      saturated0 := f.saturated0 + BitVec.ofNat 32 (saturatedCount f.format (f.rawMix 0 input sampled))
      saturated1 := if f.channels = 2 then
          f.saturated1 + BitVec.ofNat 32 (saturatedCount f.format (f.rawMix 1 input sampled)) else f.saturated1 }
  | .test =>
    let r := testSamples (48 * f.channels) f.generator
    { f with assembly := f.assembly ++ [r.2.flatMap (wireSample f.format)], generator := r.1 }

/-- The packet in assembly is complete: its K-th block has been formed (R147). -/
def Feed.complete (f : Feed) : Bool := f.assembly.length == f.packing

/-- The packet that a feed builds (R147, R148). -/
def Feed.packet (f : Feed) (sampled : Half) : Packet :=
  { packing := f.packing, format := f.format, channels := f.channels, cuePresent := true, test := f.assemblyMode == .test
    endFlag := false, flowId := f.flowId, seq := f.nextSeq, sourceTime := (f.firstBoundary - 1) * 48
    cue := sampled &&& f.cueMask, payload := f.assembly.flatten }

/-- The packet is handed to the ports that the feed names: each that is UP sends it, and each other counts it unsent; the next
sequence rises by K and the packet in assembly is emptied (R147, R148). -/
def Feed.send (f : Feed) (upA upB : Bool) : Feed :=
  let a := f.ports.names .a
  let b := f.ports.names .b
  { f with
    sentA := if a && upA then f.sentA + 1 else f.sentA
    sentB := if b && upB then f.sentB + 1 else f.sentB
    unsentA := if a && !upA then f.unsentA + 1 else f.unsentA
    unsentB := if b && !upB then f.unsentB + 1 else f.unsentB
    nextSeq := f.nextSeq + BitVec.ofNat 16 f.packing
    assembly := []
    lastMode := some f.assemblyMode }

/-- What the ports transmit of a built packet (R9, R148). -/
def Feed.transmissions (f : Feed) (upA upB : Bool) (d : List Byte) : List (PortId × List Byte) :=
  (if f.ports.names .a && upA then [(.a, d)] else []) ++ (if f.ports.names .b && upB then [(.b, d)] else [])

/-- A running feed with the block of a boundary formed and appended, its packet not yet sent (R147). -/
def Feed.assembled (f : Feed) (hbc : Word) (input : List Frame) (sampled : Half) : Feed :=
  (f.beginBlock hbc).formBlock input sampled

/-- One feed at a boundary (R145 to R149). -/
def Feed.boundary (f : Feed) (hbc : Word) (input : List Frame) (sampled : Half) (upA upB : Bool) : Feed :=
  if f.running then
    let y := f.assembled hbc input sampled
    if y.complete then y.send upA upB else y
  else f

/-- What one feed has the ports transmit at a boundary (R148). -/
def Feed.sentAt (f : Feed) (hbc : Word) (input : List Frame) (sampled : Half) (upA upB : Bool) : List (PortId × List Byte) :=
  if f.running then
    let y := f.assembled hbc input sampled
    if y.complete then y.transmissions upA upB (y.packet sampled).datagram else []
  else []

/-- The mixes of every feed at a boundary, from the input block and the sampled states of that boundary (R145, R158). -/
def ReturnMixer.mixes (r : ReturnMixer) (input : List Frame) (sampled : Half) : Vector (List (List Sample)) 16 :=
  vmap r.feeds fun _ f => f.mixesAt input sampled

/-- The Return Mixer at a boundary (R145 to R149). The packets of several feeds are handed over in the order of the feeds' numbers,
port A before port B: the spec gives no order (DESIGN CHOICE, log 25). -/
def ReturnMixer.boundary (r : ReturnMixer) (hbc : Word) (input : List Frame) (sampled : Half) (upA upB : Bool) : ReturnMixer :=
  { feeds := vmap r.feeds fun _ f => f.boundary hbc input sampled upA upB
    transmitted := (r.feeds.toList.map fun f => f.sentAt hbc input sampled upA upB).flatten }

/-! ## Requests -/

/-- The load of a feed: the formula of R30 on its own channels, format and packing (R144). -/
def Feed.loadFigure (f : Feed) : Nat := flowLoad f.packing f.channels f.format

/-- A port's transmit load after a feed's charge moves from the ports it named to those it names now (R140, R144). -/
def Port.moveTransmit (x : Port) (old new : Bool) (load : Nat) : Port :=
  { x with transmitLoad := if old && !new then x.transmitLoad - load else if new && !old then x.transmitLoad + load else x.transmitLoad }

/-- A port that the new ports add has room for the load (R140, check 4; R142, check 4). -/
def Port.admitsTransmit (x : Port) (old new : Bool) (load : Nat) : Bool :=
  !(new && !old) || decide (x.transmitLoad + load ≤ x.transmitBudget)

/-- A feed record with the fields of a RETURN_SET body, when they are in range (R140, check 2). -/
def Feed.withFields (f : Feed) (body : List Byte) : Option Feed :=
  let flow := field2 body 1
  let channels := field1 body 4
  let k := field1 body 6
  let dim := field1 body 12
  match feedPortsOf (field1 body 3), formatOf (field1 body 5), feedModeOf (field1 body 7) with
  | some ports, some format, some mode =>
    if (channels == 1 || channels == 2) && format != .l32 && [1, 2, 4].contains k && (decide (dim < 16) || dim == 255) &&
        !(mode == .test && format == .l16) && !(f.running && flow == 0) then
      some { f with
        flowId := BitVec.ofNat 16 flow, ports := ports, channels := channels, format := format, packing := k, mode := mode
        talkback := BitVec.ofNat 32 (field4 body 8), dimLine := toFin? 16 dim
        dimGain := BitVec.ofNat 16 (field2 body 13), cueMask := BitVec.ofNat 16 (field2 body 15) }
    else none
  | _, _, _ => none

/-- RETURN_SET's checks, effect and reply (R140). -/
def serveReturnSet (s : State) (body : List Byte) : Served :=
  match toFin? 16 (field1 body 0) with
  | none => .error .notFound
  | some r =>
    let f := s.feed r
    match f.withFields body with
    | none => .error .badValue
    | some y => do
      require (!(f.running && !(y.channels == f.channels && y.format == f.format && y.packing == f.packing))) .badState
      require (!f.running || (s.portA.admitsTransmit (f.ports.names .a) (y.ports.names .a) f.load &&
        s.portB.admitsTransmit (f.ports.names .b) (y.ports.names .b) f.load)) .noBandwidth
      let t := s.setFeed r y
      let t := if f.running then
          { t with
            portA := s.portA.moveTransmit (f.ports.names .a) (y.ports.names .a) f.load
            portB := s.portB.moveTransmit (f.ports.names .b) (y.ports.names .b) f.load }
        else t
      return (t, beFlag y.running ++ be32 y.load)

/-- The 32 coefficients of a RETURN_COEF body (R141). -/
def coefficients (body : List Byte) : List Half := (List.range 32).map fun j => BitVec.ofNat 16 (field2 body (2 + 2 * j))

/-- RETURN_COEF's checks, effect and reply (R141). -/
def serveReturnCoef (s : State) (body : List Byte) : Served :=
  match toFin? 16 (field1 body 0) with
  | none => .error .notFound
  | some r => do
    require (field1 body 1 ≤ 1) .badValue
    let f := s.feed r
    let y : Feed := if field1 body 1 = 0 then { f with row0 := coefficients body } else { f with row1 := coefficients body }
    return (s.setFeed r y, [])

/-- RETURN_START's checks, effect and reply (R142). -/
def serveReturnStart (s : State) (body : List Byte) : Served :=
  match toFin? 16 (field1 body 0) with
  | none => .error .notFound
  | some r =>
    let f := s.feed r
    let load := f.loadFigure
    do
      require (!f.running) .badState
      require (f.flowId != 0) .badValue
      require (s.portA.admitsTransmit false (f.ports.names .a) load && s.portB.admitsTransmit false (f.ports.names .b) load)
        .noBandwidth
      let y : Feed := { f with
        running := true, load := load, nextSeq := 0, assembly := []
        generator := if f.mode = .test then 1 else f.generator }
      let t : State := { s.setFeed r y with
        portA := s.portA.moveTransmit false (f.ports.names .a) load
        portB := s.portB.moveTransmit false (f.ports.names .b) load }
      return (t, be32 load ++ be32 t.portA.transmitLoad ++ be32 t.portB.transmitLoad)

/-- RETURN_STOP's checks, effect and reply (R139, R143). -/
def serveReturnStop (s : State) (body : List Byte) : Served :=
  match toFin? 16 (field1 body 0) with
  | none => .error .notFound
  | some r =>
    let f := s.feed r
    if f.running then
      .ok ({ s.setFeed r { f with running := false, load := 0, assembly := [] } with
          portA := s.portA.moveTransmit (f.ports.names .a) false f.load
          portB := s.portB.moveTransmit (f.ports.names .b) false f.load }, beFlag false)
    else .ok (s, beFlag false)

/-- The settings of a feed in the order of RETURN_SET's body from the flow id on (R150). -/
def Feed.settings (f : Feed) : List Byte :=
  be16 f.flowId.toNat ++ [f.ports.code, byteOf f.channels, byteOf f.format.code, byteOf f.packing, f.mode.code] ++
  beWord f.talkback ++ [match f.dimLine with
    | some k => byteOf k.val
    | none => 255] ++ be16 f.dimGain.toNat ++ be16 f.cueMask.toNat

/-- RETURN_QUERY's reply data (R150). -/
def Feed.report (f : Feed) : List Byte :=
  beFlag f.running ++ f.settings ++ f.row0.flatMap (fun c => be16 c.toNat) ++ f.row1.flatMap (fun c => be16 c.toNat) ++
  be32 f.nextSeq.toNat ++ be32 f.assembly.length ++ [f.assemblyMode.code] ++ be32 f.load ++
  beWord f.sentA ++ beWord f.sentB ++ beWord f.unsentA ++ beWord f.unsentB ++ beWord f.saturated0 ++ beWord f.saturated1

/-- The six counters of a feed cleared (R150). -/
def Feed.clearCounters (f : Feed) : Feed :=
  { f with sentA := 0, sentB := 0, unsentA := 0, unsentB := 0, saturated0 := 0, saturated1 := 0 }

/-- RETURN_QUERY's checks, effect and reply (R150). -/
def serveReturnQuery (s : State) (body : List Byte) : Served :=
  match toFin? 16 (field1 body 0) with
  | none => .error .notFound
  | some r => do
    require (field1 body 1 ≤ 1) .badValue
    let f := s.feed r
    return (if field1 body 1 = 1 then s.setFeed r f.clearCounters else s, f.report)

/-- RETURN_SET (R140). -/
def execReturnSet (s : State) : Host.Outcome State Fault Refusal := .next (s.take 0x50 serveReturnSet)

/-- RETURN_COEF (R141). -/
def execReturnCoef (s : State) : Host.Outcome State Fault Refusal := .next (s.take 0x51 serveReturnCoef)

/-- RETURN_START (R142). -/
def execReturnStart (s : State) : Host.Outcome State Fault Refusal := .next (s.take 0x52 serveReturnStart)

/-- RETURN_STOP (R143). -/
def execReturnStop (s : State) : Host.Outcome State Fault Refusal := .next (s.take 0x53 serveReturnStop)

/-- RETURN_QUERY (R150). -/
def execReturnQuery (s : State) : Host.Outcome State Fault Refusal := .next (s.take 0x54 serveReturnQuery)

end Sys2Proof.Machine
end

