-- ==== Sys2Proof/Machine/Signals.lean ====
section
/-! DEFINITION. The Signal Router: the output lines at a boundary (R152, R154, R155), the sampling of the inputs (R158, R159),
and the signal requests (R153, R157, R159, R160). -/

namespace Sys2Proof.Machine

/-- A line takes its fail value; HOLD keeps the current value (R152). -/
def Line.takeFail (l : Line) : Line :=
  match l.fail with
  | .low => { l with current := false }
  | .high => { l with current := true }
  | .hold => l

/-- An ALIGNED line acts on the draw of its stream, or on its absence (R154). -/
def Line.aligned (l : Line) (first : Option FirstSlot) : Line :=
  match first with
  | none => l.takeFail
  | some .beforeOrigin => l.takeFail
  | some (.real (some cue)) => l.follow cue
  | some (.real none) => l
  | some .noReal => l

/-- A DIRECT line at a boundary: its fail value unless its stream is in PRIMED, PLAYING or DRAINING after the draw (R155). -/
def Line.directBoundary (l : Line) (state : StreamState) : Line := if state.directFollows then l else l.takeFail

/-- One line at a boundary, after the draws (R154, R155, R157). -/
def Line.boundary (l : Line) (first : Fin 32 → Option FirstSlot) (state : Fin 32 → StreamState) : Line :=
  match l.mode with
  | .off => l
  | .override => l
  | .aligned => l.aligned (first l.stream)
  | .direct => l.directBoundary (state l.stream)

/-- The notices of the changes of the inputs whose mask flag is set (R159), in rising line number: R159 gives no order (DESIGN
CHOICE, log 27). -/
def SignalRouter.changePosts (r : SignalRouter) (pins : Half) : List Post :=
  (List.finRange 16).filterMap fun k =>
    if pins.getLsbD k.val != r.sampled.getLsbD k.val && r.mask.getLsbD k.val then
      some { kind := .sigInChange, subject := k.val, detail := if pins.getLsbD k.val then 1 else 0 }
    else none

/-- The inputs sampled at a boundary (R158). -/
def SignalRouter.sample (r : SignalRouter) (pins : Half) : SignalRouter := { r with sampled := pins }

/-- The lines at a boundary, after the draws (R154, R155). -/
def SignalRouter.lineBoundary (r : SignalRouter) (first : Fin 32 → Option FirstSlot) (state : Fin 32 → StreamState) : SignalRouter :=
  { r with lines := vmap r.lines fun _ l => l.boundary first state }

/-- The current values of the sixteen lines, bit k for line k (R157, R160): the levels of the SIG_OUT pins (R152). -/
def SignalRouter.currentWord (r : SignalRouter) : Half := bitsOf fun k => (r.lines.get k).current

/-- SIGNAL_SET's fields as a line takes them, when they are in range; in OFF and OVERRIDE the others are stored as 0 (R153). -/
def Line.withFields (l : Line) (body : List Byte) : Option Line :=
  match lineModeOf (field1 body 1) with
  | none => none
  | some .off => some { Line.reset with mode := .off, override := l.override, current := false }
  | some .override => some { Line.reset with mode := .override, override := l.override, current := l.override }
  | some mode =>
    match toFin? 32 (field1 body 2), toFin? 16 (field1 body 3), failValueOf (field1 body 5) with
    | some st, some bit, some fail =>
      if field1 body 4 ≤ 1 then
        some { l with mode := mode, stream := st, bit := bit, invert := field1 body 4 == 1, fail := fail }
      else none
    | _, _, _ => none

/-- SIGNAL_SET's checks, effect and reply (R153). -/
def serveSignalSet (s : State) (body : List Byte) : Served :=
  match toFin? 16 (field1 body 0) with
  | none => .error .notFound
  | some k =>
    match (s.line k).withFields body with
    | none => .error .badValue
    | some l => .ok (s.setLine k l, beFlag l.current)

/-- A line that an override names: the value is stored, and a line in OVERRIDE takes it at once (R157). -/
def Line.setOverride (l : Line) (v : Bool) : Line :=
  match l.mode with
  | .override => { l with override := v, current := v }
  | .off => { l with override := v }
  | .aligned => { l with override := v }
  | .direct => { l with override := v }

/-- SIGNAL_OVERRIDE's effect and reply (R157). -/
def serveSignalOverride (s : State) (body : List Byte) : Served :=
  let mask := BitVec.ofNat 16 (field2 body 0)
  let values := BitVec.ofNat 16 (field2 body 2)
  let r : SignalRouter := { s.signals with
    lines := vmap s.signals.lines fun k l => if mask.getLsbD k.val then l.setOverride (values.getLsbD k.val) else l }
  .ok ({ s with signals := r }, be16 r.currentWord.toNat)

/-- SIGNAL_QUERY's reply (R160). -/
def serveSignalQuery (s : State) (_body : List Byte) : Served :=
  let r := s.signals
  .ok (s, r.lines.toList.flatMap Line.bytes ++ be16 r.currentWord.toNat ++ be16 r.sampled.toNat ++ be16 r.mask.toNat)

/-- SIGIN_MASK's effect and reply (R159). -/
def serveSiginMask (s : State) (body : List Byte) : Served :=
  let m := BitVec.ofNat 16 (field2 body 0)
  .ok ({ s with signals := { s.signals with mask := m } }, be16 m.toNat)

/-- SIGNAL_SET (R153). -/
def execSignalSet (s : State) : Host.Outcome State Fault Refusal := .next (s.take 0x60 serveSignalSet)

/-- SIGNAL_OVERRIDE (R157). -/
def execSignalOverride (s : State) : Host.Outcome State Fault Refusal := .next (s.take 0x61 serveSignalOverride)

/-- SIGNAL_QUERY (R160). -/
def execSignalQuery (s : State) : Host.Outcome State Fault Refusal := .next (s.take 0x62 serveSignalQuery)

/-- SIGIN_MASK (R159). -/
def execSiginMask (s : State) : Host.Outcome State Fault Refusal := .next (s.take 0x63 serveSiginMask)

end Sys2Proof.Machine
end

