-- ==== Sys2Proof/Machine/Boundary.lean ====
section
/-! DEFINITION. A house block boundary, whole: the group stages (R54, R55), the path watch (R75, R76), and the work of every
block in one order (log 8); and the rows that name something that comes about within a boundary (log 2). -/

namespace Sys2Proof.Machine

/-! ## A group at a boundary -/

/-- Stage 2 for one member: it is drawn when its state says so (R54, R77). -/
def drawMember (ctx : DrawContext) (q : Word) (a : State × List (Fin 32 × Drawn)) (i : Fin 32) : State × List (Fin 32 × Drawn) :=
  let x := a.1.stream i
  if x.state.drawn then
    let r := x.draw ctx i (x.offsetAt ctx.hbc q)
    ((a.1.setStream i r.1).postAll r.2.2, a.2 ++ [(i, r.2.1)])
  else a

/-- Stage 3 for one member: a recentre acts on it when it is still drawn after its draw (R60 to R62, log 13). -/
def recentreMember (ctx : DrawContext) (q : Word) (adj : Int) (s : State) (i : Fin 32) : State :=
  let x := s.stream i
  if x.state.drawn then
    let r := x.recentre i (x.offsetAt ctx.hbc q + ctx.slip.sources) adj
    (s.setStream i r.1).postAll r.2
  else s

/-- What the draws of a group at a boundary read (R54, stages 1 and 2). -/
def Group.drawContext (g : Group) (hbc : Word) : DrawContext :=
  { hbc := hbc, limit := g.outageLimit, warning := g.warning, slip := g.slipDecision.2, fade := g.pending.any (· != 0) }

/-- Stage 2 of a group: every drawn member is drawn, in join order (R54); the order shows in the notices alone (DESIGN CHOICE, log
27). -/
def State.drawGroup (s : State) (g : Fin 16) : State × List (Fin 32 × Drawn) :=
  let x := s.group g
  x.members.foldl (drawMember (x.drawContext s.clock.hbc) (x.q.getD 0)) (s, [])

/-- Stage 3 of a group whose record before the boundary's work was `x` (R54, R60). -/
def State.recentreGroup (s : State) (g : Fin 16) (x : Group) : State :=
  match x.pending with
  | none => s
  | some adj =>
    let t := x.members.foldl (recentreMember (x.drawContext s.clock.hbc) (x.q.getD 0) adj) s
    (t.setGroup g ((t.group g).applyRecentre adj)).post { kind := .recentre, subject := g.val, detail := adj }

/-- Stage 5 of a group: the window is started, advances, or ends (R54, R55). -/
def State.advanceWindow (s : State) (g : Fin 16) : State :=
  let x := s.group g
  match x.window with
  | none => s.setGroup g { x with window := some (0, 0) }
  | some (n, k) =>
    if k + 1 < Config.windowBlocks then s.setGroup g { x with window := some (n, k + 1) } else s.windowEnd g n

/-- One group at a boundary: the five stages of R54; an unanchored group does no boundary work. -/
def State.groupBoundary (s : State) (g : Fin 16) : State × List (Fin 32 × Drawn) :=
  let x := s.group g
  if x.anchored then
    let drawn := s.drawGroup g
    let t := drawn.1.setGroup g x.slipDecision.1
    let t := t.recentreGroup g x
    let t := t.setGroup g ((t.group g).applySlip x.slipDecision.2)
    (t.advanceWindow g, drawn.2)
  else (s, [])

/-- All groups at a boundary (R54), in rising number; the order shows in the notices alone (DESIGN CHOICE, log 27). -/
def State.groupsBoundary (s : State) : State × List (Fin 32 × Drawn) :=
  (List.finRange 16).foldl
    (fun a g =>
      let r := a.1.groupBoundary g
      (r.1, a.2 ++ r.2)) (s, [])

/-! ## The path watch -/

/-- The path watch counts a boundary in these states, as they stand before the draw (R75, R119). -/
def StreamState.pathWatched : StreamState → Bool
  | .primed | .playing | .draining => true
  | .closed | .ready | .acquiring | .outage | .ended => false

/-- A path's silent count reaches 100 at this boundary while its mark is clear (R75). -/
def PathWatch.silentDue (w : PathWatch) : Bool := w.silent + 1 == BitVec.ofNat 32 Config.silentBlocks && !w.mark

/-- A watched path at a boundary (R75). -/
def PathWatch.boundary (w : PathWatch) : PathWatch := { silent := w.silent + 1, mark := w.mark || w.silentDue }

/-- The notice of a path that goes silent: its detail is the stream's E_play, before or after the draw (R76, log 9). -/
def PathWatch.posts (w : PathWatch) (i : Fin 32) (p : PathId) (ePlay : Word) : List Post :=
  if w.silentDue then
    [{ kind := .pathSilent, subject := 2 * i.val + pathNumber p, detail := ePlay.toInt }]
  else []

/-- A stream's path watches at a boundary, from its record before the draw and after it: path A, and path B when the stream has
flow B (R75). -/
def Stream.watchBoundary (before x : Stream) : Stream :=
  if before.state.pathWatched then
    { x with
      watchA := x.watchA.boundary
      watchB := if x.flowB.isSome then x.watchB.boundary else x.watchB }
  else x

/-- The notices of a stream's path watches at a boundary (R76). -/
def Stream.watchPosts (before x : Stream) (i : Fin 32) : List Post :=
  let e := (if Config.pathWatchAfterDraw then x.ePlay else before.ePlay).getD 0
  if before.state.pathWatched then
    x.watchA.posts i .a e ++ (if x.flowB.isSome then x.watchB.posts i .b e else [])
  else []

/-- The path watch of every stream at a boundary, `before` being the state before the draws (R75, R119). The notices are posted in
rising subject 2s + p: R76 gives no order (DESIGN CHOICE, log 27). -/
def State.watchPaths (s before : State) : State :=
  let posts := ((vmap s.streams fun i x => Stream.watchPosts (before.stream i) x i).toList).flatten
  (s.mapStreams fun i x => Stream.watchBoundary (before.stream i) x).postAll posts

/-! ## The boundary, whole -/

/-- The block that each meter point receives: the output channels as sent, and the 24-bit mixes of the return channels (R162). -/
def meterBlocks (tdmOut : List (List Sample)) (mixes : Vector (List (List Sample)) 16) (k : Fin 96) : List Sample :=
  if h : k.val < 64 then tdmOut.getD k.val silentBlock
  else
    have : (k.val - 64) / 2 < 16 := by omega
    (mixes.get ⟨(k.val - 64) / 2, this⟩).getD ((k.val - 64) % 2) silentBlock

/-- The inputs of a boundary are taken: the SIG_IN levels with their change notices, and the gallery input block (R122, R158, R159). -/
def State.takeInputs (s : State) (inp : BoundaryInput) : State :=
  let t := s.postAll (s.signals.changePosts inp.sigIn)
  { t with
    signals := t.signals.sample inp.sigIn
    output := { t.output with galleryIn := captureInput inp.tdm } }

/-- The output block of a boundary is formed (R121, R135). -/
def State.formOutput (s : State) (a : BoundaryAudio) : State :=
  let r := s.output.boundary a
  ({ s with output := r.1 } : State).postAll r.2

/-- The return feeds mix, and packets that are complete are handed to the ports (R145 to R149). -/
def State.mixReturns (s : State) : State :=
  { s with
    returns := s.returns.boundary s.clock.hbc s.output.galleryIn s.signals.sampled (s.portA.state == .up) (s.portB.state == .up) }

/-- The output lines act on the draws (R154, R155). A DIRECT line reads its stream's state after all the group stages of the boundary,
so a stream that the recentre of stage 3 ends (R61, R118) has its DIRECT lines take their fail values at that boundary: R155 says only
"after the draw of b" (DESIGN CHOICE, log 28). -/
def State.lineBoundary (s : State) (a : BoundaryAudio) : State :=
  { s with signals := s.signals.lineBoundary (fun i => (a.drawOf i).map (·.first)) (fun i => (s.stream i).state) }

/-- The meter points take their blocks, and a period end latches and evaluates (R163, R168). -/
def State.meterBoundary (s : State) (mixes : Vector (List (List Sample)) 16) : State :=
  let r := s.meters.boundary s.clock.hbc (meterBlocks s.output.tdmOut mixes)
  ({ s with meters := r.1 } : State).postAll r.2

/-- A house block boundary: every block does its boundary work (R42, R43, R54, R75, R121, R122, R145, R154, R155, R158,
R163). -/
def State.boundary (s : State) (inp : BoundaryInput) : State :=
  let t := s.clockBoundary.takeInputs inp
  let drawn := t.groupsBoundary
  let mixes := t.returns.mixes t.output.galleryIn t.signals.sampled
  let audio : BoundaryAudio := { draws := drawn.2, mixes := mixes }
  ((((drawn.1.watchPaths t).formOutput audio).mixReturns).lineBoundary audio).meterBoundary mixes

/-- A boundary, which is not taken while RESETn is low (R183), when it is due as the event that a row names (log 2). -/
def State.boundaryWhen (s : State) (due : Bool) (inp : BoundaryInput) : State :=
  if s.resetLow then s else if due then s.boundary inp else s

/-! ## What is due at a boundary -/

/-- The boundary judges the thousandth full block of LOCKING (R43). -/
def State.lockDue (s : State) : Bool :=
  s.clock.ref == .locking && s.clock.judgement == .full && !decide (s.clock.lockCount + 1 < Config.lockBlocks)

/-- A slip of an anchored group falls at the boundary (R97). -/
def State.slipDue (s : State) (g : Fin 16) : Bool := (s.group g).anchored && (s.group g).slipDue

/-- A pending recentre of an anchored group is performed at the boundary (R58, R60). -/
def State.recentreDue (s : State) (g : Fin 16) : Bool := (s.group g).anchored && (s.group g).pending.isSome

/-- The boundary is a window end of an anchored group (R55, R87). -/
def State.windowEndDue (s : State) (g : Fin 16) : Bool :=
  (s.group g).anchored && (s.group g).window.any (fun w => !decide (w.2 + 1 < Config.windowBlocks))

/-- A path of a stream goes silent at the boundary (R75). -/
def State.pathSilentDue (s : State) (i : Fin 32) (p : PathId) : Bool :=
  let x := s.stream i
  x.state.pathWatched && (x.watch p).silentDue && (p == .a || x.flowB.isSome)

/-- The packet in assembly of a feed takes its K-th block at the boundary (R147). -/
def State.packetDue (s : State) (r : Fin 16) : Bool :=
  (s.feed r).running && (s.feed r).assembly.length + 1 == (s.feed r).packing

/-! ## The commands -/

/-- HOUSE_BLOCK_BOUNDARY (R42, R54). -/
def execHouseBlockBoundary (inp : BoundaryInput) (s : State) : Host.Outcome State Fault Refusal :=
  .next (s.boundaryWhen true inp)

/-- HOUSE_REF_LOCKED: the boundary at which the House Clock Unit enters LOCKED (R43, R44). -/
def execHouseRefLocked (inp : BoundaryInput) (s : State) : Host.Outcome State Fault Refusal :=
  .next (s.boundaryWhen s.lockDue inp)

/-- SLIP: the boundary that carries a slip of a group (R97 to R101). -/
def execSlip (g : Fin 16) (inp : BoundaryInput) (s : State) : Host.Outcome State Fault Refusal :=
  .next (s.boundaryWhen (s.slipDue g) inp)

/-- RECENTRE: the boundary that performs a group's pending recentre (R60 to R62). -/
def execRecentre (g : Fin 16) (inp : BoundaryInput) (s : State) : Host.Outcome State Fault Refusal :=
  .next (s.boundaryWhen (s.recentreDue g) inp)

/-- WINDOW_END: the boundary that is a window end of a group (R87 to R95). -/
def execWindowEnd (g : Fin 16) (inp : BoundaryInput) (s : State) : Host.Outcome State Fault Refusal :=
  .next (s.boundaryWhen (s.windowEndDue g) inp)

/-- PATH_SILENT: the boundary at which a path's silent count reaches 100 (R75, R76). -/
def execPathSilent (i : Fin 32) (p : PathId) (inp : BoundaryInput) (s : State) : Host.Outcome State Fault Refusal :=
  .next (s.boundaryWhen (s.pathSilentDue i p) inp)

/-- COMMIT_APPLY: the boundary that serves the commit request (R129, R130, R135). -/
def execCommitApply (inp : BoundaryInput) (s : State) : Host.Outcome State Fault Refusal :=
  .next (s.boundaryWhen s.output.commit inp)

/-- RETURN_PACKET_BUILD: the boundary that builds a feed's packet (R147, R148). -/
def execReturnPacketBuild (r : Fin 16) (inp : BoundaryInput) (s : State) : Host.Outcome State Fault Refusal :=
  .next (s.boundaryWhen (s.packetDue r) inp)

/-- METER_PERIOD_END: the boundary that ends a meter period (R163, R168). -/
def execMeterPeriodEnd (inp : BoundaryInput) (s : State) : Host.Outcome State Fault Refusal :=
  .next (s.boundaryWhen s.meters.periodDue inp)

end Sys2Proof.Machine
end

