-- ==== Sys2Proof/Machine/Ports.lean ====
section
/-! DEFINITION. The media ports: carrier, warm-up, and the port requests (R7 to R15). -/

namespace Sys2Proof.Machine

/-- The notice of an entry to UP: detail 0 from WARMING and 1 from DOWN (R8). -/
def portUpPost (p : PortId) (detail : Int) : Post := { kind := .portUp, subject := portNumber p, detail := detail }

/-- The notice of an entry to DOWN: detail 0 from WARMING and 1 from UP (R8). -/
def portDownPost (p : PortId) (detail : Int) : Post := { kind := .portDown, subject := portNumber p, detail := detail }

/-- Carrier appears on a port (R7). -/
def State.carrierArrival (s : State) (p : PortId) : State :=
  let x := s.port p
  match x.state with
  | .down => (s.setPort p { x with carrier := true, state := .up }).post (portUpPost p 1)
  | .off => s.setPort p { x with carrier := true }
  | .warming => s.setPort p { x with carrier := true }
  | .up => s.setPort p { x with carrier := true }

/-- Carrier is lost on a port (R7). -/
def State.carrierLoss (s : State) (p : PortId) : State :=
  let x := s.port p
  match x.state with
  | .up => (s.setPort p { x with carrier := false, state := .down }).post (portDownPost p 1)
  | .off => s.setPort p { x with carrier := false }
  | .warming => s.setPort p { x with carrier := false }
  | .down => s.setPort p { x with carrier := false }

/-- The warm-up of a port ends; out of WARMING there is no warm-up to end, and the event is not due (R7, log 3). -/
def State.warmUpExpiry (s : State) (p : PortId) : State :=
  let x := s.port p
  match x.state with
  | .warming =>
    if x.carrier then (s.setPort p { x with state := .up }).post (portUpPost p 0)
    else (s.setPort p { x with state := .down }).post (portDownPost p 0)
  | .off => s
  | .down => s
  | .up => s

/-- PORT_ENABLE on a port: OFF moves to WARMING and the warm-up starts at the present HS (R7, R12). -/
def Port.enable (x : Port) (hs : Word) : Port :=
  match x.state with
  | .off => { x with state := .warming, warmUpStart := hs }
  | .warming => x
  | .down => x
  | .up => x

/-- PORT_DISABLE on a port: OFF, any warm-up abandoned (R7, R12). -/
def Port.disable (x : Port) : Port := { x with state := .off }

/-- The remaining warm-up in whole milliseconds, 1 to 20 in WARMING and 0 otherwise: the house time that is left of the 20 ms,
rounded up (R14, log 10). -/
def Port.remainingWarmUp (x : Port) (hs : Word) : Nat :=
  match x.state with
  | .warming => max 1 ((Config.warmUpSamples - (hs - x.warmUpStart).toNat + 47) / 48)
  | .off => 0
  | .down => 0
  | .up => 0

/-- The five counters of a port cleared (R14). -/
def Port.clearCounters (x : Port) : Port :=
  { x with received := 0, checkErrors := 0, malformed := 0, unknownFlow := 0, notStarted := 0 }

/-- PORT_ENABLE's check, effect and reply (R12). -/
def servePortEnable (s : State) (body : List Byte) : Served := do
  require (field1 body 0 ≤ 1) .badValue
  let p := portOf (field1 body 0)
  let x := (s.port p).enable s.hs
  return (s.setPort p x, [x.state.code])

/-- PORT_DISABLE's check, effect and reply (R12). -/
def servePortDisable (s : State) (body : List Byte) : Served := do
  require (field1 body 0 ≤ 1) .badValue
  let p := portOf (field1 body 0)
  let x := (s.port p).disable
  return (s.setPort p x, [x.state.code])

/-- A budget field is 0 or lies in 1,000 to 950,000 (R13). -/
def budgetInRange (n : Nat) : Bool := n == 0 || (1000 ≤ n && n ≤ 950000)

/-- A budget after a PORT_BUDGET field: 0 leaves it (R13). -/
def newBudget (old n : Nat) : Nat := if n = 0 then old else n

/-- PORT_BUDGET's checks, effect and reply (R13). -/
def servePortBudget (s : State) (body : List Byte) : Served := do
  let ingest := field4 body 1
  let transmit := field4 body 5
  require (decide (field1 body 0 ≤ 1) && budgetInRange ingest && budgetInRange transmit) .badValue
  let p := portOf (field1 body 0)
  let x := s.port p
  require ((ingest == 0 || decide (x.ingestLoad ≤ ingest)) && (transmit == 0 || decide (x.transmitLoad ≤ transmit))) .noBandwidth
  let y := { x with ingestBudget := newBudget x.ingestBudget ingest, transmitBudget := newBudget x.transmitBudget transmit }
  return (s.setPort p y, be32 y.ingestBudget ++ be32 y.transmitBudget)

/-- PORT_QUERY's reply data (R14); the carrier record is a flag, 1 for present (log 11). -/
def Port.report (x : Port) (hs : Word) : List Byte :=
  [x.state.code] ++ beFlag x.carrier ++ be32 (x.remainingWarmUp hs) ++ be32 x.ingestBudget ++ be32 x.transmitBudget ++
  be32 x.ingestLoad ++ be32 x.transmitLoad ++ beWord x.received ++ beWord x.checkErrors ++ beWord x.malformed ++
  beWord x.unknownFlow ++ beWord x.notStarted

/-- PORT_QUERY's checks, effect and reply (R14). -/
def servePortQuery (s : State) (body : List Byte) : Served := do
  require (decide (field1 body 0 ≤ 1) && decide (field1 body 1 ≤ 1)) .badValue
  let p := portOf (field1 body 0)
  let x := s.port p
  return (if field1 body 1 = 1 then s.setPort p x.clearCounters else s, x.report s.hs)

/-- CARRIER_ARRIVAL (R7). -/
def execCarrierArrival (p : PortId) (s : State) : Host.Outcome State Fault Refusal := .next (s.carrierArrival p)

/-- CARRIER_LOSS (R7). -/
def execCarrierLoss (p : PortId) (s : State) : Host.Outcome State Fault Refusal := .next (s.carrierLoss p)

/-- WARM_UP_EXPIRY (R7). -/
def execWarmUpExpiry (p : PortId) (s : State) : Host.Outcome State Fault Refusal := .next (s.warmUpExpiry p)

/-- PORT_ENABLE (R12), taken at a house sample, where its warm-up starts. -/
def execPortEnable (sample : Fin 48) (s : State) : Host.Outcome State Fault Refusal :=
  .next (s.take 0x10 fun t body => servePortEnable (t.atSample sample) body)

/-- PORT_DISABLE (R12). -/
def execPortDisable (s : State) : Host.Outcome State Fault Refusal := .next (s.take 0x11 servePortDisable)

/-- PORT_BUDGET (R13). -/
def execPortBudget (s : State) : Host.Outcome State Fault Refusal := .next (s.take 0x12 servePortBudget)

/-- PORT_QUERY (R14), taken at a house sample. -/
def execPortQuery (sample : Fin 48) (s : State) : Host.Outcome State Fault Refusal :=
  .next (s.take 0x13 fun t body => servePortQuery (t.atSample sample) body)

end Sys2Proof.Machine
end

