-- ==== Sys2Proof/Machine/Requests.lean ====
section
/-! DEFINITION. The receiver events (R175, R176, R177) and the requests of the control line itself: BAD_KIND (R179), IDENTIFY
(R180), RESET (R181), NOTICE_FETCH (R186) and NOTICE_ENABLE (R187). -/

namespace Sys2Proof.Machine

/-- IDENTIFY's reply data: codes, revision, the fourteen capacities, the control rate, the control error count (R180, log 11). -/
def State.identity (s : State) : List Byte :=
  be16 0x0A17 ++ be16 0x0032 ++ be32 1 ++
  [32, 16, 64, 4096, 64, 32, 16, 16, 16, 96, 16, 64, 4, 1024].flatMap be32 ++
  beFlag s.control.fastRate ++ beWord s.control.errors

/-- IDENTIFY's reply (R180). -/
def serveIdentify (s : State) (_body : List Byte) : Served := .ok (s, s.identity)

/-- RESET's effect at its taking: no later request is taken until the reset takes effect (R181). -/
def serveReset (s : State) (_body : List Byte) : Served :=
  .ok ({ s with control := { s.control with resetTaken := true } }, [])

/-- NOTICE_FETCH's check, effect and reply (R186). -/
def serveNoticeFetch (s : State) (body : List Byte) : Served := do
  let n := field1 body 0
  require (decide (1 ≤ n) && decide (n ≤ 16)) .badValue
  let got := s.notices.fetched n
  let left := s.notices.afterFetch n
  return ({ s with notices := left },
    beWord s.notices.lost ++ be32 got.length ++ be32 left.entries.length ++ got.flatMap Notice.bytes)

/-- NOTICE_ENABLE's check, effect and reply (R187). -/
def serveNoticeEnable (s : State) (body : List Byte) : Served := do
  let q := field4 body 0
  let a := field4 body 4
  require (decide (q < 2 ^ 22) && decide (a < 2 ^ 22)) .badValue
  return ({ s with notices := { s.notices with queueEnable := BitVec.ofNat 22 q, alertEnable := BitVec.ofNat 22 a } },
    be32 q ++ be32 a)

/-- The taking of a request of an unknown kind, which is refused with BAD_KIND; not due for any other request (R179, log 3). -/
def State.takeBadKind (s : State) : State :=
  match s.control.next with
  | none => s
  | some r => if bodyLength r.kind = none then s.answer [Status.badKind.code] else s

/-- REQUEST_ARRIVAL: bytes reach the receiver, the last of them ending a frame whose check matches (R176, R177, log 4). -/
def execRequestArrival (bytes : List Byte) (s : State) : Host.Outcome State Fault Refusal := .next (s.receive bytes)

/-- FRAME_CHECK_FAIL: bytes reach the receiver, the last of them ending a frame whose check differs (R176, log 4). -/
def execFrameCheckFail (bytes : List Byte) (s : State) : Host.Outcome State Fault Refusal := .next (s.receive bytes)

/-- FRAME_OVER_LENGTH: bytes reach the receiver, the last of them giving a length above 1,024 (R176, log 4). -/
def execFrameOverLength (bytes : List Byte) (s : State) : Host.Outcome State Fault Refusal := .next (s.receive bytes)

/-- A frame in progress is broken off; while RESETn is low the receiver hunts and there is none (R176, R182). -/
def State.breakFrame (s : State) : State :=
  if s.resetLow then s else { s with control := s.control.breakFrame }

/-- FRAME_STOP_BIT_ERROR: bytes reach the receiver, and then a byte whose stop bit is low (R176). -/
def execFrameStopBitError (bytes : List Byte) (s : State) : Host.Outcome State Fault Refusal :=
  .next (s.receive bytes).breakFrame

/-- INTER_BYTE_TIMEOUT: bytes reach the receiver, and then 10 ms pass without a byte (R176). -/
def execInterByteTimeout (bytes : List Byte) (s : State) : Host.Outcome State Fault Refusal :=
  .next (s.receive bytes).breakFrame

/-- BAD_KIND (R179). -/
def execBadKind (s : State) : Host.Outcome State Fault Refusal := .next s.takeBadKind

/-- IDENTIFY (R180). -/
def execIdentify (s : State) : Host.Outcome State Fault Refusal := .next (s.take 0x01 serveIdentify)

/-- RESET (R181). -/
def execReset (s : State) : Host.Outcome State Fault Refusal := .next (s.take 0x02 serveReset)

/-- NOTICE_FETCH (R186). -/
def execNoticeFetch (s : State) : Host.Outcome State Fault Refusal := .next (s.take 0x04 serveNoticeFetch)

/-- NOTICE_ENABLE (R187). -/
def execNoticeEnable (s : State) : Host.Outcome State Fault Refusal := .next (s.take 0x05 serveNoticeEnable)

end Sys2Proof.Machine
end

