-- ==== Sys2Proof/Machine/Reset.lean ====
section
/-! DEFINITION. Power-on, RESETn and the effect of the RESET request (R15, R16, R23, R46, R124, R138, R152, R158, R163,
R167, R181 to R183, R187). -/

namespace Sys2Proof.Machine

/-- Every block but the House Clock Unit and the control line takes its reset values; the carrier records follow the lines,
and the output bus and the input capture stand as they are (R15, R121, R122). -/
def State.resetBlocks (s : State) : State :=
  { s with
    portA := .reset s.portA.carrier
    portB := .reset s.portB.carrier
    flows := Vector.replicate 64 .unbound
    streams := Vector.replicate 32 .closed
    slotsInUse := 0
    groups := Vector.replicate 16 .reset
    output := { s.output with entries := Vector.replicate 64 .reset, commit := false }
    returns := { s.returns with feeds := Vector.replicate 16 .reset }
    signals := .reset
    meters := .reset
    notices := .reset }

/-- The state after power-on: every block at its power-on values, the rate taken from the strap, the carrier records from the
lines; the RESETn pin and the commands that wait stand as they are (R182, log 17). -/
def State.powerOn (s : State) (strap carrierA carrierB : Bool) : State :=
  { State.reset with
    resetLow := s.resetLow
    portA := .reset carrierA
    portB := .reset carrierB
    control := .reset strap
    pending := s.pending }

/-- The state when RESETn falls: the reset condition, held with every slot of the output bus at 0; the rate stays until the
release (R182, R183). -/
def State.resetFall (s : State) : State :=
  { s.resetBlocks with
    resetLow := true
    clock := .reset
    output := .reset
    returns := .reset
    control := .reset s.control.fastRate }

/-- RESETn rises: the rate strap is read and house block 0 begins (R176, R182, R183). -/
def State.resetRelease (s : State) (strap : Bool) : State :=
  if s.resetLow then { s with resetLow := false, control := { s.control with fastRate := strap } } else s

/-- The reset of a RESET request takes effect: the house clock runs on; the control line keeps its rate, its error count, a
frame part way through the receiver and the BUSY replies; the request queue and the notice queue are emptied (R181). -/
def State.requestReset (s : State) : State :=
  { s.resetBlocks with
    control := { s.control with queue := [], sending := none, resetTaken := false } }

/-- A RESET request that has been taken and answered OK (R181). -/
def Request.isReset (r : Request) : Bool := r.kind == 0x02 && r.reply == some [Status.ok.code]

/-- The last byte of the reply in transmission leaves: a queued reply's request leaves the queue, a RESET's reset takes
effect, and the transmitter begins the next frame (R177, R178, R181). -/
def State.replySent (s : State) : State :=
  match s.control.sending with
  | none => s
  | some x =>
    let free (t : State) : State := { t with control := ControlLine.startReply { t.control with sending := none } }
    if x.queued then
      if (s.control.queue.head?.map Request.isReset).getD false then free s.requestReset
      else free { s with control := { s.control with queue := s.control.queue.tail } }
    else free s

/-- POWER_ON (R182). -/
def execPowerOn (strap carrierA carrierB : Bool) (s : State) : Host.Outcome State Fault Refusal :=
  .next (s.powerOn strap carrierA carrierB)

/-- RESETN_FALL (R183). -/
def execResetnFall (s : State) : Host.Outcome State Fault Refusal := .next s.resetFall

/-- RESETN_RELEASE (R183). -/
def execResetnRelease (strap : Bool) (s : State) : Host.Outcome State Fault Refusal := .next (s.resetRelease strap)

/-- REPLY_SENT (R178). -/
def execReplySent (s : State) : Host.Outcome State Fault Refusal := .next s.replySent

end Sys2Proof.Machine
end

