-- ==== Sys2Proof/Machine/Dispatch.lean ====
section
/-! DEFINITION. The effect of each command on everything but the queue: one arm for each row of opcode_table.json. -/

namespace Sys2Proof.Machine

def exec (i : Instr) (s : State) : Host.Outcome State Fault Refusal :=
  match i with
  | .powerOn strap carrierA carrierB => Sys2Proof.Machine.execPowerOn strap carrierA carrierB s
  | .resetnFall => Sys2Proof.Machine.execResetnFall s
  | .resetnRelease strap => Sys2Proof.Machine.execResetnRelease strap s
  | .hrefEdge sample => Sys2Proof.Machine.execHrefEdge sample s
  | .houseBlockBoundary inp => Sys2Proof.Machine.execHouseBlockBoundary inp s
  | .houseRefLocked inp => Sys2Proof.Machine.execHouseRefLocked inp s
  | .carrierArrival port => Sys2Proof.Machine.execCarrierArrival port s
  | .carrierLoss port => Sys2Proof.Machine.execCarrierLoss port s
  | .warmUpExpiry port => Sys2Proof.Machine.execWarmUpExpiry port s
  | .packetArrival port sample datagram => Sys2Proof.Machine.execPacketArrival port sample datagram s
  | .slip group inp => Sys2Proof.Machine.execSlip group inp s
  | .recentre group inp => Sys2Proof.Machine.execRecentre group inp s
  | .windowEnd group inp => Sys2Proof.Machine.execWindowEnd group inp s
  | .pathSilent stream path inp => Sys2Proof.Machine.execPathSilent stream path inp s
  | .commitApply inp => Sys2Proof.Machine.execCommitApply inp s
  | .returnPacketBuild feed inp => Sys2Proof.Machine.execReturnPacketBuild feed inp s
  | .meterPeriodEnd inp => Sys2Proof.Machine.execMeterPeriodEnd inp s
  | .requestArrival bytes => Sys2Proof.Machine.execRequestArrival bytes s
  | .frameCheckFail bytes => Sys2Proof.Machine.execFrameCheckFail bytes s
  | .frameOverLength bytes => Sys2Proof.Machine.execFrameOverLength bytes s
  | .frameStopBitError bytes => Sys2Proof.Machine.execFrameStopBitError bytes s
  | .interByteTimeout bytes => Sys2Proof.Machine.execInterByteTimeout bytes s
  | .replySent => Sys2Proof.Machine.execReplySent s
  | .badKind => Sys2Proof.Machine.execBadKind s
  | .identify => Sys2Proof.Machine.execIdentify s
  | .reset => Sys2Proof.Machine.execReset s
  | .clockQuery sample => Sys2Proof.Machine.execClockQuery sample s
  | .noticeFetch => Sys2Proof.Machine.execNoticeFetch s
  | .noticeEnable => Sys2Proof.Machine.execNoticeEnable s
  | .portEnable sample => Sys2Proof.Machine.execPortEnable sample s
  | .portDisable => Sys2Proof.Machine.execPortDisable s
  | .portBudget => Sys2Proof.Machine.execPortBudget s
  | .portQuery sample => Sys2Proof.Machine.execPortQuery sample s
  | .streamOpen => Sys2Proof.Machine.execStreamOpen s
  | .streamStart => Sys2Proof.Machine.execStreamStart s
  | .streamStop => Sys2Proof.Machine.execStreamStop s
  | .streamClose => Sys2Proof.Machine.execStreamClose s
  | .streamRepair => Sys2Proof.Machine.execStreamRepair s
  | .streamQuery => Sys2Proof.Machine.execStreamQuery s
  | .streamClock => Sys2Proof.Machine.execStreamClock s
  | .groupSet => Sys2Proof.Machine.execGroupSet s
  | .groupQuery => Sys2Proof.Machine.execGroupQuery s
  | .groupClock => Sys2Proof.Machine.execGroupClock s
  | .groupRecentre => Sys2Proof.Machine.execGroupRecentre s
  | .mapSet => Sys2Proof.Machine.execMapSet s
  | .mapCommit => Sys2Proof.Machine.execMapCommit s
  | .mapDiscard => Sys2Proof.Machine.execMapDiscard s
  | .mapQuery => Sys2Proof.Machine.execMapQuery s
  | .returnSet => Sys2Proof.Machine.execReturnSet s
  | .returnCoef => Sys2Proof.Machine.execReturnCoef s
  | .returnStart => Sys2Proof.Machine.execReturnStart s
  | .returnStop => Sys2Proof.Machine.execReturnStop s
  | .returnQuery => Sys2Proof.Machine.execReturnQuery s
  | .signalSet => Sys2Proof.Machine.execSignalSet s
  | .signalOverride => Sys2Proof.Machine.execSignalOverride s
  | .signalQuery => Sys2Proof.Machine.execSignalQuery s
  | .siginMask => Sys2Proof.Machine.execSiginMask s
  | .meterSet => Sys2Proof.Machine.execMeterSet s
  | .meterRead => Sys2Proof.Machine.execMeterRead s
  | .watchSet => Sys2Proof.Machine.execWatchSet s
  | .watchQuery => Sys2Proof.Machine.execWatchQuery s
  | .testQuery => Sys2Proof.Machine.execTestQuery s

end Sys2Proof.Machine
end

