-- ==== Sys2Proof/Safety.lean ====
section
/-! DEFINITION. What the spec says always holds of the part, block by block: the invariants that claims are stated in. -/

namespace Sys2Proof.Machine

/-- The House Clock Unit (R43): the lock count lies from 0 to 999, and it and the fallback state are used in LOCKING alone. -/
structure HouseClock.Ok (c : HouseClock) : Prop where
  lockCount : c.lockCount < 1000
  outsideLocking : c.ref ≠ .locking → c.lockCount = 0 ∧ c.fallbackHoldover = false

/-- The notice queue (R185): never more than 64 entries, nor two entries of the same kind and subject. -/
structure NoticeQueue.Ok (nq : NoticeQueue) : Prop where
  bounded : nq.entries.length ≤ 64
  distinct : nq.entries.Pairwise fun m n => ¬(m.kind = n.kind ∧ m.subject = n.subject)

/-- The request queue and the transmitter (R177, R178): at most 4 requests, taken in queue order; a queued reply in transmission is
that of the oldest request; and the transmitter is idle only when no reply waits for it. -/
structure ControlLine.Ok (c : ControlLine) : Prop where
  bounded : c.queue.length ≤ 4
  takenInOrder : c.queue.Pairwise fun q r => r.reply.isSome → q.reply.isSome
  sendsOldest : ∀ x, c.sending = some x → x.queued = true →
    ∃ r rest body, c.queue = r :: rest ∧ r.reply = some body ∧ x.reply = { kind := replyKind r.kind, tag := r.tag, body := body }
  idleOnlyWhenNothingWaits : c.sending = none → c.busy = [] ∧ ∀ r ∈ c.queue.head?, r.reply = none

/-- A map entry (R123): its pending flag is set exactly while its two copies differ. -/
def MapEntry.Ok (e : MapEntry) : Prop := e.pending = true ↔ e.staged ≠ e.active

/-- The settings of a group that GROUP_SET holds in range, and its drift, rate and LFSR (03 section 3.2, R49, R97, R98). -/
structure Group.InRange (g : Group) : Prop where
  hold : 48 ≤ g.hold ∧ g.hold ≤ 12192
  outageLimit : 4 ≤ g.outageLimit ∧ g.outageLimit ≤ 1000
  warning : g.warning ≤ 64
  drift : -2560 ≤ g.drift ∧ g.drift ≤ 2560
  corr : -2560 ≤ g.corr ∧ g.corr ≤ 2560
  lfsr : g.lfsr ≠ 0

/-- The slip schedule (R94, R97): with no direction there is no interval and the countdown is 0; with one the interval lies from 100
to 64,000 and the countdown from 1 to the interval. -/
def Group.ScheduleOk (g : Group) : Prop :=
  (g.dir = .steady → g.interval = none ∧ g.countdown = 0) ∧
  (g.dir ≠ .steady → ∃ n, g.interval = some n ∧ 100 ≤ n ∧ n ≤ 64000 ∧ 1 ≤ g.countdown ∧ g.countdown ≤ n)

/-- The timeline of a group (R46, R52, R53, R55): an UNANCHORED group holds no O_ref, Q, Q_anchor, window, direction or recentre; an
ANCHORED one holds the first three, and its window stands below 1,000 blocks. -/
structure Group.TimelineOk (g : Group) : Prop where
  unanchored : g.anchored = false →
    g.oRef = none ∧ g.q = none ∧ g.qAnchor = none ∧ g.window = none ∧ g.dir = .steady ∧ g.pending = none
  anchored : g.anchored = true → g.oRef.isSome = true ∧ g.q.isSome = true ∧ g.qAnchor.isSome = true
  window : ∀ n k, g.window = some (n, k) → k < 1000

/-- The account of Q since the anchor (R60): Q − Q_anchor is the repeat total less the drop total less the adjustment sum. -/
def Group.QAccount (g : Group) : Prop :=
  ∀ q a, g.anchored = true → g.q = some q → g.qAnchor = some a → q - a = g.repeats - g.drops - g.adjSum

/-- What a group's record always is. -/
structure Group.Ok (g : Group) : Prop where
  inRange : g.InRange
  schedule : g.ScheduleOk
  timeline : g.TimelineOk
  account : g.QAccount

/-- The depth that a stream holds of the slot pool: its own while it is not CLOSED (R29). -/
def Stream.slotsHeld (x : Stream) : Nat := if x.state = .closed then 0 else x.depth

/-- What a stream charges on a port: its load for each flow bound there while it is not CLOSED (R31). -/
def Stream.chargeAt (x : Stream) (p : PortId) : Nat := if x.state = .closed then 0 else chargeOn p x.load x.flowA x.flowB

/-- What a feed charges on a port: its load while it runs and names the port (R144). -/
def Feed.chargeAt (f : Feed) (p : PortId) : Nat := if f.running && f.ports.names p then f.load else 0

/-- One port's budgets and loads (R10, R31, R144): the loads are the exact sums of the charges, at most the budgets. -/
structure State.PortAccount (s : State) (p : PortId) : Prop where
  ingestSum : (s.port p).ingestLoad = (s.streams.toList.map (·.chargeAt p)).sum
  transmitSum : (s.port p).transmitLoad = (s.returns.feeds.toList.map (·.chargeAt p)).sum
  ingestFits : (s.port p).ingestLoad ≤ (s.port p).ingestBudget
  transmitFits : (s.port p).transmitLoad ≤ (s.port p).transmitBudget
  ingestBudget : 1000 ≤ (s.port p).ingestBudget ∧ (s.port p).ingestBudget ≤ 950000
  transmitBudget : 1000 ≤ (s.port p).transmitBudget ∧ (s.port p).transmitBudget ≤ 950000

/-- The slot pool and the port loads (R10, R29, R31, R144). -/
structure State.AccountsOk (s : State) : Prop where
  slotSum : s.slotsInUse = (s.streams.toList.map Stream.slotsHeld).sum
  slotsFit : s.slotsInUse ≤ 4096
  ports : ∀ p, s.PortAccount p

/-- A return feed (R138, R140, R143, R147, R149): its settings in range, what a STOPPED feed and a RUNNING one hold, and a packet in
assembly that is not yet complete. -/
structure Feed.Ok (f : Feed) : Prop where
  channels : f.channels = 1 ∨ f.channels = 2
  format : f.format ≠ .l32
  packing : f.packing = 1 ∨ f.packing = 2 ∨ f.packing = 4
  testFormat : f.mode = .test → f.format = .l24
  generator : f.generator ≠ 0
  stopped : f.running = false → f.load = 0 ∧ f.assembly = []
  running : f.running = true → f.flowId ≠ 0 ∧ f.load = f.loadFigure
  unfinished : f.assembly.length < f.packing
  assemblyFormat : f.assembly ≠ [] → f.assemblyMode = .test → f.format = .l24
  blockSizes : ∀ b ∈ f.assembly, b.length = 48 * f.channels * f.format.bytes

/-- A level watch (R167): its thresholds in order, its persistence from 1 to 255, its run below the persistence, and its state OFF
exactly in mode OFF. -/
structure Watch.Ok (w : Watch) : Prop where
  thresholds : w.low ≤ w.high
  persistence : 1 ≤ w.persistence ∧ w.persistence ≤ 255
  run : w.run < w.persistence
  off : w.state = .off ↔ w.mode = .off

/-- The Meter Unit (R162, R163, R167): the period exponent from 4 to 10, the block count below the period, and every watch in order. -/
structure MeterUnit.Ok (m : MeterUnit) : Prop where
  exponent : 4 ≤ m.exponent ∧ m.exponent ≤ 10
  blocks : m.blocks < 2 ^ m.exponent
  watches : ∀ w, (m.watches.get w).Ok

/-- Membership (R47): a stream stands in the member list of its own group while it is open and in no other list, and a list holds at
most 8 streams, none of them twice. -/
structure State.MembershipOk (s : State) : Prop where
  listed : ∀ g i, i ∈ (s.group g).members ↔ (s.stream i).state ≠ .closed ∧ (s.stream i).group = g
  atMostEight : ∀ g, (s.group g).members.length ≤ 8
  noRepeat : ∀ g, (s.group g).members.Nodup

/-- What a Flow Table entry must be for a declared flow: bound to it, or unbound (R16). -/
def FlowEntry.AgreesWith (e : FlowEntry) (f : Option Flow) : Prop :=
  match f with
  | some x => e = .bind x
  | none => e.bound = false

/-- The Flow Table (R16): the entries of a stream are bound to its declared flows, and no two bound entries share a port and flow
id. -/
structure State.FlowTableOk (s : State) : Prop where
  pathA : ∀ i, (s.flows.get (entryA i)).AgreesWith (s.stream i).flowA
  pathB : ∀ i, (s.flows.get (entryB i)).AgreesWith (s.stream i).flowB
  distinct : ∀ j k, (s.flows.get j).bound = true → (s.flows.get k).bound = true →
    (s.flows.get j).port = (s.flows.get k).port → (s.flows.get j).flowId = (s.flows.get k).flowId → j = k

/-- A stream record (R23, R26, R36, R53, R67): CLOSED is one whole condition; an open stream has a declared format in range, a ring
of its depth, a flow B exactly when it is not SINGLE, and a timeline exactly in the states from PRIMED to ENDED. -/
structure Stream.Ok (x : Stream) : Prop where
  closed : x.state = .closed → x = .closed
  channels : x.state ≠ .closed → 1 ≤ x.channels ∧ x.channels ≤ 8
  packing : x.state ≠ .closed → x.packing = 1 ∨ x.packing = 2 ∨ x.packing = 4
  depth : x.state ≠ .closed → x.depth ∈ [16, 32, 64, 128, 256]
  payload : x.state ≠ .closed → payloadBytes x.packing x.channels x.format ≤ 1440
  load : x.state ≠ .closed → x.load = flowLoad x.packing x.channels x.format
  ring : x.ring.length = x.depth
  flowA : x.state ≠ .closed → x.flowA.isSome = true
  flowB : x.flowB.isSome = true ↔ x.pair ≠ .single
  origin : x.origin.isSome = true ↔ x.state.holdsTimeline = true
  ePlay : x.ePlay.isSome = true ↔ x.state.holdsTimeline = true
  earlyRun : x.earlyRun ≤ 7
  breaks : x.breaks ≤ 3
  mismatches : x.windowMismatches ≤ 4 ∧ (x.pair = .paired → x.windowMismatches ≤ 3)

/-- Streams with their groups and flows: what admission keeps (R16, R23, R47), with the group of every drawn member ANCHORED, and a
member that holds the timeline in every ANCHORED group (R53). -/
structure State.StreamsOk (s : State) : Prop where
  streams : ∀ i, (s.stream i).Ok
  membership : s.MembershipOk
  flowTable : s.FlowTableOk
  anchored : ∀ i, (s.stream i).state.drawn = true → (s.group (s.stream i).group).anchored = true
  held : ∀ g, (s.group g).anchored = true → ∃ i ∈ (s.group g).members, (s.stream i).state.holdsTimeline = true

/-- A notice is posted in an event that leads from `s` to `t`: it is among those that the notice queue takes, at this HBC (R185). -/
def State.Posted (s t : State) (hbc : Word) (p : Post) : Prop :=
  ∃ ps, p ∈ ps ∧ t.notices = s.notices.postAll hbc ps

/-- The next request to be taken is of this kind and has this body: it is the oldest request not yet taken, and no RESET taken
waits to take effect (R177, R181). -/
def State.Next (s : State) (kind : Byte) (body : List Byte) : Prop :=
  s.control.resetTaken = false ∧
    ∃ taken r rest, s.control.queue = taken ++ r :: rest ∧ (∀ q ∈ taken, q.reply.isSome = true) ∧
      r.reply = none ∧ r.kind = kind ∧ r.body = body

/-- The condition that the part holds while RESETn is low: every block's reset values, with the house clock, the control line and the
output bus held (R182, R183). -/
structure State.HeldInReset (s : State) : Prop where
  low : s.resetLow = true
  time : s.clock.hbc = 0 ∧ s.clock.sample = 0
  reference : s.clock.ref = .free ∧ s.clock.lockCount = 0 ∧ s.clock.losses = 0
  ports : ∀ p, s.port p = .reset (s.port p).carrier
  flows : ∀ j, (s.flows.get j).bound = false
  slots : s.slotsInUse = 0
  streams : ∀ i, s.stream i = .closed
  groups : ∀ g, s.group g = .reset
  map : (∀ k, s.mapEntry k = .reset) ∧ s.output.commit = false
  bus : s.output.tdmOut = List.replicate 64 (List.replicate 48 0)
  feeds : ∀ r, s.feed r = .reset
  lines : ∀ k, s.line k = .reset
  inputs : s.signals.sampled = 0 ∧ s.signals.mask = 0
  meters : s.meters = .reset
  receiver : s.control.receiver = none ∧ s.control.errors = 0
  requests : s.control.queue = [] ∧ s.control.busy = [] ∧ s.control.sending = none ∧ s.control.resetTaken = false
  notices : s.notices.entries = [] ∧ s.notices.lost = 0 ∧ s.alertN = true
  enables : (∀ j, j < 22 → s.notices.queueEnable.getLsbD j = true) ∧
    ∀ j, j < 22 → (s.notices.alertEnable.getLsbD j = true ↔ j < 6)

/-- The commands that take a request, with the request's kind (R178). -/
def requestCommands (n : Fin 48) : List (Byte × Instr) :=
  [(0x01, .identify), (0x02, .reset), (0x03, .clockQuery n), (0x04, .noticeFetch), (0x05, .noticeEnable),
   (0x10, .portEnable n), (0x11, .portDisable), (0x12, .portBudget), (0x13, .portQuery n),
   (0x20, .streamOpen), (0x21, .streamStart), (0x22, .streamStop), (0x23, .streamClose), (0x24, .streamRepair),
   (0x25, .streamQuery), (0x26, .streamClock), (0x30, .groupSet), (0x31, .groupQuery), (0x32, .groupClock),
   (0x33, .groupRecentre), (0x40, .mapSet), (0x41, .mapCommit), (0x42, .mapDiscard), (0x43, .mapQuery),
   (0x50, .returnSet), (0x51, .returnCoef), (0x52, .returnStart), (0x53, .returnStop), (0x54, .returnQuery),
   (0x60, .signalSet), (0x61, .signalOverride), (0x62, .signalQuery), (0x63, .siginMask),
   (0x70, .meterSet), (0x71, .meterRead), (0x72, .watchSet), (0x73, .watchQuery), (0x74, .testQuery)]

/-- A packet that the layout can carry: K, channels and payload in range (R1, R2, R5). -/
structure Packet.Ok (p : Packet) : Prop where
  packing : p.packing = 1 ∨ p.packing = 2 ∨ p.packing = 4
  channels : 1 ≤ p.channels ∧ p.channels ≤ 8
  payload : p.payload.length = p.packing * 48 * p.channels * p.format.bytes
  fits : p.payload.length ≤ 1440

/-- The bytes of a frame on the control line (R175). -/
def frameBytes (kind tag : Byte) (body : List Byte) : List Byte := Reply.frame { kind := kind, tag := tag, body := body }

/-- The Flow Table entry of a stream's path (R16). -/
def entryOf (i : Fin 32) : PathId → Fin 64
  | .a => entryA i
  | .b => entryB i

/-- A port and flow id are bound to a path of a stream, and to nothing else (R16, R17). -/
def State.BoundTo (s : State) (port : PortId) (flowId : Half) (i : Fin 32) (path : PathId) : Prop :=
  s.flows.get (entryOf i path) = { bound := true, port := port, flowId := flowId } ∧
    ∀ j, s.flows.get j = { bound := true, port := port, flowId := flowId } → j = entryOf i path

/-- A datagram that arrives at a house sample comes to a path of a stream whose blocks it may bring: the port is in UP, the datagram is
well formed, its flow is bound to that path, the path is not paired off, and the four declared fields agree (R9, R17, R18, R20). -/
structure State.Delivers (s : State) (port : PortId) (n : Fin 48) (d : List Byte) (p : Packet) (i : Fin 32) (path : PathId) : Prop where
  up : ((s.atSample n).port port).state = .up
  read : judgeDatagram d = .wellFormed p
  bound : s.BoundTo port p.flowId i path
  paired : ¬(path = .b ∧ (s.stream i).pair = .pairFault)
  channels : (s.stream i).channels = p.channels
  format : (s.stream i).format = p.format
  packing : (s.stream i).packing = p.packing
  test : (s.stream i).test = p.test

/-- The body of a STREAM_OPEN (R25); `unused` stands in the port and flow id of a flow B that is not given, which are not read. -/
def openBody (i : Fin 32) (o : OpenFields) (unused : Byte × Half) : List Byte :=
  [byteOf i.val, byteOf o.group.val, byteOf o.channels, byteOf o.format.code, byteOf o.packing] ++ be16 o.depth ++
  [if o.test then 1 else 0] ++ [1, byteOf (portNumber o.flowA.port)] ++ be16 o.flowA.flowId.toNat ++
  match o.flowB with
  | none => [0, unused.1] ++ be16 unused.2.toNat
  | some f => [1, byteOf (portNumber f.port)] ++ be16 f.flowId.toNat

end Sys2Proof.Machine
end

