-- ==== Sys2Proof/Certificates/Slice0/Obligations.lean ====
section
/-! DEFINITION. The statements for the provers. Each docstring names the rules that a statement is about; where a clause rests on
the model's own choice it names the log entry. Reply bodies begin with the status, 0 for OK (R178). -/

open Sys2Proof Sys2Proof.Machine

/-! ## The machine and its resets -/

/-- A step runs the command at the front of the queue on the state with the queue's rest; on an empty queue the block idles (log
6). -/
def Obligations.StepRunsTheFrontCommand : Prop :=
  (∀ (c : Instr) (rest : List Instr) (s : State), s.pending = c :: rest → step s = exec c { s with pending := rest }) ∧
  (∀ s : State, s.pending = [] → step s = .next s)

/-- Every command ends in a next state, whatever the state, and leaves the commands that wait as they stand. -/
def Obligations.EveryCommandEndsInANextState : Prop :=
  ∀ (c : Instr) (s : State), ∃ t : State, exec c s = .next t ∧ t.pending = s.pending

/-- What the spec gives every block but the sixteen group records, which have a statement of their own, at power-on (R15, R16, R23,
R29, R42, R43, R44, R121, R124, R138, R152, R158, R159, R163, R167, R182, R187, R188). The CLOSED condition of a stream is spelled
out field by field (R23, R62, R75, R83, R86, R107, R173); the fields that hold no meaning in it stand at 0, as STREAM_QUERY reports
them, and its checker's LFSR and its `stopped` mark are the model's (logs 7 and 22). -/
def Obligations.ResetValues : Prop :=
  let s := State.reset
  s.clock.hbc = 0 ∧ s.hs = 0 ∧ s.clock.ref = .free ∧ s.clock.lockCount = 0 ∧ s.clock.losses = 0 ∧
  (∀ p, (s.port p).state = .off ∧ (s.port p).ingestBudget = 400000 ∧ (s.port p).transmitBudget = 100000 ∧
    (s.port p).ingestLoad = 0 ∧ (s.port p).transmitLoad = 0 ∧ (s.port p).received = 0 ∧ (s.port p).checkErrors = 0 ∧
    (s.port p).malformed = 0 ∧ (s.port p).unknownFlow = 0 ∧ (s.port p).notStarted = 0) ∧
  (∀ j, (s.flows.get j).bound = false) ∧ (∀ i, s.stream i = .closed) ∧ s.slotsInUse = 0 ∧
  Stream.closed =
    { group := 0, flowA := none, flowB := none, channels := 0, format := .l16, packing := 0, depth := 0, test := false, load := 0
      state := .closed, pair := .single, windowMismatches := 0, breaks := 0, origin := none, ePlay := none, endSeq := none
      resume := none, watchA := { mark := false, silent := 0 }, watchB := { mark := false, silent := 0 }
      counters :=
        { firstA := 0, firstB := 0, duplicates := 0, late := 0, early := 0, afterEnd := 0, formatMismatch := 0, timelineRejects := 0
          pairMismatches := 0, pairOff := 0, missing := 0, skipped := 0, outages := 0 }
      earlyRun := 0, ring := [], servedTo := none, headroomArmed := true
      conceal := { lastReal := none, fadeOut := none, fadeInDue := false, fadeIn := none, missingRun := 0 }
      clock := { current := none, transits := 0, last := none, stopped := false }
      checker := { sync := false, lfsr := 1, mismatches := 0, lastSeq := none, errors := 0, gaps := 0, checked := 0 } } ∧
  (∀ k, (s.mapEntry k).active = { source := .silent, gain := 16384, mute := false } ∧
    (s.mapEntry k).staged = { source := .silent, gain := 16384, mute := false } ∧ (s.mapEntry k).pending = false ∧
    (s.mapEntry k).clipping = false ∧ (s.mapEntry k).clips = 0) ∧
  s.output.commit = false ∧ (∀ j, j < 48 → s.tdmFrame j = List.replicate 64 0) ∧
  (∀ r, (s.feed r).running = false ∧ (s.feed r).flowId = 0 ∧ (s.feed r).ports = .a ∧ (s.feed r).channels = 1 ∧
    (s.feed r).format = .l16 ∧ (s.feed r).packing = 1 ∧ (s.feed r).mode = .mix ∧ (s.feed r).row0 = List.replicate 32 0 ∧
    (s.feed r).row1 = List.replicate 32 0 ∧ (s.feed r).talkback = 0 ∧ (s.feed r).cueMask = 0 ∧ (s.feed r).dimLine = none ∧
    (s.feed r).dimGain = 16384 ∧ (s.feed r).nextSeq = 0 ∧ (s.feed r).assembly = [] ∧ (s.feed r).generator = 1 ∧
    (s.feed r).load = 0 ∧ (s.feed r).sentA = 0 ∧ (s.feed r).sentB = 0 ∧ (s.feed r).unsentA = 0 ∧ (s.feed r).unsentB = 0 ∧
    (s.feed r).saturated0 = 0 ∧ (s.feed r).saturated1 = 0) ∧
  (∀ k, s.line k = { mode := .off, stream := 0, bit := 0, invert := false, fail := .low, override := false, current := false }) ∧
  s.signals.sampled = 0 ∧ s.signals.mask = 0 ∧
  s.meters.exponent = 8 ∧ s.meters.blocks = 0 ∧ s.meters.periods = 0 ∧ s.meters.lastEnd = 0 ∧ s.meters.valid = false ∧
  (∀ k, s.meters.points.get k = { runPeak := 0, runSum := 0, peak := 0, mean := 0 }) ∧
  (∀ w, s.watch w =
    { point := 0, measure := .peak, mode := .off, low := 0, high := 0, persistence := 1, state := .off, run := 0 }) ∧
  s.control.receiver = none ∧ s.control.queue = [] ∧ s.control.busy = [] ∧ s.control.sending = none ∧ s.control.errors = 0 ∧
  s.notices.entries = [] ∧ s.notices.lost = 0 ∧ (∀ j, j < 22 → s.notices.queueEnable.getLsbD j = true) ∧
  (∀ j, j < 22 → (s.notices.alertEnable.getLsbD j = true ↔ j < 6)) ∧ s.alertN = true

/-- POWER_ON: every block takes its power-on values, the rate is the strap's, and the carrier records follow the lines; the RESETn
pin stands as it is, which is the model's choice (log 17). RESETN_FALL puts the part into the reset condition, which it then holds;
RESETN_RELEASE reads the strap and lets it go (R15, R176, R182, R183). A release of a RESETn that is not low changes nothing (log
3). -/
def Obligations.PowerOnAndResetnResetThePart : Prop :=
  (∀ (s : State) (strap ca cb : Bool), exec (.powerOn strap ca cb) s = .next
    { State.reset with
      resetLow := s.resetLow
      portA := { State.reset.portA with carrier := ca }
      portB := { State.reset.portB with carrier := cb }
      control := { State.reset.control with fastRate := strap }
      pending := s.pending }) ∧
  ((∀ s : State, ∃ t : State, exec .resetnFall s = .next t ∧ t.HeldInReset ∧ t.control.errors = 0 ∧ t.control.fastRate = s.control.fastRate ∧
    t.notices.lost = 0 ∧ t.notices.queueEnable = 0x3FFFFF ∧ t.notices.alertEnable = 0x3F ∧
    (∀ p, (t.port p).carrier = (s.port p).carrier) ∧ t.pending = s.pending) ∧
  (∀ (s : State) (strap : Bool), s.resetLow = true →
    exec (.resetnRelease strap) s = .next { s with resetLow := false, control := { s.control with fastRate := strap } }) ∧
  (∀ (s : State) (strap : Bool), s.resetLow = false → exec (.resetnRelease strap) s = .next s))

/-- R46: power-on, RESETn and the RESET request, when it takes effect, each put all sixteen group records into one condition; the
RESET request leaves the house clock running. -/
def Obligations.EveryResetPutsTheGroupsInOneCondition : Prop :=
  let g0 : Group :=
    { members := [], anchored := false, oRef := none, q := none, qAnchor := none, hold := 480, outageLimit := 50, warning := 0
      drift := 0, corr := 0, dir := .steady, interval := none, countdown := 0, lfsr := 0b100001, window := none, report := none
      leadLast := none, repeats := 0, drops := 0, recentres := 0, steps := 0, adjSum := 0, pending := none }
  (∀ (s : State) (strap ca cb : Bool), ∃ t : State, exec (.powerOn strap ca cb) s = .next t ∧ ∀ g, t.group g = g0) ∧
  (∀ s : State, ∃ t : State, exec .resetnFall s = .next t ∧ ∀ g, t.group g = g0) ∧
  (∀ (s : State) (x : Sending) (r : Request) (rest : List Request), s.control.sending = some x → x.queued = true →
    s.control.queue = r :: rest → r.kind = 0x02 → r.reply = some [0] →
    ∃ t : State, exec .replySent s = .next t ∧ t.clock = s.clock ∧ ∀ g, t.group g = g0)

/-- While RESETn is low the part holds the reset condition through every command but the release (R183): no boundary, edge, datagram,
byte or input moves it, and of what it holds the carrier records alone follow their lines. The condition is that of every block: the
Flow Table, the slot pool, the map, the feeds, the input mask, the meters, the counts and the enables are in it (R182). -/
def Obligations.NothingMovesWhileResetnIsLow : Prop :=
  ∀ (s t : State) (c : Instr), s.HeldInReset → (∀ strap, c ≠ .resetnRelease strap) → exec c s = .next t → t.HeldInReset

/-! ## The control line -/

/-- RESET is answered OK at its taking, and from then on no request command takes anything until the reset takes effect (R177,
R181). -/
def Obligations.ResetRequestStopsTheTaking : Prop :=
  (∀ s : State, s.Next 0x02 [] →
    exec .reset s = .next (State.answer { s with control := { s.control with resetTaken := true } } [0])) ∧
  (∀ (s : State) (n : Fin 48) (p : Byte × Instr), s.control.resetTaken = true → p ∈ requestCommands n → exec p.2 s = .next s) ∧
  (∀ s : State, s.control.resetTaken = true → exec .badKind s = .next s)

/-- REPLY_SENT: the last byte of a queued reply frees the place of its request, that of a BUSY reply frees nothing, and the
transmitter then begins the next frame (R177, R178). The reset of a RESET request takes effect with the last byte of its reply: every
block takes its reset values; the House Clock Unit, the rate, the error count, a frame part way in, the BUSY replies, the output
frames and the input capture stand (R15, R121, R122, R181). With no reply in transmission nothing happens, which is log 3, and
what the ports last transmitted stands in the model's own record through the reset, which is log 18. -/
def Obligations.ReplySentEndsItsRequest : Prop :=
  ((∀ (s : State) (x : Sending) (r : Request) (rest : List Request), s.control.sending = some x → x.queued = true →
    s.control.queue = r :: rest → (r.kind ≠ 0x02 ∨ r.reply ≠ some [0]) →
    exec .replySent s =
      .next { s with control := ControlLine.startReply { s.control with queue := rest, sending := none } }) ∧
  (∀ (s : State) (x : Sending), s.control.sending = some x → x.queued = false →
    exec .replySent s = .next { s with control := ControlLine.startReply { s.control with sending := none } }) ∧
  (∀ s : State, s.control.sending = none → exec .replySent s = .next s)) ∧
  (∀ (s : State) (x : Sending) (r : Request) (rest : List Request), s.control.sending = some x → x.queued = true →
    s.control.queue = r :: rest → r.kind = 0x02 → r.reply = some [0] →
    exec .replySent s = .next
      { State.reset with
        resetLow := s.resetLow
        clock := s.clock
        portA := { State.reset.portA with carrier := s.portA.carrier }
        portB := { State.reset.portB with carrier := s.portB.carrier }
        output := { State.reset.output with tdmOut := s.output.tdmOut, galleryIn := s.output.galleryIn }
        returns := { State.reset.returns with transmitted := s.returns.transmitted }
        control := ControlLine.startReply { s.control with queue := [], sending := none, resetTaken := false }
        pending := s.pending })

/-- The transmitter begins a frame only when none is in transmission: the oldest BUSY reply first, and otherwise the reply of the
oldest queued request once that has been taken (R178); a reply's kind is the request's plus 0x80, and unchanged from 0x80 on (R175).
A request that is taken gets its one reply, formed in its place of the queue, and nothing else of the part changes but what the
transmitter begins (R177, R178). -/
def Obligations.RepliesAreFormedAndSentInOrder : Prop :=
  ((∀ (c : ControlLine) (x : Sending), c.sending = some x → c.startReply = c) ∧
  (∀ (c : ControlLine) (b : Reply) (bs : List Reply), c.sending = none → c.busy = b :: bs →
    c.startReply = { c with sending := some { reply := b, queued := false }, busy := bs }) ∧
  (∀ (c : ControlLine) (r : Request) (rest : List Request) (body : List Byte), c.sending = none → c.busy = [] →
    c.queue = r :: rest → r.reply = some body →
    c.startReply = { c with
      sending := some { queued := true, reply :=
        { kind := if r.kind.toNat < 128 then r.kind + 128 else r.kind, tag := r.tag, body := body } } }) ∧
  (∀ c : ControlLine, c.sending = none → c.busy = [] → (∀ r ∈ c.queue.head?, r.reply = none) → c.startReply = c)) ∧
  (∀ (s : State) (taken rest : List Request) (r : Request) (body : List Byte),
    s.control.queue = taken ++ r :: rest → (∀ q ∈ taken, q.reply.isSome = true) → r.reply = none →
    s.answer body = { s with
      control := ControlLine.startReply { s.control with queue := taken ++ { r with reply := some body } :: rest } })

/-- BAD_KIND and BAD_LENGTH come before a request's own checks: an unknown kind is taken and refused with 2, a known kind of the
wrong length with 3, and neither changes anything else (R179); and the body length that each request kind must carry (R178). A
BAD_KIND when the next request is of a known kind changes nothing, which is log 3. -/
def Obligations.UnknownKindsAndWrongLengthsAreRefused : Prop :=
  ((∀ (s : State) (n : Fin 48) (kind : Byte) (body : List Byte), s.Next kind body → (∀ p ∈ requestCommands n, p.1 ≠ kind) →
    exec .badKind s = .next (s.answer [2])) ∧
  (∀ (s : State) (n : Fin 48) (p : Byte × Instr) (body : List Byte), p ∈ requestCommands n → s.Next p.1 body →
    bodyLength p.1 ≠ some body.length → exec p.2 s = .next (s.answer [3])) ∧
  (∀ (s : State) (n : Fin 48) (p : Byte × Instr) (body : List Byte), p ∈ requestCommands n → s.Next p.1 body →
    exec .badKind s = .next s)) ∧
  ([0x01, 0x02, 0x03, 0x04, 0x05, 0x10, 0x11, 0x12, 0x13, 0x20, 0x21, 0x22, 0x23, 0x24, 0x25, 0x26, 0x30, 0x31, 0x32, 0x33, 0x40, 0x41,
    0x42, 0x43, 0x50, 0x51, 0x52, 0x53, 0x54, 0x60, 0x61, 0x62, 0x63, 0x70, 0x71, 0x72, 0x73, 0x74].map bodyLength =
  [0, 0, 0, 1, 8, 1, 1, 9, 2, 16, 1, 1, 1, 1, 1, 1, 6, 1, 1, 1, 7, 0, 1, 3, 17, 66, 1, 1, 2, 6, 4, 0, 2, 1, 2, 13, 1, 2].map some ∧
  (∀ (k : Byte) (n : Fin 48), (∀ p ∈ requestCommands n, p.1 ≠ k) → bodyLength k = none))

/-- REQUEST_ARRIVAL: a hunting receiver that takes a whole frame with a matching check queues its request, and when the queue holds
four gives it a BUSY reply, status 1 (R175, R176, R177). The four ways in which a frame fails: a check that differs, a length above
1,024, a low stop bit and the 10 ms expiry; each discards the frame and raises the control error count, and the receiver hunts
(R176). A hunting receiver counts nothing. -/
def Obligations.FramesReachTheQueueOrAreCounted : Prop :=
  (∀ (s : State) (kind tag : Byte) (body noise : List Byte), s.resetLow = false → s.control.receiver = none → body.length ≤ 1024 →
    (∀ b ∈ noise, b ≠ 0xC3) →
    (s.control.queue.length < 4 → exec (.requestArrival (noise ++ frameBytes kind tag body)) s = .next
      { s with control := { s.control with
        queue := s.control.queue ++ [{ kind := kind, tag := tag, body := body, reply := none }] } }) ∧
    (4 ≤ s.control.queue.length → exec (.requestArrival (noise ++ frameBytes kind tag body)) s = .next
      { s with control := ControlLine.startReply { s.control with
        busy := s.control.busy ++ [{ kind := replyKind kind, tag := tag, body := [1] }] } })) ∧
  ((∀ (s : State) (kind tag : Byte) (body : List Byte) (check : Half), s.resetLow = false → s.control.receiver = none →
    body.length ≤ 1024 → check ≠ crc16 ([kind, tag] ++ be16 body.length ++ body) →
    exec (.frameCheckFail ([0xC3, kind, tag] ++ be16 body.length ++ body ++ be16 check.toNat)) s =
      .next { s with control := { s.control with errors := s.control.errors + 1 } }) ∧
  (∀ (s : State) (kind tag : Byte) (n : Nat), s.resetLow = false → s.control.receiver = none → 1024 < n → n < 65536 →
    exec (.frameOverLength ([0xC3, kind, tag] ++ be16 n)) s =
      .next { s with control := { s.control with errors := s.control.errors + 1 } }) ∧
  (∀ (s : State) (got : List Byte), s.resetLow = false → s.control.receiver = some got →
    exec (.frameStopBitError []) s =
      .next { s with control := { s.control with receiver := none, errors := s.control.errors + 1 } } ∧
    exec (.interByteTimeout []) s =
      .next { s with control := { s.control with receiver := none, errors := s.control.errors + 1 } }) ∧
  (∀ s : State, s.control.receiver = none → exec (.frameStopBitError []) s = .next s ∧ exec (.interByteTimeout []) s = .next s))

/-- R180: IDENTIFY is answered OK with the codes, the revision, the capacities, the rate and the error count, and changes nothing;
the revision's 4 bytes and the rate's 1 byte are the encodings of R178 as the model reads them (log 11). -/
def Obligations.IdentifyReportsTheCapacities : Prop :=
  ∀ s : State, s.Next 0x01 [] → exec .identify s = .next (s.answer
    ([0] ++ [0x0A, 0x17] ++ [0x00, 0x32] ++ be32 1 ++
      be32 32 ++ be32 16 ++ be32 64 ++ be32 4096 ++ be32 64 ++ be32 32 ++ be32 16 ++ be32 16 ++ be32 16 ++ be32 96 ++ be32 16 ++
      be32 64 ++ be32 4 ++ be32 1024 ++
      [if s.control.fastRate then 1 else 0] ++ beWord s.control.errors))

/-! ## The notice queue -/

/-- Posting a notice: the four cases, in their order, with the queue never above 64 entries nor holding two of one kind and subject
(R185), and ALERT_N low exactly while an entry of an alert-enabled kind is queued (R188). -/
def Obligations.NoticePostingFollowsItsFourCases : Prop :=
  (∀ (nq : NoticeQueue) (hbc : Word) (p : Post), nq.queueEnable.getLsbD p.kind.code = false → nq.post hbc p = nq) ∧
  (∀ (nq : NoticeQueue) (hbc : Word) (p : Post) (before after : List Notice) (n : Notice),
    nq.queueEnable.getLsbD p.kind.code = true → nq.entries = before ++ n :: after → n.kind = p.kind → n.subject = p.subject →
    (∀ m ∈ before ++ after, ¬(m.kind = p.kind ∧ m.subject = p.subject)) →
    nq.post hbc p = { nq with entries := before ++
      { n with detail := word p.detail, hbc := hbc, repeats := if n.repeats = 255 then 255 else n.repeats + 1 } :: after }) ∧
  (∀ (nq : NoticeQueue) (hbc : Word) (p : Post), nq.queueEnable.getLsbD p.kind.code = true →
    (∀ m ∈ nq.entries, ¬(m.kind = p.kind ∧ m.subject = p.subject)) →
    (nq.entries.length < 64 → nq.post hbc p = { nq with entries := nq.entries ++
      [{ kind := p.kind, subject := p.subject, hbc := hbc, detail := word p.detail, repeats := 0 }] }) ∧
    (64 ≤ nq.entries.length → nq.post hbc p = { nq with lost := nq.lost + 1 })) ∧
  (∀ (nq : NoticeQueue) (hbc : Word) (p : Post), nq.Ok → (nq.post hbc p).Ok) ∧
  (∀ s : State, s.alertN = false ↔ ∃ n ∈ s.notices.entries, s.notices.alertEnable.getLsbD n.kind.code = true)

/-- NOTICE_FETCH takes up to n notices, the URGENT ones (codes 0 to 5) first and each class in arrival order, answers them with the
lost count and the numbers taken and left, and clears the lost count (R184, R186). NOTICE_ENABLE replaces both masks; a bit from 22 on
makes either out of range (R187). The numbers taken and left stand in 4 bytes each, as the model reads R178 (log 11). -/
def Obligations.NoticeRequests : Prop :=
  (∀ (s : State) (n : Byte), s.Next 0x04 [n] →
    ((n = 0 ∨ 16 < n.toNat) → exec .noticeFetch s = .next (s.answer [4])) ∧
    (s.notices.Ok → 1 ≤ n.toNat → n.toNat ≤ 16 → ∃ got left : List Notice,
      exec .noticeFetch s = .next (State.answer { s with notices := { s.notices with entries := left, lost := 0 } }
        ([0] ++ beWord s.notices.lost ++ be32 got.length ++ be32 left.length ++ got.flatMap fun e =>
          [byteOf e.kind.code, if e.kind.code < 6 then 0 else 1, byteOf e.subject] ++ beWord e.hbc ++ beWord e.detail ++ [e.repeats])) ∧
      got = ((s.notices.entries.filter fun e => e.kind.code < 6) ++ (s.notices.entries.filter fun e => 6 ≤ e.kind.code)).take n.toNat ∧
      left.Sublist s.notices.entries ∧ (got ++ left).Perm s.notices.entries)) ∧
  (∀ (s : State) (q a : Word), s.Next 0x05 (beWord q ++ beWord a) → exec .noticeEnable s = .next
    (if q.toNat < 4194304 ∧ a.toNat < 4194304 then
      State.answer { s with notices := { s.notices with queueEnable := q.truncate 22, alertEnable := a.truncate 22 } }
        ([0] ++ beWord q ++ beWord a)
    else s.answer [4]))

/-! ## The house clock -/

/-- R45: CLOCK_QUERY reports the reference state, the fallback state and lock count in LOCKING alone, the loss count, HBC, and the
HS of its taking, which falls at the house sample that the command names (log 1). -/
def Obligations.ClockQueryReportsTheHouseClock : Prop :=
  ∀ (s : State) (n : Fin 48), s.Next 0x03 [] → ∃ t : State, t = s.atSample n ∧ exec (.clockQuery n) s = .next (t.answer
    (([0, match t.clock.ref with
        | .free => 0
        | .locking => 1
        | .locked => 2
        | .holdover => 3] : List Byte) ++
      [if t.clock.ref = .locking ∧ t.clock.fallbackHoldover = true then 3 else 0] ++
      be32 (if t.clock.ref = .locking then t.clock.lockCount else 0) ++ beWord t.clock.losses ++ beWord t.clock.hbc ++
      beWord (t.clock.hbc * 48 + BitVec.ofNat 32 t.clock.sample.val)))

/-- HREF_EDGE moves FREE and HOLDOVER to LOCKING with lock count 0 and themselves as the fallback state, and nothing else (R43); that
the house sample of an edge counts toward the judgement of its block is held in the model's edge record (log 5). The house sample of
an event goes forward within the block and never back, and stands still while RESETn is low: the model's reading of R42 (log 1). -/
def Obligations.ReferenceEdgeStartsLocking : Prop :=
  (∀ (s : State) (n : Fin 48), ∃ m : Fin 48, s.atSample n = { s with clock := { s.clock with sample := m } } ∧
    (s.resetLow = true → m = s.clock.sample) ∧ (s.resetLow = false → m = max s.clock.sample n)) ∧
  ((∀ (s : State) (n : Fin 48), s.resetLow = false → ∃ t : State, t = s.atSample n ∧ exec (.hrefEdge n) s = .next
    { t with clock := { t.clock with
      edges := t.clock.edges ||| (1#48 <<< t.clock.sample.val)
      ref := if t.clock.ref = .locked then .locked else .locking
      lockCount := if t.clock.ref = .free ∨ t.clock.ref = .holdover then 0 else t.clock.lockCount
      fallbackHoldover := if t.clock.ref = .free then false else if t.clock.ref = .holdover then true
        else t.clock.fallbackHoldover } }) ∧
  (∀ (s : State) (n : Fin 48), s.resetLow = true → exec (.hrefEdge n) s = .next s))

/-- HOUSE_BLOCK_BOUNDARY: HBC rises by 1 modulo 2^32 and a block begins at its sample 0; the SIG_IN levels and the gallery input
block are taken, and the commit request is served; the ports, the Flow Table, the slot pool and the control line stand (R42, R122,
R135, R158). While RESETn is low no boundary falls (R183). A row that names something that comes about within a boundary is the
whole boundary when that comes about at it, and changes nothing otherwise: the model's reading of the rows (logs 2 and 3). What
comes about is due so: the lock, the slip, the recentre, the window end, the silent path, the commit, the packet and the period end
(R43, R55, R58, R75, R97, R147, R163). -/
def Obligations.BoundaryAdvancesHouseTime : Prop :=
  ((∀ (s : State) (inp : BoundaryInput), s.resetLow = false → ∃ t : State, exec (.houseBlockBoundary inp) s = .next t ∧
    t.clock.hbc = s.clock.hbc + 1 ∧ t.clock.sample = 0 ∧ t.hs = (s.clock.hbc + 1) * 48 ∧ t.clock.edges = 0 ∧
    t.signals.sampled = inp.sigIn ∧ t.signals.mask = s.signals.mask ∧ t.output.commit = false ∧
    (∀ j k, j < 48 → k < 32 → (t.output.galleryIn.getD j []).getD k 0 = (((inp.tdm.getD j []).getD k 0).extractLsb' 8 24 : Sample)) ∧
    t.resetLow = false ∧ t.portA = s.portA ∧ t.portB = s.portB ∧ t.flows = s.flows ∧ t.slotsInUse = s.slotsInUse ∧
    t.control = s.control ∧ t.pending = s.pending ∧ t.notices.queueEnable = s.notices.queueEnable ∧
    t.notices.alertEnable = s.notices.alertEnable ∧ (∀ g, (t.group g).members = (s.group g).members)) ∧
  (∀ (s : State) (inp : BoundaryInput), s.resetLow = true → exec (.houseBlockBoundary inp) s = .next s)) ∧
  (∀ (s : State) (inp : BoundaryInput) (row : Instr → Prop → Prop),
    row = (fun c due => (s.resetLow = true → exec c s = .next s) ∧ (¬due → exec c s = .next s) ∧
      (due → exec c s = exec (.houseBlockBoundary inp) s)) →
    row (.houseRefLocked inp) (s.clock.ref = .locking ∧ s.clock.edges = BitVec.allOnes 48 ∧ 999 ≤ s.clock.lockCount) ∧
    (∀ g, row (.slip g inp) ((s.group g).anchored = true ∧ (s.group g).dir ≠ .steady ∧ (s.group g).countdown ≤ 1)) ∧
    (∀ g, row (.recentre g inp) ((s.group g).anchored = true ∧ (s.group g).pending ≠ none)) ∧
    (∀ g, row (.windowEnd g inp) ((s.group g).anchored = true ∧ ∃ n k, (s.group g).window = some (n, k) ∧ 999 ≤ k)) ∧
    (∀ i p, row (.pathSilent i p inp)
      (((s.stream i).state = .primed ∨ (s.stream i).state = .playing ∨ (s.stream i).state = .draining) ∧
        ((s.stream i).watch p).silent = 99 ∧ ((s.stream i).watch p).mark = false ∧ (p = .b → (s.stream i).flowB ≠ none))) ∧
    row (.commitApply inp) (s.output.commit = true) ∧
    (∀ r, row (.returnPacketBuild r inp) ((s.feed r).running = true ∧ (s.feed r).assembly.length + 1 = (s.feed r).packing)) ∧
    row (.meterPeriodEnd inp) (s.meters.blocks + 1 = 2 ^ s.meters.exponent))

/-- The boundary judges the block just ended and moves the reference state by the events of R43, with the notices and the loss count
of R44; HOUSE_REF_LOCKED is the boundary that enters LOCKED. -/
def Obligations.BoundaryJudgesTheReference : Prop :=
  ∀ (s : State) (inp : BoundaryInput), s.resetLow = false → ∃ t : State, exec (.houseBlockBoundary inp) s = .next t ∧
    ((s.clock.ref = .free ∨ s.clock.ref = .holdover ∨ (s.clock.ref = .locked ∧ s.clock.edges ≠ 0)) →
      t.clock.ref = s.clock.ref ∧ t.clock.lockCount = s.clock.lockCount ∧ t.clock.losses = s.clock.losses) ∧
    (s.clock.ref = .locking → s.clock.edges = BitVec.allOnes 48 → s.clock.lockCount < 999 →
      t.clock.ref = .locking ∧ t.clock.lockCount = s.clock.lockCount + 1 ∧ t.clock.fallbackHoldover = s.clock.fallbackHoldover ∧
      t.clock.losses = s.clock.losses) ∧
    (s.clock.ref = .locking → s.clock.edges = BitVec.allOnes 48 → 999 ≤ s.clock.lockCount →
      exec (.houseRefLocked inp) s = .next t ∧ t.clock.ref = .locked ∧ t.clock.lockCount = 0 ∧ t.clock.losses = s.clock.losses ∧
      s.Posted t t.clock.hbc { kind := .houseRefLocked, subject := 0, detail := if s.clock.fallbackHoldover then 1 else 0 }) ∧
    (s.clock.ref = .locking → s.clock.edges ≠ 0 → s.clock.edges ≠ BitVec.allOnes 48 →
      t.clock.ref = .locking ∧ t.clock.lockCount = 0 ∧ t.clock.fallbackHoldover = s.clock.fallbackHoldover ∧
      t.clock.losses = s.clock.losses) ∧
    (s.clock.ref = .locking → s.clock.edges = 0 →
      t.clock.ref = (if s.clock.fallbackHoldover then .holdover else .free) ∧ t.clock.lockCount = 0 ∧ t.clock.losses = s.clock.losses) ∧
    (s.clock.ref = .locked → s.clock.edges = 0 →
      t.clock.ref = .holdover ∧ t.clock.losses = s.clock.losses + 1 ∧
      s.Posted t t.clock.hbc { kind := .houseRefLost, subject := 0, detail := 0 })

/-! ## Media ports and contribution packets -/

/-- CARRIER_ARRIVAL, CARRIER_LOSS and WARM_UP_EXPIRY move a port and post PORT_UP and PORT_DOWN by the table of R7 and by R8, and
change nothing else of the part. A WARM_UP_EXPIRY of a port that is not in WARMING, where R7's table has no entry, changes nothing:
log 3. -/
def Obligations.CarrierAndWarmUpMoveThePort : Prop :=
  ∀ (s : State) (p : PortId),
    exec (.carrierArrival p) s = .next (if (s.port p).state = .down then
        (s.setPort p { s.port p with carrier := true, state := .up }).post { kind := .portUp, subject := portNumber p, detail := 1 }
      else s.setPort p { s.port p with carrier := true }) ∧
    exec (.carrierLoss p) s = .next (if (s.port p).state = .up then
        (s.setPort p { s.port p with carrier := false, state := .down }).post { kind := .portDown, subject := portNumber p, detail := 1 }
      else s.setPort p { s.port p with carrier := false }) ∧
    exec (.warmUpExpiry p) s = .next (if (s.port p).state = .warming then
        (if (s.port p).carrier then
          (s.setPort p { s.port p with state := .up }).post { kind := .portUp, subject := portNumber p, detail := 0 }
        else (s.setPort p { s.port p with state := .down }).post { kind := .portDown, subject := portNumber p, detail := 0 })
      else s)

/-- PORT_ENABLE starts the warm-up of a port in OFF and leaves any other as it is; PORT_DISABLE puts a port in OFF; each answers the
state (0 OFF, 1 WARMING, 2 DOWN, 3 UP), and a port above 1 is out of range (R7, R12). PORT_BUDGET sets the budgets that are not 0,
each from 1,000 to 950,000 and not below the load that stands, or nothing at all (R13). The warm-up is held as the HS of the taking,
which falls at the house sample that the command names: logs 10 and 1. -/
def Obligations.PortEnableDisableAndBudget : Prop :=
  (∀ (s : State) (n : Fin 48) (p : PortId) (b : Byte),
    (s.Next 0x10 [byteOf (portNumber p)] → ∃ t : State, t = s.atSample n ∧ exec (.portEnable n) s = .next
      (if (t.port p).state = .off then
        (t.setPort p { t.port p with state := .warming, warmUpStart := t.hs }).answer [0, 1]
      else t.answer [0, if (t.port p).state = .warming then 1 else if (t.port p).state = .down then 2 else 3])) ∧
    (s.Next 0x11 [byteOf (portNumber p)] →
      exec .portDisable s = .next ((s.setPort p { s.port p with state := .off }).answer [0, 0])) ∧
    (1 < b.toNat → (s.Next 0x10 [b] → exec (.portEnable n) s = .next (s.answer [4])) ∧
      (s.Next 0x11 [b] → exec .portDisable s = .next (s.answer [4])))) ∧
  (∀ (s : State) (p : PortId) (i t : Word) (b : Byte),
    (s.Next 0x12 ([byteOf (portNumber p)] ++ beWord i ++ beWord t) → exec .portBudget s = .next
      (if (i ≠ 0 ∧ (i.toNat < 1000 ∨ 950000 < i.toNat)) ∨ (t ≠ 0 ∧ (t.toNat < 1000 ∨ 950000 < t.toNat)) then s.answer [4]
      else if (i ≠ 0 ∧ i.toNat < (s.port p).ingestLoad) ∨ (t ≠ 0 ∧ t.toNat < (s.port p).transmitLoad) then s.answer [8]
      else
        let y : Port := { s.port p with
          ingestBudget := if i = 0 then (s.port p).ingestBudget else i.toNat
          transmitBudget := if t = 0 then (s.port p).transmitBudget else t.toNat }
        (s.setPort p y).answer ([0] ++ be32 y.ingestBudget ++ be32 y.transmitBudget))) ∧
    (s.Next 0x12 ([b] ++ beWord i ++ beWord t) → 1 < b.toNat → exec .portBudget s = .next (s.answer [4])))

/-- PORT_QUERY reports a port and clears its five counters when the clear flag is 1 (R14); the carrier record's byte and the remaining
warm-up in house time are the model's encodings (logs 10 and 11). -/
def Obligations.PortQueryReportsAndClears : Prop :=
  ∀ (s : State) (n : Fin 48) (p : PortId) (clear : Byte),
    (s.Next 0x13 [byteOf (portNumber p), clear] → clear.toNat ≤ 1 → ∃ t : State, t = s.atSample n ∧ exec (.portQuery n) s = .next
      ((if clear = 1 then t.setPort p { t.port p with received := 0, checkErrors := 0, malformed := 0, unknownFlow := 0, notStarted := 0 }
        else t).answer
        (([0, match (t.port p).state with
          | .off => 0
          | .warming => 1
          | .down => 2
          | .up => 3] : List Byte) ++ [if (t.port p).carrier then 1 else 0] ++
        be32 (if (t.port p).state = .warming then max 1 ((960 - (t.hs - (t.port p).warmUpStart).toNat + 47) / 48) else 0) ++
        be32 (t.port p).ingestBudget ++ be32 (t.port p).transmitBudget ++ be32 (t.port p).ingestLoad ++ be32 (t.port p).transmitLoad ++
        beWord (t.port p).received ++ beWord (t.port p).checkErrors ++ beWord (t.port p).malformed ++ beWord (t.port p).unknownFlow ++
        beWord (t.port p).notStarted))) ∧
    (∀ b : Byte, s.Next 0x13 [b, clear] → (1 < b.toNat ∨ 1 < clear.toNat) → exec (.portQuery n) s = .next (s.answer [4]))

/-- Every packet that the layout of R1 can carry, written out with its check (R4), is read back as itself: no bit of the header, the
cue word or the payload is lost. -/
def Obligations.WrittenPacketIsReadBack : Prop :=
  ∀ p : Packet, p.Ok → judgeDatagram p.datagram = .wellFormed p

/-- The judgement of a datagram: it is MALFORMED when it is too short to check, or when it passes the check and any of the eight
conditions of R5 holds, and it fails as CHECK when it has a header whose check differs (R4, R5). -/
def Obligations.DatagramsAreJudgedByCheckThenFormat : Prop :=
  ∀ d : List Byte,
    (judgeDatagram d = .malformed ↔ d.length < 16 ∨
      ((crc16 (d.take 14 ++ d.drop 16)).toNat = field2 d 14 ∧
        (field1 d 0 / 16 ≠ 1 ∨ field1 d 0 / 4 % 4 = 3 ∨ field1 d 0 % 4 = 3 ∨ field1 d 1 / 16 = 0 ∨ 8 < field1 d 1 / 16 ∨
          field1 d 1 % 2 = 1 ∨ field2 d 12 ≠ 2 ^ (field1 d 0 / 4 % 4) * 48 * (field1 d 1 / 16) * (field1 d 0 % 4 + 2) ∨
          1440 < 2 ^ (field1 d 0 / 4 % 4) * 48 * (field1 d 1 / 16) * (field1 d 0 % 4 + 2) ∨ d.length - 16 ≠ field2 d 12))) ∧
    (judgeDatagram d = .checkFailed ↔ 16 ≤ d.length ∧ (crc16 (d.take 14 ++ d.drop 16)).toNat ≠ field2 d 14)

/-- The samples of a packet: block j, instant n, channel c stands at its place of the payload (R2), and is converted from its bytes
to 24 bits by its format (R6). -/
def Obligations.PayloadSamplesStandInOrder : Prop :=
  (∀ (p : Packet) (j n c : Nat), p.Ok → j < p.packing → n < 48 → c < p.channels →
    (((p.blocks.getD j []).getD n []).getD c 0) =
      convertSample p.format ((p.payload.drop (((j * 48 + n) * p.channels + c) * p.format.bytes)).take p.format.bytes)) ∧
  (∀ v : BitVec 16, (convertSample .l16 (be16 v.toNat)).toInt = v.toInt * 256) ∧
  (∀ v : BitVec 24, convertSample .l24 [byteOf (v.toNat / 65536), byteOf (v.toNat / 256), byteOf v.toNat] = v) ∧
  (∀ v : BitVec 32, (convertSample .l32 (be32 v.toNat)).toInt = v.toInt.fdiv 256)

/-- The drops of the ingest order, in their order: a port that is not UP counts nothing; then MALFORMED, CHECK, UNKNOWN_FLOW,
NOT_STARTED, pair-off and format mismatch, each counted once (R4, R9, R11, R17 to R20). -/
def Obligations.PacketDropsAreCounted : Prop :=
  ∀ (s t : State) (port : PortId) (n : Fin 48) (d : List Byte) (y : Port), t = s.atSample n → y = t.port port →
    (y.state ≠ .up → exec (.packetArrival port n d) s = .next t) ∧
    (y.state = .up → judgeDatagram d = .malformed → exec (.packetArrival port n d) s =
      .next (t.setPort port { y with received := y.received + 1, malformed := y.malformed + 1 })) ∧
    (y.state = .up → judgeDatagram d = .checkFailed → exec (.packetArrival port n d) s =
      .next (t.setPort port { y with received := y.received + 1, checkErrors := y.checkErrors + 1 })) ∧
    (∀ p : Packet, y.state = .up → judgeDatagram d = .wellFormed p →
      (∀ j, t.flows.get j ≠ { bound := true, port := port, flowId := p.flowId }) → exec (.packetArrival port n d) s =
      .next (t.setPort port { y with received := y.received + 1, unknownFlow := y.unknownFlow + 1 })) ∧
    (∀ (p : Packet) (i : Fin 32) (path : PathId) (x : Stream), y.state = .up → judgeDatagram d = .wellFormed p →
      t.BoundTo port p.flowId i path → x = t.stream i →
      (x.state = .ready ∨ x.state = .ended ∨ x.state = .closed → exec (.packetArrival port n d) s =
        .next (t.setPort port { y with received := y.received + 1, notStarted := y.notStarted + 1 })) ∧
      (x.state ≠ .ready → x.state ≠ .ended → x.state ≠ .closed →
        (path = .b → x.pair = .pairFault → exec (.packetArrival port n d) s =
          .next ((t.setPort port { y with received := y.received + 1 }).setStream i
            { x with counters := { x.counters with pairOff := x.counters.pairOff + 1 } })) ∧
        (¬(path = .b ∧ x.pair = .pairFault) →
          ¬(x.channels = p.channels ∧ x.format = p.format ∧ x.packing = p.packing ∧ x.test = p.test) →
          exec (.packetArrival port n d) s = .next ((t.setPort port { y with received := y.received + 1 }).setStream i
            { x with counters := { x.counters with formatMismatch := x.counters.formatMismatch + 1 } }))))

/-- PACKET_ARRIVAL, the first packet of a member in ACQUIRING whose ring is EMPTY. In an UNANCHORED group it anchors the group at
its own HS and source time, and all its blocks are accepted; in an ANCHORED one the group stands, E_play is the sequence that holds
the read position of the next draw, the sequences below it are skipped and the blocks among them LATE. It sets the stream's origin
and its transit offset; each accepted block is stored and counted as a first copy, its cue word moves the DIRECT lines, and an
accepted end mark moves the stream to DRAINING (R52, R66, R68, R69, R70, R85, R86, R155). The `stopped` mark that an anchoring and a
transit clear is the model's own (log 22). -/
def Obligations.FirstPacketAnchorsTheGroup : Prop :=
  ∀ (s : State) (port : PortId) (n : Fin 48) (d : List Byte) (p : Packet) (i : Fin 32) (path : PathId) (x : Stream) (g : Group)
    (seq0 : Word) (accepted : State → Nat → Prop),
    s.Delivers port n d p i path → x = s.stream i → g = s.group x.group → seq0 = p.seq.zeroExtend 32 → x.state = .acquiring →
    i ∈ g.members → x.depth ∈ [16, 32, 64, 128, 256] → x.ring = List.replicate x.depth .empty → x.endSeq = none →
    accepted = (fun t late =>
      (∀ j, late ≤ j → j < p.packing → (t.stream i).slotAt (seq0 + BitVec.ofNat 32 j) = .filled
        { seq := seq0 + BitVec.ofNat 32 j, sourceTime := p.sourceTime + BitVec.ofNat 32 (48 * j), arrival := s.clock.hbc
          cue := if p.cuePresent then some p.cue else none, samples := p.blocks.getD j [], served := false }) ∧
      (∀ k, k < x.depth → (∀ j, late ≤ j → j < p.packing → k ≠ (seq0.toNat + j) % x.depth) → (t.stream i).ring.getD k .empty = .empty) ∧
      (t.stream i).ring.length = x.depth ∧ (t.stream i).origin = some (seq0, p.sourceTime) ∧
      (t.stream i).state = (if p.endFlag ∧ late < p.packing then .draining else .primed) ∧
      (t.stream i).endSeq = (if p.endFlag ∧ late < p.packing then some (seq0 + BitVec.ofNat 32 (p.packing - 1)) else none) ∧
      (t.stream i).breaks = 0 ∧ (t.stream i).earlyRun = 0 ∧ (∀ q, (t.stream i).watch q = { mark := false, silent := 0 }) ∧
      (∀ k, t.line k = if (s.line k).mode = .direct ∧ (s.line k).stream = i ∧ p.cuePresent = true ∧ late < p.packing then
        { s.line k with current := p.cue.getLsbD (s.line k).bit.val ^^ (s.line k).invert } else s.line k) ∧
      (t.port port).received = (s.port port).received + 1) →
    (g.anchored = false → g.InRange → ∃ t : State, exec (.packetArrival port n d) s = .next t ∧ accepted t 0 ∧
      t.group x.group = { g with
        anchored := true
        oRef := some ((s.atSample n).hs - p.sourceTime)
        q := some ((s.atSample n).hs - p.sourceTime + BitVec.ofNat 32 g.hold)
        qAnchor := some ((s.atSample n).hs - p.sourceTime + BitVec.ofNat 32 g.hold)
        window := none, lfsr := 0b100001, dir := .steady, countdown := 0, interval := none
        repeats := 0, drops := 0, recentres := 0, steps := 0, adjSum := 0, report := none, leadLast := none } ∧
      (∀ h, h ≠ x.group → t.group h = s.group h) ∧
      (∀ j, j ≠ i → t.stream j = if j ∈ g.members then { s.stream j with
          clock := { current := none, transits := 0, last := none, stopped := false } }
        else s.stream j) ∧
      (t.stream i).ePlay = some seq0 ∧ (t.stream i).clock = { current := some 0, transits := 1, last := none, stopped := false } ∧
      (t.stream i).counters = if path = .a then { x.counters with firstA := x.counters.firstA + BitVec.ofNat 32 p.packing }
        else { x.counters with firstB := x.counters.firstB + BitVec.ofNat 32 p.packing }) ∧
    (∀ (q o e off : Word) (pos : Int) (late : Nat), g.anchored = true → g.q = some q → g.oRef = some o →
      pos = ((s.clock.hbc + 1) * 48 - q - p.sourceTime).toInt →
      e = (if pos < 0 then seq0 else seq0 + BitVec.ofNat 32 (pos.toNat / 48)) → late = min p.packing (e - seq0).toNat →
      off = (s.atSample n).hs - p.sourceTime - o →
      ∃ t : State, exec (.packetArrival port n d) s = .next t ∧ accepted t late ∧ t.groups = s.groups ∧
        (∀ j, j ≠ i → t.stream j = s.stream j) ∧ (t.stream i).ePlay = some e ∧
        (t.stream i).clock = { x.clock with
          current := some (match x.clock.current with
            | none => off
            | some m => if off.toInt < m.toInt then off else m)
          transits := x.clock.transits + 1
          stopped := false } ∧
        (t.stream i).counters =
          (if path = .a then { x.counters with
            skipped := x.counters.skipped + (e - seq0), late := x.counters.late + BitVec.ofNat 32 late
            firstA := x.counters.firstA + BitVec.ofNat 32 (p.packing - late) }
          else { x.counters with
            skipped := x.counters.skipped + (e - seq0), late := x.counters.late + BitVec.ofNat 32 late
            firstB := x.counters.firstB + BitVec.ofNat 32 (p.packing - late) }))

/-- A packet on a started stream whose timeline it keeps: its blocks are offered in block order, each as R21 and R63 give it, and
what they leave is the stream's new record, with its notices, its DIRECT lines, one transit when a block was accepted, and the early
resync that the eighth EARLY block brings, which unanchors a group that it leaves without a timeline (R53, R64, R65, R69, R73, R85).
Each block is judged against the end sequence, E_play and its slot, and each class has its effect; an accepted block goes through
the checker, is stored, hands on its end mark, its delivery, which may restore its path, and its cue word (R68, R69, R71, R72, R76,
R86, R155, R173). A gap leaves the consecutive mismatches as they stand, which is log 15; the `stopped` mark that a transit clears is the model's own
(log 22). -/
def Obligations.BlockOfALaterPacketIsClassified : Prop :=
  (∀ (s t0 u : State) (port : PortId) (n : Fin 48) (d : List Byte) (p : Packet) (i : Fin 32) (path : PathId) (x y : Stream) (g : Group)
    (seq0 st0 e ext off r : Word) (a : Ingest),
    t0 = (s.atSample n).setPort port
      { (s.atSample n).port port with received := ((s.atSample n).port port).received + 1 } →
    s.Delivers port n d p i path → (s.stream i).state.drawn = true → (s.stream i).origin = some (seq0, st0) →
    (s.stream i).ePlay = some e → ext = e + (p.seq - e.truncate 16).signExtend 32 → p.sourceTime = st0 + 48 * (ext - seq0) →
    g = s.group (s.stream i).group → g.oRef = some r → off = (s.atSample n).hs - p.sourceTime - r →
    x = { s.stream i with breaks := if path = .a then 0 else (s.stream i).breaks } →
    a = x.ingest i path ((List.range p.packing).map fun j =>
      { seq := ext + BitVec.ofNat 32 j, sourceTime := p.sourceTime + BitVec.ofNat 32 (48 * j), arrival := s.clock.hbc
        cue := if p.cuePresent then some p.cue else none, endMark := p.endFlag && decide (j + 1 = p.packing)
        samples := p.blocks.getD j [] }) →
    y = (if a.accepted then { a.x with clock :=
        { a.x.clock with
          current := some (match a.x.clock.current with
            | none => off
            | some m => if off.toInt < m.toInt then off else m)
          transits := a.x.clock.transits + 1
          stopped := false } } else a.x) →
    u = { t0.setStream i y with
      notices := s.notices.postAll s.clock.hbc a.posts
      signals := { s.signals with lines := vmap s.signals.lines fun _ l =>
        if a.cues ≠ [] ∧ l.mode = .direct ∧ l.stream = i then { l with current := p.cue.getLsbD l.bit.val ^^ l.invert } else l } } →
    (a.resync = none → exec (.packetArrival port n d) s = .next u) ∧
    (∀ detail, a.resync = some detail → ∃ t : State, exec (.packetArrival port n d) s = .next t ∧
      t.notices = u.notices.post s.clock.hbc { kind := .earlyResync, subject := i.val, detail := detail } ∧
      (∀ left : Bool, (left = true ↔ g.anchored = true ∧ ∀ j ∈ g.members, j ≠ i → (s.stream j).state.holdsTimeline = false) →
        t.stream i = { y with
          state := .acquiring, ring := List.replicate y.depth .empty, origin := none, ePlay := none, endSeq := none, resume := none
          breaks := 0, earlyRun := 0, watchA := { mark := false, silent := 0 }, watchB := { mark := false, silent := 0 }
          servedTo := none, headroomArmed := true
          conceal := { lastReal := none, fadeOut := none, fadeInDue := false, fadeIn := none, missingRun := 0 }
          clock := { y.clock with current := none, transits := 0 }
          checker := { y.checker with sync := false, mismatches := 0, lastSeq := none }
          windowMismatches := if left ∧ i ∈ g.members then 0 else y.windowMismatches } ∧
        (∀ j, j ≠ i → t.stream j = if left ∧ j ∈ g.members then { s.stream j with
          clock := { (s.stream j).clock with current := none, transits := 0 }, windowMismatches := 0 } else s.stream j) ∧
        t.group y.group = (if left then { g with
          anchored := false, oRef := none, q := none, qAnchor := none, window := none, dir := .steady, countdown := 0
          interval := none, pending := none } else g) ∧
        (∀ h, h ≠ y.group → t.group h = s.group h) ∧
        t = { u with streams := t.streams, groups := t.groups, notices := t.notices }))) ∧
  ((∀ (x : Stream) (i : Fin 32) (path : PathId),
    x.ingest i path [] = { x := x, posts := [], cues := [], accepted := false, resync := none } ∧
    ∀ (os : List Offer) (o : Offer), x.ingest i path (os ++ [o]) = Ingest.offer i path (x.ingest i path os) o) ∧
  (∀ (a b : Ingest) (i : Fin 32) (path : PathId) (o : Offer) (x : Stream) (e : Word), b = Ingest.offer i path a o → x = a.x →
    x.ePlay = some e → x.ring.length = x.depth → 0 < x.depth →
    ((∃ q, x.endSeq = some q ∧ 0 < sdiff o.seq q) →
      b = { a with x := { x with counters := { x.counters with afterEnd := x.counters.afterEnd + 1 }, earlyRun := 0 } }) ∧
    (¬(∃ q, x.endSeq = some q ∧ 0 < sdiff o.seq q) →
      ((sdiff o.seq e < 0 ∨ x.slotAt o.seq = .concealed o.seq) →
        b = { a with x := { x with counters := { x.counters with late := x.counters.late + 1 }, earlyRun := 0 } }) ∧
      (x.depth ≤ sdiff o.seq e → x.slotAt o.seq ≠ .concealed o.seq →
        (x.earlyRun < 7 →
          b = { a with x := { x with counters := { x.counters with early := x.counters.early + 1 }, earlyRun := x.earlyRun + 1 } }) ∧
        (7 ≤ x.earlyRun →
          b = { a with
            x := { x with counters := { x.counters with early := x.counters.early + 1 } }
            resync := some (a.resync.getD (sdiff o.seq e)) })) ∧
      (∀ restored : List Post, restored = (if (x.watch path).mark then
          [{ kind := .pathRestored, subject := 2 * i.val + pathNumber path, detail := (x.watch path).silent.toInt }] else []) →
        0 ≤ sdiff o.seq e → sdiff o.seq e < x.depth → x.slotAt o.seq ≠ .concealed o.seq →
        ((∃ k, x.slotAt o.seq = .filled k ∧ k.seq = o.seq) →
          b = { a with
            x := { x with
              counters := { x.counters with duplicates := x.counters.duplicates + 1 }, earlyRun := 0
              watchA := if path = .a then { mark := false, silent := 0 } else x.watchA
              watchB := if path = .b then { mark := false, silent := 0 } else x.watchB }
            posts := a.posts ++ restored }) ∧
        (¬(∃ k, x.slotAt o.seq = .filled k ∧ k.seq = o.seq) → ∀ (c : Checker) (ends : Bool),
          ends = (o.endMark && x.endSeq.isNone) →
          c = (match x.checker.lastSeq with
            | none => { x.checker with lastSeq := some o.seq }
            | some l => if o.seq = l + 1 then { x.checker with lastSeq := some o.seq }
              else { x.checker with lastSeq := some o.seq, gaps := x.checker.gaps + 1, sync := false }) →
          b = { a with
            x := { x with
              counters := if path = .a then { x.counters with firstA := x.counters.firstA + 1 }
                else { x.counters with firstB := x.counters.firstB + 1 }
              earlyRun := 0
              checker := if x.test then (c.samples o.samples.flatten).1 else x.checker
              ring := x.ring.set (o.seq.toNat % x.depth) (.filled
                { seq := o.seq, sourceTime := o.sourceTime, arrival := o.arrival, cue := o.cue, samples := o.samples, served := false })
              endSeq := if ends then some o.seq else x.endSeq
              state := if ends ∧ (x.state = .primed ∨ x.state = .playing) then .draining else x.state
              watchA := if path = .a then { mark := false, silent := 0 } else x.watchA
              watchB := if path = .b then { mark := false, silent := 0 } else x.watchB }
            posts := a.posts ++ (if x.test then (c.samples o.samples.flatten).2.map fun k : Word =>
              { kind := .testSyncLost, subject := i.val, detail := k.toInt } else []) ++ restored
            cues := a.cues ++ (if x.state = .primed ∨ x.state = .playing ∨ x.state = .draining then o.cue.toList else [])
            accepted := true })))))

/-- A packet that leaves its stream's timeline is a timeline reject and is dropped whole. On path A it adds a break, and at the fourth
the group relocks, with GROUP_RELOCK: its members in ACQUIRING to DRAINING go to ACQUIRING with all that R56 gives, and those in READY
and ENDED keep everything but the window minimum and the window pair mismatch count, which the unanchoring takes from every member
(R53); no other counter moves. On path B it is a pair mismatch of a PAIRED stream whose break count is 0, and the fourth of a
window moves the stream to PAIR_FAULT, with PAIR_FAULT (R37, R38, R56, R65). -/
def Obligations.TimelineRejectsBreakAPathOrThePair : Prop :=
  ∀ (s t0 : State) (port : PortId) (n : Fin 48) (d : List Byte) (p : Packet) (i : Fin 32) (path : PathId) (x : Stream)
    (seq0 st0 e : Word),
    t0 = (s.atSample n).setPort port
      { (s.atSample n).port port with received := ((s.atSample n).port port).received + 1 } →
    ((s.atSample n).port port).state = .up → judgeDatagram d = .wellFormed p → s.BoundTo port p.flowId i path → x = s.stream i →
    x.state.drawn = true → ¬(path = .b ∧ x.pair = .pairFault) → x.channels = p.channels → x.format = p.format →
    x.packing = p.packing → x.test = p.test → x.origin = some (seq0, st0) → x.ePlay = some e →
    p.sourceTime ≠ st0 + 48 * (e + (p.seq - e.truncate 16).signExtend 32 - seq0) →
    (path = .a → x.breaks < 3 → exec (.packetArrival port n d) s = .next (t0.setStream i { x with
      counters := { x.counters with timelineRejects := x.counters.timelineRejects + 1 }, breaks := x.breaks + 1 })) ∧
    (path = .a → x.breaks = 3 → i ∈ (s.group x.group).members → ∃ t : State, exec (.packetArrival port n d) s = .next t ∧
      (∀ (j : Fin 32) (y : Stream), j ∈ (s.group x.group).members →
        y = { s.stream j with
          counters := if j = i then { x.counters with timelineRejects := x.counters.timelineRejects + 1 } else (s.stream j).counters
          clock := { (s.stream j).clock with current := none, transits := 0 }, windowMismatches := 0 } →
        t.stream j = if y.state ∈ [StreamState.acquiring, .primed, .playing, .outage, .draining] then { y with
            state := .acquiring, ring := List.replicate y.depth .empty, origin := none, ePlay := none, endSeq := none, resume := none
            breaks := 0, earlyRun := 0, watchA := { mark := false, silent := 0 }, watchB := { mark := false, silent := 0 }
            servedTo := none, headroomArmed := true
            conceal := { lastReal := none, fadeOut := none, fadeInDue := false, fadeIn := none, missingRun := 0 }
            checker := { y.checker with sync := false, mismatches := 0, lastSeq := none } }
          else y) ∧
      (∀ j, j ∉ (s.group x.group).members → t.stream j = s.stream j) ∧
      t.group x.group = { s.group x.group with
        anchored := false, oRef := none, q := none, qAnchor := none, window := none, dir := .steady, countdown := 0
        interval := none, pending := none } ∧
      (∀ h, h ≠ x.group → t.group h = s.group h) ∧
      t.notices = s.notices.post s.clock.hbc { kind := .groupRelock, subject := x.group.val, detail := (i.val : Int) } ∧
      t = { t0 with streams := t.streams, groups := t.groups, notices := t.notices }) ∧
    (path = .b → (x.pair ≠ .paired ∨ x.breaks ≠ 0) → exec (.packetArrival port n d) s = .next (t0.setStream i { x with
      counters := { x.counters with timelineRejects := x.counters.timelineRejects + 1 } })) ∧
    (path = .b → x.pair = .paired → x.breaks = 0 → exec (.packetArrival port n d) s = .next
      (if x.windowMismatches < 3 then t0.setStream i { x with
          counters := { x.counters with
            timelineRejects := x.counters.timelineRejects + 1, pairMismatches := x.counters.pairMismatches + 1 }
          windowMismatches := x.windowMismatches + 1 }
        else (t0.setStream i { x with
          counters := { x.counters with
            timelineRejects := x.counters.timelineRejects + 1, pairMismatches := x.counters.pairMismatches + 1 }
          windowMismatches := x.windowMismatches + 1, pair := .pairFault }).post
          { kind := .pairFault, subject := i.val, detail := (x.group.val : Int) }))

/-! ## Streams and admission -/

/-- STREAM_OPEN makes its checks 0 to 8 in their order and reports the first that fails; when all pass it binds the flows, joins the
group, and charges the slots and the loads, and nothing else moves (R16, R25, R26, R27, R28, R29, R30). -/
def Obligations.StreamOpenRunsItsChecksInOrder : Prop :=
  (∀ (s : State) (i : Fin 32) (o : OpenFields) (unused : Byte × Half) (payload load : Nat) (add : PortId → Nat) (taken : Flow → Prop),
    s.Next 0x20 (openBody i o unused) → 1 ≤ o.channels → o.channels ≤ 8 → o.packing ∈ [1, 2, 4] → o.depth ∈ [16, 32, 64, 128, 256] →
    payload = o.packing * 48 * o.channels * o.format.bytes → load = ((82 + payload) * 8 + (o.packing - 1)) / o.packing →
    add = (fun p => (if o.flowA.port = p then load else 0) + o.flowB.elim 0 fun f => if f.port = p then load else 0) →
    taken = (fun f => ∃ j, s.flows.get j = { bound := true, port := f.port, flowId := f.flowId }) →
    ((s.stream i).state ≠ .closed → exec .streamOpen s = .next (s.answer [5])) ∧
    ((s.stream i).state = .closed →
      (1440 < payload → exec .streamOpen s = .next (s.answer [10])) ∧ (payload ≤ 1440 →
      (8 ≤ (s.group o.group).members.length → exec .streamOpen s = .next (s.answer [12])) ∧ ((s.group o.group).members.length < 8 →
      ((o.depth - 2) * 48 < (s.group o.group).hold → exec .streamOpen s = .next (s.answer [11])) ∧
        ((s.group o.group).hold ≤ (o.depth - 2) * 48 →
      ((taken o.flowA ∨ ∃ f, o.flowB = some f ∧ (taken f ∨ f = o.flowA)) → exec .streamOpen s = .next (s.answer [9])) ∧
        (¬(taken o.flowA ∨ ∃ f, o.flowB = some f ∧ (taken f ∨ f = o.flowA)) →
      (4096 < s.slotsInUse + o.depth → exec .streamOpen s = .next (s.answer [7])) ∧ (s.slotsInUse + o.depth ≤ 4096 →
      ((∃ p, add p ≠ 0 ∧ (s.port p).ingestBudget < (s.port p).ingestLoad + add p) → exec .streamOpen s = .next (s.answer [8])) ∧
        ((∀ p, add p ≠ 0 → (s.port p).ingestLoad + add p ≤ (s.port p).ingestBudget) → ∃ t : State,
          exec .streamOpen s = .next (t.answer ([0] ++ be32 load ++ be32 t.portA.ingestLoad ++ be32 t.portB.ingestLoad ++
            be32 t.slotsInUse)) ∧
          t.stream i = { Stream.closed with
            group := o.group, flowA := some o.flowA, flowB := o.flowB, channels := o.channels, format := o.format
            packing := o.packing, depth := o.depth, test := o.test, load := load, state := .ready
            pair := if o.flowB.isSome then .paired else .single, ring := List.replicate o.depth .empty } ∧
          (∀ j, j ≠ i → t.stream j = s.stream j) ∧
          t.group o.group = { s.group o.group with members := (s.group o.group).members ++ [i] } ∧
          (∀ g, g ≠ o.group → t.group g = s.group g) ∧
          t.flows.get (entryA i) = { bound := true, port := o.flowA.port, flowId := o.flowA.flowId } ∧
          t.flows.get (entryB i) = (match o.flowB with
            | some f => { bound := true, port := f.port, flowId := f.flowId }
            | none => s.flows.get (entryB i)) ∧
          (∀ j, j ≠ entryA i → j ≠ entryB i → t.flows.get j = s.flows.get j) ∧
          t.slotsInUse = s.slotsInUse + o.depth ∧
          (∀ p, t.port p = { s.port p with ingestLoad := (s.port p).ingestLoad + add p }) ∧
          t = { s with
            streams := t.streams, groups := t.groups, flows := t.flows, slotsInUse := t.slotsInUse, portA := t.portA
            portB := t.portB })))))))) ∧
  (∀ (s : State) (b : List Byte), s.Next 0x20 b → b.length = 16 →
    (32 ≤ field1 b 0 → exec .streamOpen s = .next (s.answer [6])) ∧
    (∀ i : Fin 32, field1 b 0 = i.val →
      ((s.stream i).state ≠ .closed → exec .streamOpen s = .next (s.answer [5])) ∧
      ((s.stream i).state = .closed → (15 < field1 b 1 ∨ field1 b 2 = 0 ∨ 8 < field1 b 2 ∨ 2 < field1 b 3 ∨
          field1 b 4 ∉ [1, 2, 4] ∨ field2 b 5 ∉ [16, 32, 64, 128, 256] ∨ 1 < field1 b 7 ∨ field1 b 8 ≠ 1 ∨ 1 < field1 b 9 ∨
          1 < field1 b 12 ∨ (field1 b 12 = 1 ∧ 1 < field1 b 13)) →
        exec .streamOpen s = .next (s.answer [4]))))

/-- STREAM_START moves READY to ACQUIRING and touches no other field; STREAM_REPAIR moves PAIR_FAULT to PAIRED and clears the window
count of a PAIRED stream; either is refused in every other state, and a stream above 31 is NOT_FOUND (R24, R32, R39). -/
def Obligations.StreamStartAndRepair : Prop :=
  ∀ (s : State) (i : Fin 32) (b : Byte),
    (s.Next 0x21 [byteOf i.val] → exec .streamStart s = .next (if (s.stream i).state = .ready then
      (s.setStream i { s.stream i with state := .acquiring }).answer [0, 2] else s.answer [5])) ∧
    (s.Next 0x24 [byteOf i.val] → exec .streamRepair s = .next
      (if (s.stream i).state = .closed ∨ (s.stream i).pair = .single then s.answer [5]
      else (s.setStream i { s.stream i with pair := .paired, windowMismatches := 0 }).answer [0, 1])) ∧
    (32 ≤ b.toNat → (s.Next 0x21 [b] → exec .streamStart s = .next (s.answer [6])) ∧
      (s.Next 0x24 [b] → exec .streamRepair s = .next (s.answer [6])))

/-- STREAM_STOP returns a started stream to READY with the effects of R33, answers READY to a stream in READY, and unanchors the group
when no other member holds its timeline (R24, R33, R53, R86, R173). The mark of the stop in the clock state is the model's own field
(log 22). -/
def Obligations.StreamStopEmptiesTheRing : Prop :=
  ∀ (s : State) (i : Fin 32) (x : Stream) (g : Group), s.Next 0x22 [byteOf i.val] → x = s.stream i → g = s.group x.group →
    (x.state = .closed → exec .streamStop s = .next (s.answer [5])) ∧
    (x.state = .ready → exec .streamStop s = .next (s.answer [0, 1])) ∧
    (x.state ≠ .closed → x.state ≠ .ready → ∃ t : State, exec .streamStop s = .next (t.answer [0, 1]) ∧
      t.stream i = { x with
        state := .ready, ring := List.replicate x.depth .empty, origin := none, ePlay := none, endSeq := none, resume := none
        breaks := 0, windowMismatches := 0, earlyRun := 0, watchA := { mark := false, silent := 0 }
        watchB := { mark := false, silent := 0 }, servedTo := none, headroomArmed := true
        conceal := { lastReal := none, fadeOut := none, fadeInDue := false, fadeIn := none, missingRun := 0 }
        clock := { x.clock with current := none, transits := 0, stopped := true }
        checker := { x.checker with sync := false, mismatches := 0, lastSeq := none } } ∧
      ((g.anchored = false ∨ ∃ j ∈ g.members, j ≠ i ∧ (s.stream j).state.holdsTimeline = true) →
        t.group x.group = g ∧ ∀ j, j ≠ i → t.stream j = s.stream j) ∧
      (g.anchored = true → (∀ j ∈ g.members, j ≠ i → (s.stream j).state.holdsTimeline = false) →
        t.group x.group = { g with
          anchored := false, oRef := none, q := none, qAnchor := none, window := none, dir := .steady, countdown := 0
          interval := none, pending := none } ∧
        ∀ j, j ≠ i → t.stream j = if j ∈ g.members then { s.stream j with
          clock := { (s.stream j).clock with current := none, transits := 0 }, windowMismatches := 0 } else s.stream j) ∧
      (∀ h, h ≠ x.group → t.group h = s.group h) ∧ t = { s with streams := t.streams, groups := t.groups })

/-- STREAM_CLOSE puts the record into the CLOSED condition, unbinds its flows, gives back its slots and loads, takes it from its
group's list, and unanchors the group when no member left holds its timeline; a list left empty sets drift D and C to 0 (R23, R24,
R31, R34, R47, R53, R88). -/
def Obligations.StreamCloseReleasesWhatItHeld : Prop :=
  ∀ (s : State) (i : Fin 32) (x : Stream) (g : Group) (rest : List (Fin 32)), s.Next 0x23 [byteOf i.val] → x = s.stream i →
    g = s.group x.group → rest = g.members.filter (fun j => j ≠ i) →
    (x.state = .closed → exec .streamClose s = .next (s.answer [5])) ∧
    (x.state ≠ .closed → ∃ t : State,
      exec .streamClose s = .next (t.answer ([0] ++ be32 t.slotsInUse ++ be32 t.portA.ingestLoad ++ be32 t.portB.ingestLoad)) ∧
      t.stream i = .closed ∧
      t.flows.get (entryA i) = { s.flows.get (entryA i) with bound := false } ∧
      t.flows.get (entryB i) = { s.flows.get (entryB i) with bound := false } ∧
      (∀ j, j ≠ entryA i → j ≠ entryB i → t.flows.get j = s.flows.get j) ∧
      t.slotsInUse = s.slotsInUse - x.depth ∧
      (∀ p, t.port p = { s.port p with ingestLoad := (s.port p).ingestLoad -
        ((x.flowA.elim 0 fun f => if f.port = p then x.load else 0) + x.flowB.elim 0 fun f => if f.port = p then x.load else 0) }) ∧
      ((g.anchored = false ∨ ∃ j ∈ rest, (s.stream j).state.holdsTimeline = true) →
        t.group x.group = { g with
          members := rest, leadLast := if g.leadLast = some i then none else g.leadLast
          drift := if rest = [] then 0 else g.drift, corr := if rest = [] then 0 else g.corr } ∧
        ∀ j, j ≠ i → t.stream j = s.stream j) ∧
      (g.anchored = true → (∀ j ∈ rest, (s.stream j).state.holdsTimeline = false) →
        t.group x.group = { g with
          members := rest, leadLast := if g.leadLast = some i then none else g.leadLast
          drift := if rest = [] then 0 else g.drift, corr := if rest = [] then 0 else g.corr
          anchored := false, oRef := none, q := none, qAnchor := none, window := none, dir := .steady, countdown := 0
          interval := none, pending := none } ∧
        ∀ j, j ≠ i → t.stream j = if j ∈ rest then { s.stream j with
          clock := { (s.stream j).clock with current := none, transits := 0 }, windowMismatches := 0 } else s.stream j) ∧
      (∀ h, h ≠ x.group → t.group h = s.group h) ∧
      t = { s with
        streams := t.streams, groups := t.groups, flows := t.flows, slotsInUse := t.slotsInUse, portA := t.portA
        portB := t.portB })

/-- STREAM_QUERY and STREAM_CLOCK report a stream's record in the order of R41 and R106, and GROUP_QUERY and GROUP_CLOCK a group's in
the order of R51 and R105, and change nothing; the widths of R178 are as the model reads them (log 11). A number above 31 or 15 is
NOT_FOUND for every stream or group request named (R24, R51, R59, R105). A value of a list that no request sets is coded by its place
in the list, and a present flag is followed by its value, 0 when absent (R178). -/
def Obligations.StreamAndGroupQueriesReportTheRecords : Prop :=
  (([StreamState.closed, .ready, .acquiring, .primed, .playing, .outage, .draining, .ended].map StreamState.code =
      [0, 1, 2, 3, 4, 5, 6, 7] ∧ [PairState.single, .paired, .pairFault].map PairState.code = [0, 1, 2] ∧
    [SampleFormat.l16, .l24, .l32].map SampleFormat.code = [0, 1, 2] ∧
    [SlipDir.steady, .repeating, .dropping].map SlipDir.code = [0, 1, 2]) ∧
  (optWord none = List.replicate 5 0 ∧ optNat none = List.replicate 5 0 ∧ optInt none = List.replicate 5 0 ∧ optStream none = [0, 0]) ∧
  ∀ (w : Word) (n : Nat) (v : Int) (i : Fin 32), optWord (some w) = 1 :: beWord w ∧ optNat (some n) = 1 :: be32 n ∧
    optInt (some v) = 1 :: beInt v ∧ optStream (some i) = [1, byteOf i.val]) ∧
  (∀ (s : State) (i : Fin 32) (b : Byte) (x : Stream) (g : Group), x = s.stream i → g = s.group x.group →
    (s.Next 0x25 [byteOf i.val] → exec .streamQuery s = .next (s.answer ([0] ++ [x.state.code, x.pair.code] ++
      [byteOf x.group.val, byteOf (if x.state = .closed then 255 else g.members.idxOf i)] ++
      [byteOf x.channels, byteOf x.format.code, byteOf x.packing, if x.test then 1 else 0] ++ be16 x.depth ++ be32 x.load ++
      (match x.flowA with
        | some f => [1, byteOf (portNumber f.port)] ++ be16 f.flowId.toNat
        | none => [0, 0, 0, 0]) ++
      (match x.flowB with
        | some f => [1, byteOf (portNumber f.port)] ++ be16 f.flowId.toNat
        | none => [0, 0, 0, 0]) ++
      (match x.origin with
        | some o => [1] ++ beWord o.1 ++ beWord o.2
        | none => List.replicate 9 0) ++
      optWord x.ePlay ++ optWord x.endSeq ++
      (match x.resume with
        | some r => [1] ++ beWord (r.lastReal.elim 0 (·.1)) ++ beWord (r.lastReal.elim 0 (·.2)) ++ beWord r.nextExpected ++ beWord r.hbc
        | none => List.replicate 17 0) ++
      [if x.watchA.mark then 1 else 0, if x.watchB.mark then 1 else 0] ++ be32 x.breaks ++ be32 x.windowMismatches ++
      [x.counters.firstA, x.counters.firstB, x.counters.duplicates, x.counters.late, x.counters.early, x.counters.afterEnd,
        x.counters.formatMismatch, x.counters.timelineRejects, x.counters.pairMismatches, x.counters.pairOff, x.counters.missing,
        x.counters.skipped, x.counters.outages].flatMap beWord ++ be32 s.slotsInUse))) ∧
    (s.Next 0x26 [byteOf i.val] → exec .streamClock s = .next (s.answer (([0] : List Byte) ++ [x.state.code, byteOf x.group.val] ++
      [if g.anchored then 1 else 0] ++ beWord (g.window.elim 0 (·.1)) ++ optWord x.clock.last ++ optWord x.clock.current ++ beWord x.clock.transits))) ∧
    (32 ≤ b.toNat → (s.Next 0x25 [b] → exec .streamQuery s = .next (s.answer [6])) ∧
      (s.Next 0x26 [b] → exec .streamClock s = .next (s.answer [6])) ∧ (s.Next 0x22 [b] → exec .streamStop s = .next (s.answer [6])) ∧
      (s.Next 0x23 [b] → exec .streamClose s = .next (s.answer [6])))) ∧
  (∀ (s : State) (i : Fin 16) (b : Byte) (g : Group) (window totals : List Byte), g = s.group i →
    window = (match g.window with
      | some w => [1] ++ beWord w.1 ++ be32 w.2
      | none => List.replicate 9 0) →
    totals = beWord g.repeats ++ beWord g.drops ++ beWord g.recentres ++ beWord g.steps ++ beWord g.adjSum →
    (s.Next 0x31 [byteOf i.val] → exec .groupQuery s = .next (s.answer ([0] ++ [if g.anchored then 1 else 0] ++
      be32 g.members.length ++ g.members.map (fun j => byteOf j.val) ++ be16 g.hold ++ be16 g.outageLimit ++ [byteOf g.warning] ++
      optWord g.oRef ++ optWord g.q ++ optWord g.qAnchor ++ beInt g.drift ++ beInt g.corr ++ [g.dir.code] ++ optNat g.interval ++
      be32 g.countdown ++ window ++ totals ++ optInt g.pending))) ∧
    (s.Next 0x32 [byteOf i.val] → exec .groupClock s = .next (s.answer ([0] ++ [if g.anchored then 1 else 0] ++ window ++
      beInt g.drift ++ beInt g.corr ++ [g.dir.code] ++ optNat g.interval ++ be32 g.countdown ++ [byteOf g.lfsr.toNat] ++ totals ++
      optInt g.pending ++ (match g.report with
        | none => ([0] : List Byte) ++ be32 0 ++ [0, 0] ++ be32 0 ++ List.replicate 5 0 ++ [0] ++ be32 0 ++ List.replicate 5 0 ++ be32 0 ++ be32 0 ++
            [0] ++ List.replicate 5 0
        | some r => ([1] : List Byte) ++ beWord r.number ++ optStream r.lead ++ be32 r.members.length ++
            r.members.flatMap (fun m => [byteOf m.1.val] ++ optWord m.2) ++ optInt r.delta ++ [if r.step then 1 else 0] ++
            beInt r.drift ++ optInt r.e ++ beInt r.adj ++ beInt r.corr ++ [r.dir.code] ++ optNat r.interval)))) ∧
    (16 ≤ b.toNat → (s.Next 0x31 [b] → exec .groupQuery s = .next (s.answer [6])) ∧
      (s.Next 0x32 [b] → exec .groupClock s = .next (s.answer [6])) ∧ (s.Next 0x33 [b] → exec .groupRecentre s = .next (s.answer [6]))))

/-! ## Venue groups -/

/-- GROUP_SET stores H, the outage limit and W together, or none of them, and changes nothing else (R48, R49, R50). GROUP_RECENTRE
forms e from the largest minimum of the window in progress, or else takes the e of the last report, and sets the pending recentre of
adj, 48 times e / 48 rounded half away from zero; it is refused without a timeline, with a recentre pending, or without an e (R58,
R59, R91). The error e has no range before the reply cuts it to 32 bits: log 24. -/
def Obligations.GroupSetAndRecentre : Prop :=
  (∀ (s : State) (g : Fin 16) (h l : Half) (w b : Byte),
    (s.Next 0x30 ([byteOf g.val] ++ be16 h.toNat ++ be16 l.toNat ++ [w]) → exec .groupSet s = .next
      (if h.toNat < 48 ∨ 12192 < h.toNat ∨ l.toNat < 4 ∨ 1000 < l.toNat ∨ 64 < w.toNat then s.answer [4]
      else if ∃ i ∈ (s.group g).members, ((s.stream i).depth - 2) * 48 < h.toNat then s.answer [11]
      else (s.setGroup g { s.group g with hold := h.toNat, outageLimit := l.toNat, warning := w.toNat }).answer
        ([0] ++ be16 h.toNat ++ be16 l.toNat ++ [w]))) ∧
    (s.Next 0x30 ([b] ++ be16 h.toNat ++ be16 l.toNat ++ [w]) → 16 ≤ b.toNat → exec .groupSet s = .next (s.answer [6]))) ∧
  (∀ (s : State) (i : Fin 16) (g : Group) (done : Int → Prop), s.Next 0x33 [byteOf i.val] → g = s.group i →
    done = (fun e => ∃ adj : Int, adj % 48 = 0 ∧ 2 * (e - adj).natAbs ≤ 48 ∧ (2 * (e - adj).natAbs = 48 → e.natAbs < adj.natAbs) ∧
      exec .groupRecentre s = .next ((s.setGroup i { g with pending := some adj }).answer ([0] ++ beInt e ++ beInt adj))) →
    ((g.anchored = false ∨ g.pending ≠ none) → exec .groupRecentre s = .next (s.answer [5])) ∧
    (∀ q o : Word, g.anchored = true → g.pending = none → g.q = some q → g.oRef = some o →
      (∀ (j : Fin 32) (m : Word), j ∈ g.members → (s.stream j).clock.current = some m →
        (∀ k ∈ g.members, ∀ v, (s.stream k).clock.current = some v → v.toInt ≤ m.toInt) → done (sdiff q o - m.toInt - g.hold)) ∧
      ((∀ j ∈ g.members, (s.stream j).clock.current = none) →
        (∀ r e, g.report = some r → r.e = some e → done e) ∧
        ((∀ r, g.report = some r → r.e = none) → exec .groupRecentre s = .next (s.answer [5])))))

/-- SLIP, RECENTRE and a boundary without them: the countdown falls and at 0 is reloaded with a slip and an advance of the LFSR, whose
value sets the slip position; a pending recentre is performed; Q takes both changes with their totals; and the window advances. An
UNANCHORED group stands as it is (R54, R55, R60, R97, R98, R101, R102). A boundary that ends the window has a statement of its own. -/
def Obligations.SlipsAndRecentresMoveQ : Prop :=
  (∀ (s : State) (inp : BoundaryInput) (i : Fin 16) (g : Group) (q : Word) (v : BitVec 6) (due : Bool),
    s.resetLow = false → g = s.group i → g.anchored = true → g.q = some q → (∀ n k, g.window = some (n, k) → k + 1 < 1000) →
    v = g.lfsr.truncate 5 ++ BitVec.ofBool (g.lfsr.getLsbD 5 ^^ g.lfsr.getLsbD 4) → due = (decide (g.dir ≠ .steady) && decide (g.countdown ≤ 1)) →
    ∃ t : State, exec (.houseBlockBoundary inp) s = .next t ∧ (due → exec (.slip i inp) s = .next t) ∧
      (g.pending ≠ none → exec (.recentre i inp) s = .next t) ∧
      t.group i = { g with
        q := some (q - word (g.pending.getD 0) + (if due then (if g.dir = .repeating then 1 else -1) else 0))
        repeats := if due ∧ g.dir = .repeating then g.repeats + 1 else g.repeats
        drops := if due ∧ g.dir = .dropping then g.drops + 1 else g.drops
        recentres := if g.pending = none then g.recentres else g.recentres + 1
        adjSum := g.adjSum + word (g.pending.getD 0)
        pending := none
        lfsr := if due then v else g.lfsr
        countdown := if g.dir = .steady then g.countdown else if due then g.interval.getD 0 else g.countdown - 1
        window := some (match g.window with
          | some w => (w.1, w.2 + 1)
          | none => (0, 0)) } ∧
      (∀ adj, g.pending = some adj → s.Posted t t.clock.hbc { kind := .recentre, subject := i.val, detail := adj }) ∧
      (g.drawContext t.clock.hbc).slip = (if due then (if g.dir = .repeating then .repeatAt (v.toNat % 47 + 1)
        else .dropAt (v.toNat % 47 + 1)) else .steady)) ∧
  (∀ (s : State) (inp : BoundaryInput) (i : Fin 16), s.resetLow = false → (s.group i).anchored = false →
    ∃ t : State, exec (.houseBlockBoundary inp) s = .next t ∧ t.group i = s.group i)

/-- The arithmetic of a window end, steps 1 to 8: lead and delta, step detection, drift smoothing, latency error, recentre decision,
correction rate, slip schedule and report (R87 to R95). The delta is formed by R88's two conditions alone, also after a close of the
would-be lead: log 23; and e has no range: log 24. -/
def Obligations.WindowEndArithmetic : Prop :=
  (∀ (g : Group) (n : Word) (before after : List (Fin 32 × Option Word)) (i : Fin 32) (m : Word), (∀ b ∈ before, b.2 = none) →
    (∀ r base, g.leadLast = some i → g.report = some r → r.members.find? (fun e => e.1 = i) = some (i, some base) →
      g.delta (before ++ (i, some m) :: after) = some (sdiff m base)) ∧
    (g.leadLast ≠ some i → g.delta (before ++ (i, some m) :: after) = none) ∧
    (g.windowEnd n (before ++ (i, some m) :: after)).leadLast = some i) ∧
  (∀ (g : Group) (n : Word) (mins : List (Fin 32 × Option Word)), (∀ b ∈ mins, b.2 = none) →
    g.delta mins = none ∧ g.latencyError mins = none ∧ (g.windowEnd n mins).leadLast = none) ∧
  (∀ (g : Group) (mins : List (Fin 32 × Option Word)) (q o : Word) (j : Fin 32) (m : Word), g.q = some q → g.oRef = some o →
    (j, some m) ∈ mins → (∀ k v, (k, some v) ∈ mins → v.toInt ≤ m.toInt) →
    g.latencyError mins = some (sdiff q o - m.toInt - g.hold)) ∧
  (∀ (g : Group) (n : Word) (mins : List (Fin 32 × Option Word)) (big : Bool) (d c adj : Int) (rec : Bool) (r : Group),
    big = (match g.delta mins with
      | some x => decide (10 < x.natAbs)
      | none => false) →
    d = (match g.delta mins with
      | some x => if big then g.drift else g.drift + (x * 256 - g.drift).tdiv 8
      | none => g.drift) →
    rec = (match g.latencyError mins with
      | some e => decide (192 < e.natAbs)
      | none => false) →
    adj = (match g.latencyError mins with
      | some e => if rec then 48 * divHalfAway e 48 else 0
      | none => 0) →
    c = (match g.latencyError mins with
      | some e => max (-2560) (min 2560 (d - 32 * (e - adj)))
      | none => d) →
    r = g.windowEnd n mins →
    r.steps = (if big then g.steps + 1 else g.steps) ∧ r.drift = d ∧ r.corr = c ∧ r.pending = (if rec then some adj else g.pending) ∧
    r.dir = (if c.natAbs < 4 then .steady else if 0 < c then .repeating else .dropping) ∧
    r.interval = (if c.natAbs < 4 then none else some (256000 / c.natAbs)) ∧
    r.countdown = (if c.natAbs < 4 then 0 else if rec ∨ g.dir ≠ r.dir then 256000 / c.natAbs
      else min g.countdown (256000 / c.natAbs)) ∧
    r.window = some (n + 1, 0) ∧
    r.report = some
      { number := n, lead := r.leadLast, members := mins, delta := g.delta mins, step := big, drift := d, e := g.latencyError mins
        adj := adj, corr := c, dir := r.dir, interval := r.interval } ∧
    r.q = g.q ∧ r.oRef = g.oRef ∧ r.lfsr = g.lfsr ∧ r.members = g.members)

/-- WINDOW_END: the boundary at which blocks-into-window reaches 1,000 runs the window-end arithmetic on the members' current minima
and on the record that stages 1 to 4 have left, so e sees the Q that a recentre and a slip of that boundary have moved and the
schedule sees the countdown of stage 1; it moves each current minimum to the last minimum, clears the window pair mismatch counts,
and posts STEP when the delta exceeds 10 samples (R38, R54, R55, R60, R86, R87, R89, R95, R101, R102). A member that ends at that
boundary has no current minimum (R86). A member that STREAM_STOP reached in that window keeps its last minimum: R96 against R86 and
R95, the choice of log 22. -/
def Obligations.WindowEndRollsTheMinimaOver : Prop :=
  ∀ (s : State) (inp : BoundaryInput) (i : Fin 16) (g : Group) (n q : Word) (v : BitVec 6) (due : Bool),
    s.resetLow = false → g = s.group i → g.anchored = true → g.window = some (n, 999) → g.q = some q → s.MembershipOk →
    v = g.lfsr.truncate 5 ++ BitVec.ofBool (g.lfsr.getLsbD 5 ^^ g.lfsr.getLsbD 4) → due = (decide (g.dir ≠ .steady) && decide (g.countdown ≤ 1)) →
    ∃ t : State, exec (.windowEnd i inp) s = .next t ∧ exec (.houseBlockBoundary inp) s = .next t ∧
      (due → exec (.slip i inp) s = .next t) ∧ (g.pending ≠ none → exec (.recentre i inp) s = .next t) ∧
      ∀ minOf : Fin 32 → Option Word,
        minOf = (fun j => if (s.stream j).state.drawn = true ∧ (t.stream j).state = .ended then none else (s.stream j).clock.current) →
        t.group i = Group.windowEnd { g with
            q := some (q - word (g.pending.getD 0) + (if due then (if g.dir = .repeating then 1 else -1) else 0))
            repeats := if due ∧ g.dir = .repeating then g.repeats + 1 else g.repeats
            drops := if due ∧ g.dir = .dropping then g.drops + 1 else g.drops
            recentres := if g.pending = none then g.recentres else g.recentres + 1
            adjSum := g.adjSum + word (g.pending.getD 0)
            pending := none
            lfsr := if due then v else g.lfsr
            countdown := if g.dir = .steady then g.countdown else if due then g.interval.getD 0 else g.countdown - 1 } n
          (g.members.map fun j => (j, minOf j)) ∧
        (∀ j ∈ g.members, (t.stream j).windowMismatches = 0 ∧ (t.stream j).clock =
          { current := none, transits := 0, stopped := false
            last := if minOf j = none ∧ (s.stream j).clock.stopped = true then (s.stream j).clock.last else minOf j }) ∧
        (∀ x, g.delta (g.members.map fun j => (j, minOf j)) = some x → 10 < x.natAbs →
          s.Posted t t.clock.hbc { kind := .step, subject := i.val, detail := x })

/-- PATH_SILENT: at a boundary in PRIMED, PLAYING or DRAINING a watched path's silent count rises, and when it reaches 100 the mark
is set and PATH_SILENT is posted with subject 2s + p; its detail is E_play as it stood before or after that boundary's draw, which
the spec leaves open (log 9). Path B is watched when the stream has flow B (R75, R76). -/
def Obligations.PathWatchMarksASilentPath : Prop :=
  ∀ (s : State) (inp : BoundaryInput) (i : Fin 32) (p : PathId) (x : Stream), s.resetLow = false → x = s.stream i →
    (p = .b → x.flowB ≠ none) → ∃ t : State, exec (.houseBlockBoundary inp) s = .next t ∧
    ((x.state = .primed ∨ x.state = .playing ∨ x.state = .draining) →
      (t.stream i).watch p =
        { silent := (x.watch p).silent + 1, mark := (x.watch p).mark || (x.watch p).silent == 99 } ∧
      ((x.watch p).silent = 99 → (x.watch p).mark = false → exec (.pathSilent i p inp) s = .next t ∧
        ∃ e : Word, (e = x.ePlay.getD 0 ∨ e = (t.stream i).ePlay.getD 0) ∧
          s.Posted t t.clock.hbc { kind := .pathSilent, subject := 2 * i.val + pathNumber p, detail := e.toInt })) ∧
    (x.state ≠ .primed → x.state ≠ .playing → x.state ≠ .draining → (t.stream i).watch p = x.watch p)

/-! ## The draw -/

/-- At a boundary every member of an ANCHORED group in PRIMED, PLAYING, OUTAGE or DRAINING is drawn at its stream offset b × 48 − Q
− ST0 with its group's slip, outage limit and early warning, has a pending recentre act on it while it is still drawn (log 13), and
is then watched, with the notices of its draw and of its recentre; any other stream stands as it is, in a group of either anchor state
or CLOSED (R54, R75, R77). A window end at that boundary then rolls a member's clock state and clears its window pair mismatch count
(R95; log 22). A recentre fades the draw out by
(47 − n)/48 (R60). A forward one releases the slots before the new read position, advances E_play to it and counts as skipped each
sequence that no sample was served from, the slot served in part being the last real block then, and ends a stream whose end block it
passes (R61, R108, R118); that an OUTAGE stream with an end sequence ends so too is R118's. A backward one holds the place where the
draw stopped, or a later one held, as the served-to position, before which every position is silence, and which the first draw that
reaches or passes it makes absent (R62, R78). After either the next real slot fades in (R110).
A recentre of 0 does none of this. -/
def Obligations.EveryDrawnMemberIsDrawnAtItsOffset : Prop :=
  (∀ (s : State) (inp : BoundaryInput) (i : Fin 32) (x : Stream) (g : Group) (q st0 : Word) (pos : Int) (y : Stream × Drawn × List Post)
    (z : Stream × List Post) (closes : Bool) (rolled : Stream → Stream),
    s.resetLow = false → s.MembershipOk → x = s.stream i → x.state ≠ .closed → g = s.group x.group → g.anchored = true → g.q = some q →
    (closes = true ↔ ∃ n k, g.window = some (n, k) ∧ 999 ≤ k) →
    rolled = (fun u => { u with
      windowMismatches := 0
      clock := { current := none, transits := 0, stopped := false
                 last := if u.clock.current = none ∧ u.clock.stopped = true then u.clock.last else u.clock.current } }) →
    st0 = (x.origin.getD (0, 0)).2 → pos = ((s.clock.hbc + 1) * 48 - q - st0).toInt →
    y = x.draw { hbc := s.clock.hbc + 1, limit := g.outageLimit, warning := g.warning, slip := g.slipDecision.2
                 fade := match g.pending with
                   | none => false
                   | some adj => decide (adj ≠ 0) } i pos →
    z = (match g.pending with
      | none => (y.1, [])
      | some adj => if y.1.state.drawn then y.1.recentre i (pos + g.slipDecision.2.sources) adj else (y.1, [])) →
    ∃ t : State, exec (.houseBlockBoundary inp) s = .next t ∧ (g.pending ≠ none → exec (.recentre x.group inp) s = .next t) ∧
      (x.state.drawn = true → t.stream i = Stream.watchBoundary x (if closes then rolled z.1 else z.1) ∧
        ∀ p ∈ y.2.2 ++ z.2, s.Posted t t.clock.hbc p) ∧
      (x.state.drawn = false → t.stream i = if closes then rolled x else x)) ∧
  (∀ (s : State) (inp : BoundaryInput) (i : Fin 32) (x : Stream), s.resetLow = false → s.MembershipOk → x = s.stream i →
    (x.state = .closed ∨ (x.state.drawn = false ∧ (s.group x.group).anchored = false)) →
    ∃ t : State, exec (.houseBlockBoundary inp) s = .next t ∧ t.stream i = x) ∧
  ((∀ (x : Stream) (ctx : DrawContext) (i : Fin 32) (pos : Int), ctx.fade = true → (x.draw ctx i pos).1 = (x.draw { ctx with fade := false } i pos).1 ∧
    (x.draw ctx i pos).2.2 = (x.draw { ctx with fade := false } i pos).2.2 ∧
    ∀ n, (x.draw ctx i pos).2.1.frames.getD n [] = ((x.draw { ctx with fade := false } i pos).2.1.frames.getD n []).map fun v =>
      sampleOf (Int.tdiv (v.toInt * ((47 - n : Nat) : Int)) 48)) ∧
  (∀ (x : Stream) (i : Fin 32) (stop : Int), x.recentre i stop 0 = (x, [])) ∧
  (∀ (x y : Stream) (i : Fin 32) (stop adj : Int) (seq0 st0 e hi : Word) (ends : Bool) (passed served : Slot → Bool),
    0 < adj → x.origin = some (seq0, st0) → x.ePlay = some e →
    (ends = true ↔ ∃ q, x.endSeq = some q ∧ (x.state = .draining ∨ x.state = .outage) ∧ sdiff q seq0 * 48 + 47 < stop + adj) →
    hi = (if ends then x.endSeq.getD 0 + 1 else if stop + adj < 0 then e else seq0 + BitVec.ofNat 32 ((stop + adj).toNat / 48)) →
    passed = (fun k => match k with
      | .filled b => decide (0 ≤ sdiff b.seq e) && decide (sdiff b.seq hi < 0)
      | .concealed q => decide (0 ≤ sdiff q e) && decide (sdiff q hi < 0)
      | .empty => false) →
    served = (fun k => match k with
      | .filled b => b.served
      | .concealed _ => true
      | .empty => false) → y = (x.recentre i stop adj).1 →
    ((0 < sdiff hi e →
        y.ring = x.ring.map (fun k => if passed k then .empty else k) ∧ y.ePlay = some hi ∧
        y.counters = { x.counters with
          skipped := x.counters.skipped + (hi - e) - BitVec.ofNat 32 (x.ring.countP fun k => passed k && served k) } ∧
        (∀ b : Block, x.ring.filter (fun k => passed k && served k) = [.filled b] →
          y.conceal.lastReal = some { seq := b.seq, sourceTime := b.sourceTime, samples := b.samples }) ∧
        ((∀ b : Block, .filled b ∈ x.ring → passed (.filled b) = true → b.served = false) → y.conceal.lastReal = x.conceal.lastReal)) ∧
      (sdiff hi e ≤ 0 →
        y.ring = x.ring ∧ y.ePlay = some e ∧ y.counters = x.counters ∧ y.conceal.lastReal = x.conceal.lastReal) ∧
      y.conceal.fadeInDue = true ∧ y.conceal.missingRun = x.conceal.missingRun ∧
      y.servedTo = (match x.servedTo with
        | some t => if t ≤ stop + adj then none else some t
        | none => none) ∧
      (ends = true → y.state = .ended ∧ y.clock = { x.clock with current := none, transits := 0 } ∧ (x.recentre i stop adj).2 =
        [{ kind := .streamEnded, subject := i.val, detail := (x.endSeq.getD 0).toInt }]) ∧
      (ends = false → y.state = x.state ∧ y.clock = x.clock ∧ (x.recentre i stop adj).2 = []))) ∧
  (∀ (x : Stream) (i : Fin 32) (stop adj : Int), adj < 0 → x.recentre i stop adj =
    ({ x with
      servedTo := some (match x.servedTo with
        | some t => max t stop
        | none => stop)
      conceal := { x.conceal with fadeInDue := true } }, [])) ∧
  (∀ (x : Stream) (ctx : DrawContext) (i : Fin 32) (pos t : Int), x.servedTo = some t → pos + ctx.slip.sources ≤ t →
    (∀ n v, v ∈ (x.draw ctx i pos).2.1.frames.getD n [] → v = 0) ∧ (x.draw ctx i pos).1.servedTo = some t ∧
    (x.draw ctx i pos).1.ring = x.ring ∧ (x.draw ctx i pos).1.ePlay = x.ePlay ∧ (x.draw ctx i pos).1.counters = x.counters ∧
    (x.draw ctx i pos).1.conceal = x.conceal) ∧
  (∀ (x : Stream) (ctx : DrawContext) (i : Fin 32) (pos t : Int), x.servedTo = some t → t < pos + ctx.slip.sources →
    (x.draw ctx i pos).1.servedTo = none ∧
    (ctx.slip = .steady → ∀ n v, pos + (n : Nat) < t → v ∈ (x.draw ctx i pos).2.1.frames.getD n [] → v = 0)))

/-- A draw of real blocks: output sample n is the sample at source position pos + σ(n) of its own slot, σ being the slip mapping of
R99 and R100; the slots whose last position the draw has passed are released, E_play advances past each, and the slot at output
sample 0 gives its cue word (R77, R78, R79, R99, R100). A stream in DRAINING goes on so before the last sample of its end block, and
the draw that passes that sample, served or omitted by a DROP (log 12), ends it with STREAM_ENDED, silence after it (R78, R81). A
source position from the origin on is served from the slot of its sequence and index, unless R78 has silence there: after the end
sequence, below E_play, or below the served-to position. A stream
in PRIMED moves to PLAYING with STREAM_PLAYING, its detail the wait
of the first block; read below its origin it is silent and declares nothing missing, and one whose draw crosses the origin is heard
from exactly its first sample (R80). A stream then in PLAYING has its headroom measured, the run of FILLED slots from E_play on, and
takes the LOW_HEADROOM test of R83 (R82, R83). -/
def Obligations.RealSamplesFollowTheSlipMapping : Prop :=
  (∀ (x y : Stream) (ctx : DrawContext) (i : Fin 32) (pos p : Nat) (σ : Nat → Nat) (seq0 st0 q : Word) (b0 b1 : Block)
    (ends : Bool),
    1 ≤ p → p ≤ 47 →
    (ctx.slip = .steady ∧ σ = id ∨ (ctx.slip = .repeatAt p ∧ σ = fun n => if n < p then n else n - 1) ∨
      (ctx.slip = .dropAt p ∧ σ = fun n => if n < p then n else n + 1)) →
    ctx.fade = false → (x.state = .primed ∨ x.state = .playing ∨ x.state = .draining) → x.origin = some (seq0, st0) →
    q = seq0 + BitVec.ofNat 32 (pos / 48) → x.ePlay = some q → (∀ z, x.endSeq = some z → sdiff q z ≤ 0 ∧ sdiff (q + 1) z ≤ 0) →
    ends = (decide (x.state = .draining ∧ x.endSeq = some (q + 1)) && decide (96 ≤ pos % 48 + ctx.slip.sources)) → x.servedTo = none → x.conceal.fadeInDue = false → x.conceal.fadeIn = none →
    x.depth ∈ [16, 32, 64, 128, 256] → x.ring.length = x.depth → x.slotAt q = .filled b0 → b0.seq = q →
    x.slotAt (q + 1) = .filled b1 → b1.seq = q + 1 → y = { (x.draw ctx i pos).1 with headroomArmed := x.headroomArmed } →
    (∀ n, n < 48 → (x.draw ctx i pos).2.1.frames.getD n [] =
      (if (pos % 48 + σ n) < 48 then b0.samples else b1.samples).getD ((pos % 48 + σ n) % 48) x.silence) ∧
    (x.draw ctx i pos).2.1.frames.length = 48 ∧ (x.draw ctx i pos).2.1.first = .real b0.cue ∧
    (x.draw ctx i pos).1.ePlay = some (q + BitVec.ofNat 32 ((pos % 48 + ctx.slip.sources) / 48)) ∧
    (x.draw ctx i pos).1.state = (if ends then .ended else if x.state = .draining then .draining else .playing) ∧
    (x.draw ctx i pos).1.clock = (if ends then { x.clock with current := none, transits := 0 } else x.clock) ∧
    (x.draw ctx i pos).1.counters = x.counters ∧
    (48 ≤ pos % 48 + ctx.slip.sources → (x.draw ctx i pos).1.slotAt q = .empty ∧
      ((x.draw ctx i pos).1.conceal.lastReal.map (·.seq)) =
        some (q + BitVec.ofNat 32 ((pos % 48 + ctx.slip.sources) / 48 - 1))) ∧
    (x.draw ctx i pos).1 = (y.headroomTest i ctx.warning (pos + ctx.slip.sources)).1 ∧
    (x.draw ctx i pos).2.2 =
      (if x.state = .primed then [{ kind := .streamPlaying, subject := i.val, detail := sdiff ctx.hbc b0.arrival }] else []) ++
        (if ends then [{ kind := .streamEnded, subject := i.val, detail := (q + 1).toInt }] else []) ++
        (y.headroomTest i ctx.warning (pos + ctx.slip.sources)).2) ∧
  (∀ (x : Stream) (k : Nat) (seq0 st0 e q : Word) (silent : Prop), x.origin = some (seq0, st0) → x.ePlay = some e →
    q = seq0 + BitVec.ofNat 32 (k / 48) →
    silent = ((∃ z, x.endSeq = some z ∧ 0 < sdiff q z) ∨ sdiff q e < 0 ∨ ∃ u, x.servedTo = some u ∧ (k : Int) < u) →
    (silent → x.place k = none) ∧ (¬silent → x.place k = some (q, k % 48))) ∧
  (∀ (x : Stream) (ctx : DrawContext) (i : Fin 32) (pos p : Nat) (σ : Nat → Nat) (seq0 st0 q : Word) (b : Block)
    (d : Stream × Drawn × List Post), d = x.draw ctx i pos → 1 ≤ p → p ≤ 47 →
    (ctx.slip = .steady ∧ σ = id ∨ (ctx.slip = .repeatAt p ∧ σ = fun n => if n < p then n else n - 1) ∨
      (ctx.slip = .dropAt p ∧ σ = fun n => if n < p then n else n + 1)) →
    ctx.fade = false → x.state = .draining → x.endSeq = some q → x.origin = some (seq0, st0) → q = seq0 + BitVec.ofNat 32 (pos / 48) →
    x.ePlay = some q → x.servedTo = none → x.conceal.fadeInDue = false → x.conceal.fadeIn = none → 0 < x.depth →
    x.ring.length = x.depth → x.slotAt q = .filled b → b.seq = q →
    (∀ n, n < 48 → d.2.1.frames.getD n [] =
      if pos % 48 + σ n < 48 then b.samples.getD (pos % 48 + σ n) x.silence else List.replicate x.channels 0) ∧
    d.2.1.frames.length = 48 ∧ d.2.1.first = .real b.cue ∧ d.1.counters = x.counters ∧ d.1.headroomArmed = x.headroomArmed ∧
    d.1.endSeq = some q ∧
    (48 ≤ pos % 48 + ctx.slip.sources → d.1.state = .ended ∧ d.1.clock = { x.clock with current := none, transits := 0 } ∧
      d.1.ePlay = some (q + 1) ∧ d.1.slotAt q = .empty ∧
      d.1.conceal.lastReal = some { seq := q, sourceTime := b.sourceTime, samples := b.samples } ∧
      d.2.2 = [{ kind := .streamEnded, subject := i.val, detail := q.toInt }]) ∧
    (pos % 48 + ctx.slip.sources < 48 → d.1.state = .draining ∧ d.1.clock = x.clock ∧ d.1.ePlay = some q ∧ d.2.2 = [])) ∧
  (∀ (x : Stream) (ctx : DrawContext) (i : Fin 32) (pos : Int), x.state = .primed → x.servedTo = none → ctx.slip = .steady →
    ctx.fade = false →
    (pos + 48 ≤ 0 → (x.draw ctx i pos).1 = x ∧ (x.draw ctx i pos).2.2 = [] ∧ (x.draw ctx i pos).2.1.first = .beforeOrigin ∧
      ∀ n, n < 48 → (x.draw ctx i pos).2.1.frames.getD n [] = List.replicate x.channels 0) ∧
    (∀ (seq0 st0 : Word) (b : Block) (m : Nat), pos = -(m : Int) → 1 ≤ m → m ≤ 47 → x.origin = some (seq0, st0) → x.ePlay = some seq0 →
      x.endSeq = none → x.slotAt seq0 = .filled b → b.seq = seq0 → x.conceal.fadeInDue = false → x.conceal.fadeIn = none →
      ctx.warning = 0 → x.headroomArmed = true → x.ring.length = x.depth → 0 < x.depth →
      (x.draw ctx i pos).1.state = .playing ∧
      (x.draw ctx i pos).2.2 = [{ kind := .streamPlaying, subject := i.val, detail := sdiff ctx.hbc b.arrival }] ∧
      ∀ n, n < 48 → (x.draw ctx i pos).2.1.frames.getD n [] =
        if n < m then List.replicate x.channels 0 else b.samples.getD (n - m) x.silence)) ∧
  ((∀ (x : Stream) (next : Int) (seq0 st0 e : Word) (run ready : Nat), x.origin = some (seq0, st0) → x.ePlay = some e → run ≤ x.depth →
    (∀ j, j < run → ∃ b, x.slotAt (e + BitVec.ofNat 32 j) = .filled b ∧ b.seq = e + BitVec.ofNat 32 j) →
    (¬∃ b, x.slotAt (e + BitVec.ofNat 32 run) = .filled b ∧ b.seq = e + BitVec.ofNat 32 run) →
    ready = (match x.endSeq with
      | none => run
      | some q => min run (sdiff q e + 1).toNat) →
    x.headroom next = if ready = 0 then 0 else (sdiff e seq0 + ready) * 48 - next) ∧
  (∀ (x : Stream) (i : Fin 32) (w : Nat) (next : Int),
    (x.state ≠ .playing → x.headroomTest i w next = (x, [])) ∧
    (x.state = .playing →
      (0 < w → x.headroomArmed = true → x.headroom next < w * 48 → x.headroomTest i w next =
        ({ x with headroomArmed := false }, [{ kind := .lowHeadroom, subject := i.val, detail := x.headroom next }])) ∧
      (x.headroomArmed = true → (w = 0 ∨ w * 48 ≤ x.headroom next) → x.headroomTest i w next = (x, [])) ∧
      (x.headroomArmed = false → x.headroomTest i w next =
        (if (w + 2) * 48 ≤ x.headroom next then { x with headroomArmed := true } else x, [])))))

/-- A draw of a block that never came: its slot is declared missing once, its samples are the last real block faded out by (47 − n)/48
when that block is the one just before it and silence otherwise, and the slot is released (R78, R79, R109, R112). When the count of
missing slots reaches the outage limit a PLAYING stream enters OUTAGE with its resume record, and a DRAINING one ends, at its end
block too; a stream already in OUTAGE, or below the limit, goes on (R112 to R116). A missing first block moves PRIMED to PLAYING with
detail −1 (R80), and the last concealed sample of a missing end block ends the stream (R81). This first part takes a draw that covers
one whole block with no slip. The second takes one that starts within a block: a real block and then a missing one, which is the
faded copy of it and stays CONCEALED, and the rest of a missing block and then a real one, which fades in; each slot has its own
indices (R78, R108, R109, R110). -/
def Obligations.MissingBlockIsConcealed : Prop :=
  (∀ (x : Stream) (ctx : DrawContext) (i : Fin 32) (k : Nat) (seq0 st0 q : Word) (run : Nat) (d : Stream × Drawn × List Post),
    d = x.draw ctx i ((48 * k : Nat) : Int) → run = x.conceal.missingRun.toNat + 1 → run < 2 ^ 32 →
    ctx.slip = .steady → ctx.fade = false → ctx.warning = 0 → x.headroomArmed = true → x.origin = some (seq0, st0) →
    q = seq0 + BitVec.ofNat 32 k → x.ePlay = some q → x.servedTo = none → 0 < x.depth → x.ring.length = x.depth →
    x.slotAt q = .empty → x.conceal.fadeOut = none → (∀ e, x.endSeq = some e → sdiff q e ≤ 0) →
    ((x.state = .primed ∨ x.state = .playing ∨ x.state = .outage ∨ (x.state = .draining ∧ run < ctx.limit)) →
      d.1.counters = { x.counters with
        missing := x.counters.missing + 1
        outages := if x.state = .playing ∧ ctx.limit ≤ run then x.counters.outages + 1 else x.counters.outages } ∧
      d.1.ePlay = some (q + 1) ∧ d.1.slotAt q = .empty ∧
      d.1.conceal = { x.conceal with fadeInDue := true, missingRun := x.conceal.missingRun + 1 } ∧ d.2.1.first = .noReal ∧
      (∀ l n, n < 48 → x.conceal.lastReal = some l → l.seq + 1 = q →
        d.2.1.frames.getD n [] = (l.samples.getD n x.silence).map fun v => sampleOf (Int.tdiv (v.toInt * ((47 - n : Nat) : Int)) 48)) ∧
      (∀ n, n < 48 → (∀ l, x.conceal.lastReal = some l → l.seq + 1 ≠ q) → d.2.1.frames.getD n [] = List.replicate x.channels 0)) ∧
    (x.state = .primed → d.1.state = .playing ∧ d.1.resume = x.resume ∧
      d.2.2 = [{ kind := .streamPlaying, subject := i.val, detail := -1 }]) ∧
    (x.state = .playing → run < ctx.limit → d.1.state = .playing ∧ d.1.resume = x.resume ∧ d.2.2 = []) ∧
    (x.state = .playing → ctx.limit ≤ run → d.1.state = .outage ∧
      d.2.2 = [{ kind := .streamOutage, subject := i.val, detail := (run : Int) }] ∧
      d.1.resume = some
        { lastReal := x.conceal.lastReal.map fun l => (l.seq, l.sourceTime)
          nextExpected := match x.conceal.lastReal with
            | some l => l.seq + 1
            | none => seq0
          hbc := ctx.hbc }) ∧
    (x.state = .outage → d.1.state = .outage ∧ d.1.resume = x.resume ∧ d.2.2 = []) ∧
    (x.state = .draining → run < ctx.limit → x.endSeq ≠ some q →
      d.1.state = .draining ∧ d.1.clock = x.clock ∧ d.1.resume = x.resume ∧ d.2.2 = []) ∧
    (x.state = .draining → run < ctx.limit → x.endSeq = some q →
      d.1.state = .ended ∧ d.1.clock = { x.clock with current := none, transits := 0 } ∧ d.1.resume = x.resume ∧
      d.2.2 = [{ kind := .streamEnded, subject := i.val, detail := q.toInt }]) ∧
    (∀ e, x.state = .draining → x.endSeq = some e → ctx.limit ≤ run →
      d.1.state = .ended ∧ d.1.clock = { x.clock with current := none, transits := 0 } ∧
      d.1.counters = { x.counters with missing := x.counters.missing + 1 } ∧ d.1.ePlay = some (q + 1) ∧ d.1.slotAt q = .empty ∧
      d.1.resume = x.resume ∧ d.2.1.first = .noReal ∧ d.2.2 = [{ kind := .streamEnded, subject := i.val, detail := e.toInt }] ∧
      ∀ n, n < 48 → d.2.1.frames.getD n [] = List.replicate x.channels 0)) ∧
  (∀ (x : Stream) (ctx : DrawContext) (i : Fin 32) (k m : Nat) (seq0 st0 q : Word) (b : Block) (d : Stream × Drawn × List Post),
    d = x.draw ctx i ((48 * k + m : Nat) : Int) → 1 ≤ m → m ≤ 47 → ctx.slip = .steady → ctx.fade = false → ctx.warning = 0 →
    x.headroomArmed = true → x.state = .playing → x.origin = some (seq0, st0) → q = seq0 + BitVec.ofNat 32 k → x.ePlay = some q →
    x.servedTo = none → x.endSeq = none → x.depth ∈ [16, 32, 64, 128, 256] → x.ring.length = x.depth →
    (x.slotAt q = .filled b → b.seq = q → x.slotAt (q + 1) = .empty → x.conceal.fadeInDue = false → x.conceal.fadeIn = none →
      1 < ctx.limit →
      (∀ n, n < 48 → d.2.1.frames.getD n [] = if m + n < 48 then b.samples.getD (m + n) x.silence
        else (b.samples.getD (m + n - 48) x.silence).map fun v => sampleOf (Int.tdiv (v.toInt * ((95 - m - n : Nat) : Int)) 48)) ∧
      d.1.ePlay = some (q + 1) ∧ d.1.slotAt q = .empty ∧ d.1.slotAt (q + 1) = .concealed (q + 1) ∧
      d.1.counters = { x.counters with missing := x.counters.missing + 1 } ∧ d.1.state = .playing ∧
      d.1.conceal =
        { lastReal := some { seq := q, sourceTime := b.sourceTime, samples := b.samples }, fadeOut := some (q + 1), fadeInDue := true
          fadeIn := none, missingRun := 1 } ∧
      d.2.1.first = .real b.cue ∧ d.2.2 = []) ∧
    (x.slotAt q = .concealed q → x.slotAt (q + 1) = .filled b → b.seq = q + 1 → x.conceal.fadeInDue = true →
      (∀ l n, m + n < 48 → x.conceal.fadeOut = some q → x.conceal.lastReal = some l → d.2.1.frames.getD n [] =
        (l.samples.getD (m + n) x.silence).map fun v => sampleOf (Int.tdiv (v.toInt * ((47 - m - n : Nat) : Int)) 48)) ∧
      (∀ n, m + n < 48 → x.conceal.fadeOut ≠ some q → d.2.1.frames.getD n [] = List.replicate x.channels 0) ∧
      (∀ n, n < 48 → 48 ≤ m + n → d.2.1.frames.getD n [] =
        (b.samples.getD (m + n - 48) x.silence).map fun v => sampleOf (Int.tdiv (v.toInt * ((m + n - 47 : Nat) : Int)) 48)) ∧
      d.1.ePlay = some (q + 1) ∧ d.1.slotAt q = .empty ∧ d.1.slotAt (q + 1) = .filled { b with served := true } ∧
      d.1.counters = x.counters ∧ d.1.state = .playing ∧
      d.1.conceal = { x.conceal with
        fadeOut := if x.conceal.fadeOut = some q then none else x.conceal.fadeOut
        fadeInDue := false, fadeIn := some (q + 1), missingRun := 0 } ∧
      d.2.1.first = .noReal ∧ d.2.2 = []))

/-- The first real block after a missing one, or after a recentre, fades in by (n + 1)/48, once; a stream in OUTAGE resumes at it,
to PLAYING, or to DRAINING when an end sequence is recorded, with STREAM_RESUMED, and the resume record stands (R62, R110, R117). A
stream then in DRAINING whose end block this is ends after the draw, with STREAM_ENDED, and one before its end block goes on (R81).
The statement takes a draw that covers one whole block with no slip; a stream in OUTAGE has the resume record that its entry set
(R113, R115). -/
def Obligations.FirstRealBlockFadesIn : Prop :=
  ∀ (x : Stream) (ctx : DrawContext) (i : Fin 32) (k : Nat) (seq0 st0 q : Word) (b : Block) (r : Resume)
    (d : Stream × Drawn × List Post) (resumed ended : List Post),
    d = x.draw ctx i ((48 * k : Nat) : Int) → ctx.slip = .steady → ctx.fade = false → ctx.warning = 0 → x.headroomArmed = true →
    x.origin = some (seq0, st0) → q = seq0 + BitVec.ofNat 32 k → x.ePlay = some q → x.servedTo = none → 0 < x.depth →
    x.ring.length = x.depth → x.slotAt q = .filled b → b.seq = q → x.conceal.fadeInDue = true →
    (∀ e, x.endSeq = some e → sdiff q e ≤ 0) → (x.state = .outage → x.resume = some r) →
    (x.state = .playing ∨ x.state = .outage ∨ x.state = .draining) →
    resumed = (if x.state = .outage then [{ kind := .streamResumed, subject := i.val, detail := sdiff q r.nextExpected }] else []) →
    ended = [{ kind := .streamEnded, subject := i.val, detail := q.toInt }] →
    (∀ n, n < 48 → d.2.1.frames.getD n [] = (b.samples.getD n x.silence).map fun v => sampleOf (Int.tdiv (v.toInt * ((n : Int) + 1)) 48)) ∧
    d.1.conceal = { x.conceal with
      lastReal := some { seq := q, sourceTime := b.sourceTime, samples := b.samples }
      fadeInDue := false, fadeIn := none, missingRun := 0 } ∧
    d.1.ePlay = some (q + 1) ∧ d.1.slotAt q = .empty ∧ d.1.resume = x.resume ∧ d.1.counters = x.counters ∧
    ((x.state = .playing ∨ (x.state = .outage ∧ x.endSeq = none)) → d.1.state = .playing ∧ d.1.clock = x.clock ∧ d.2.2 = resumed) ∧
    ((x.state = .draining ∨ (x.state = .outage ∧ x.endSeq ≠ none)) → x.endSeq ≠ some q →
      d.1.state = .draining ∧ d.1.clock = x.clock ∧ d.2.2 = resumed) ∧
    ((x.state = .draining ∨ x.state = .outage) → x.endSeq = some q →
      d.1.state = .ended ∧ d.1.clock = { x.clock with current := none, transits := 0 } ∧ d.2.2 = resumed ++ ended)

/-! ## Gallery bus output -/

/-- MAP_SET, MAP_COMMIT, MAP_DISCARD and MAP_QUERY: the staged copy and the pending flag, the commit request, the edits given back,
and the report with its clip counters; the active copies stand (R123, R132, R133, R134, R137). The numbers of entries in the replies
stand in 4 bytes, as the model reads R178 (log 11). -/
def Obligations.MapRequestsEditTheStagedCopies : Prop :=
  (∀ (s : State) (k : Fin 64) (kind p1 p2 mute : Byte) (gain : Half) (src : Source) (c : MapCopy),
    s.Next 0x40 ([byteOf k.val, kind, p1, p2] ++ be16 gain.toNat ++ [mute]) → mute.toNat ≤ 1 →
    ((kind = 0 ∧ src = .silent) ∨ (∃ (n : Fin 32) (h : Fin 8), kind = 1 ∧ p1.toNat = n.val ∧ p2.toNat = h.val ∧ src = .stream n h) ∨
      (∃ l : Fin 2, kind = 2 ∧ p1.toNat = l.val ∧ src = .tone l) ∨
      (∃ (r : Fin 16) (h : Fin 2), kind = 3 ∧ p1.toNat = r.val ∧ p2.toNat = h.val ∧ src = .feed r h)) →
    c = { source := src, gain := gain, mute := decide (mute = 1) } → exec .mapSet s = .next
      ((s.setMapEntry k { s.mapEntry k with staged := c, pending := decide (c ≠ (s.mapEntry k).active) }).answer
        [0, if c ≠ (s.mapEntry k).active then 1 else 0])) ∧
  (∀ (s : State) (k kind p1 p2 mute : Byte) (gain : Half),
    s.Next 0x40 ([k, kind, p1, p2] ++ be16 gain.toNat ++ [mute]) →
    (64 ≤ k.toNat → exec .mapSet s = .next (s.answer [6])) ∧
    (k.toNat < 64 → (3 < kind.toNat ∨ 1 < mute.toNat ∨ (kind = 1 ∧ (31 < p1.toNat ∨ 7 < p2.toNat)) ∨ (kind = 2 ∧ 1 < p1.toNat) ∨
      (kind = 3 ∧ (15 < p1.toNat ∨ 1 < p2.toNat))) → exec .mapSet s = .next (s.answer [4]))) ∧
  (∀ s : State, s.Next 0x41 [] → exec .mapCommit s = .next
    (State.answer { s with output := { s.output with commit := true } }
      ([0] ++ be32 ((List.finRange 64).countP fun k => (s.mapEntry k).pending)))) ∧
  (∀ s : State, s.Next 0x42 [255] → ∃ t : State, exec .mapDiscard s = .next (t.answer
      ([0] ++ be32 ((List.finRange 64).countP fun k => (s.mapEntry k).pending))) ∧
    (∀ k, t.mapEntry k = if (s.mapEntry k).pending then { s.mapEntry k with staged := (s.mapEntry k).active, pending := false }
      else s.mapEntry k) ∧ t = { s with output := { s.output with entries := t.output.entries } }) ∧
  (∀ (s : State) (k : Fin 64), s.Next 0x42 [byteOf k.val] → exec .mapDiscard s = .next (if (s.mapEntry k).pending then
      (s.setMapEntry k { s.mapEntry k with staged := (s.mapEntry k).active, pending := false }).answer ([0] ++ be32 1)
    else s.answer ([0] ++ be32 0))) ∧
  (∀ (s : State) (b : Byte), s.Next 0x42 [b] → 64 ≤ b.toNat → b ≠ 255 → exec .mapDiscard s = .next (s.answer [6])) ∧
  (∀ (s : State) (first count clear : Byte), s.Next 0x43 [first, count, clear] →
    (64 ≤ first.toNat → exec .mapQuery s = .next (s.answer [6])) ∧
    (first.toNat < 64 → (count = 0 ∨ 32 < count.toNat ∨ 64 < first.toNat + count.toNat ∨ 1 < clear.toNat) →
      exec .mapQuery s = .next (s.answer [4])) ∧
    (first.toNat < 64 → 1 ≤ count.toNat → count.toNat ≤ 32 → first.toNat + count.toNat ≤ 64 → clear.toNat ≤ 1 → ∃ t : State,
      exec .mapQuery s = .next (t.answer ([0] ++ [if s.output.commit then 1 else 0] ++
        ((List.finRange 64).filter fun k => first.toNat ≤ k.val ∧ k.val < first.toNat + count.toNat).flatMap fun k =>
          (s.mapEntry k).active.bytes ++ (s.mapEntry k).staged.bytes ++ [if (s.mapEntry k).pending then 1 else 0] ++
          [if (s.mapEntry k).clipping then 1 else 0] ++ beWord (s.mapEntry k).clips)) ∧
      (∀ k, t.mapEntry k = if clear = 1 ∧ first.toNat ≤ k.val ∧ k.val < first.toNat + count.toNat then
        { s.mapEntry k with clips := 0 } else s.mapEntry k) ∧
      t = { s with output := { s.output with entries := t.output.entries } })) ∧
  (∀ c : MapCopy, c.bytes = (match c.source with
    | .silent => [0, 0, 0]
    | .stream i h => [1, byteOf i.val, byteOf h.val]
    | .tone l => [2, byteOf l.val, 0]
    | .feed r h => [3, byteOf r.val, byteOf h.val]) ++ be16 c.gain.toNat ++ [if c.mute then 1 else 0])

/-- The block that a boundary forms: each entry's source block (silence, the draw of a stream, the tone, or a feed's mix) passes the
gain, with the ramp or the fade-in of a commit, is rounded and saturated, and stands in the frames of the house block; saturated
samples are counted and posted. COMMIT_APPLY is the boundary that serves the commit request (R121, R123, R125 to R131, R135). The tone
is A × sin(2πn/48), rounded, of amplitude 1,056,072 or 838,861: its first quarter stands here number by number, and the rest by the
symmetry of the sine (R126). -/
def Obligations.OutputBlockIsFormedThroughTheMap : Prop :=
  ((List.range 13).map (toneSample 0) =
    [0, 137845, 273332, 404141, 528036, 642896, 746756, 837838, 914585, 975683, 1020087, 1047037, 1056072] ∧
  (List.range 13).map (toneSample 1) =
    [0, 109493, 217113, 321018, 419431, 510666, 593164, 665513, 726475, 775007, 810278, 831684, 838861] ∧
  ∀ l n, (n ≤ 24 → toneSample l (24 - n) = toneSample l n) ∧ toneSample l (n + 24) = -toneSample l n) ∧
  ∀ (s : State) (inp : BoundaryInput), s.resetLow = false → s.MembershipOk → ∃ (t : State) (src : Fin 64 → List Sample),
    exec (.houseBlockBoundary inp) s = .next t ∧
    (s.output.commit = true → exec (.commitApply inp) s = .next t ∧
      s.Posted t t.clock.hbc
        { kind := .commitDone, subject := 0, detail := ((List.finRange 64).countP fun k => (s.mapEntry k).pending : Nat) }) ∧
    ∀ (k : Fin 64) (applied : Bool) (old new : MapCopy) (g0 g1 : Int) (g y : Nat → Int) (clipped : Nat),
      applied = (s.output.commit && (s.mapEntry k).pending) → old = (s.mapEntry k).active →
      new = (if applied then (s.mapEntry k).staged else (s.mapEntry k).active) →
      g0 = (if old.mute then 0 else (old.gain.toNat : Int)) → g1 = (if new.mute then 0 else (new.gain.toNat : Int)) →
      g = (fun n : Nat => if applied then
          (if old.source = new.source then g0 + Int.tdiv ((g1 - g0) * ((n : Int) + 1)) 48 else Int.tdiv (g1 * ((n : Int) + 1)) 48)
        else g1) →
      y = (fun n : Nat => divHalfAway (((src k).getD n 0).toInt * g n) 16384) →
      clipped = (List.range 48).countP (fun n => y n < -8388608 ∨ 8388607 < y n) →
      (src k).length = 48 ∧
      (new.source = .silent → src k = List.replicate 48 0) ∧
      (∀ l, new.source = .tone l → ∀ n, n < 48 → (src k).getD n 0 = sampleOf (toneSample l n)) ∧
      (∀ i ch, new.source = .stream i ch →
        (((s.stream i).state.drawn = false ∨ (s.group (s.stream i).group).anchored = false) → src k = List.replicate 48 0) ∧
        ((s.stream i).state.drawn = true → (s.group (s.stream i).group).anchored = true →
          src k = ((s.stream i).draw ((s.group (s.stream i).group).drawContext (s.clock.hbc + 1)) i
            ((s.stream i).offsetAt (s.clock.hbc + 1) ((s.group (s.stream i).group).q.getD 0))).2.1.frames.map fun f => f.getD ch.val 0)) ∧
      (∀ r ch, new.source = .feed r ch → src k = if (s.feed r).running ∧ (s.feed r).modeAt = .mix ∧ ch.val < (s.feed r).channels then
        mix24 ((s.feed r).rawMix ch.val (captureInput inp.tdm) inp.sigIn) else List.replicate 48 0) ∧
      (∀ n, n < 48 → (t.tdmFrame n).getD k.val 0 = sampleOf (max (-8388608) (min 8388607 (y n))) ++ 0#8) ∧
      t.mapEntry k = { s.mapEntry k with
        active := new, pending := (s.mapEntry k).pending && !applied, clips := (s.mapEntry k).clips + BitVec.ofNat 32 clipped
        clipping := decide (0 < clipped) } ∧
      (0 < clipped → (s.mapEntry k).clipping = false →
        s.Posted t t.clock.hbc { kind := .outputClip, subject := k.val, detail := (clipped : Int) })

/-! ## Return feeds -/

/-- RETURN_SET makes its checks in their order; a STOPPED feed takes every setting, and a RUNNING one takes those that keep its format
and flow id in force, its load moving with its ports (R140, R144). -/
def Obligations.ReturnSetStoresTheSettings : Prop :=
  ([FeedPorts.a, .b, .both].map FeedPorts.code = [0, 1, 2] ∧ [SampleFormat.l16, .l24].map SampleFormat.code = [0, 1] ∧
    [FeedMode.mix, .test].map FeedMode.code = [0, 1]) ∧
  (∀ (s : State) (r : Fin 16) (f y : Feed), s.Next 0x50 ([byteOf r.val] ++ be16 y.flowId.toNat ++
      [y.ports.code, byteOf y.channels, byteOf y.format.code, byteOf y.packing, y.mode.code] ++ beWord y.talkback ++
      [y.dimLine.elim 255 fun k => byteOf k.val] ++ be16 y.dimGain.toNat ++ be16 y.cueMask.toNat) →
    f = s.feed r → (y.channels = 1 ∨ y.channels = 2) → y.format ≠ .l32 → y.packing ∈ [1, 2, 4] →
    y = { f with
      flowId := y.flowId, ports := y.ports, channels := y.channels, format := y.format, packing := y.packing, mode := y.mode
      talkback := y.talkback, dimLine := y.dimLine, dimGain := y.dimGain, cueMask := y.cueMask } →
    ((y.mode = .test ∧ y.format = .l16) ∨ (f.running = true ∧ y.flowId = 0) → exec .returnSet s = .next (s.answer [4])) ∧
    (¬((y.mode = .test ∧ y.format = .l16) ∨ (f.running = true ∧ y.flowId = 0)) →
      (f.running = false → exec .returnSet s = .next ((s.setFeed r y).answer ([0, 0] ++ be32 f.load))) ∧
      (f.running = true → ¬(y.channels = f.channels ∧ y.format = f.format ∧ y.packing = f.packing) →
        exec .returnSet s = .next (s.answer [5])) ∧
      (f.running = true → y.channels = f.channels → y.format = f.format → y.packing = f.packing →
        ((∃ p, y.ports.names p = true ∧ f.ports.names p = false ∧ (s.port p).transmitBudget < (s.port p).transmitLoad + f.load) →
          exec .returnSet s = .next (s.answer [8])) ∧
        ((∀ p, y.ports.names p = true → f.ports.names p = false → (s.port p).transmitLoad + f.load ≤ (s.port p).transmitBudget) →
          ∃ t : State, exec .returnSet s = .next (t.answer ([0, 1] ++ be32 f.load)) ∧
            (∀ p, t.port p = { s.port p with
              transmitLoad := if f.ports.names p ∧ ¬y.ports.names p then (s.port p).transmitLoad - f.load
              else if y.ports.names p ∧ ¬f.ports.names p then (s.port p).transmitLoad + f.load else (s.port p).transmitLoad }) ∧
            t = { s.setFeed r y with portA := t.portA, portB := t.portB })))) ∧
  (∀ (s : State) (b : List Byte), s.Next 0x50 b → b.length = 17 →
    (16 ≤ field1 b 0 → exec .returnSet s = .next (s.answer [6])) ∧
    (field1 b 0 < 16 → (2 < field1 b 3 ∨ (field1 b 4 ≠ 1 ∧ field1 b 4 ≠ 2) ∨ 1 < field1 b 5 ∨ field1 b 6 ∉ [1, 2, 4] ∨
      1 < field1 b 7 ∨ (16 ≤ field1 b 12 ∧ field1 b 12 ≠ 255)) → exec .returnSet s = .next (s.answer [4])))

/-- RETURN_COEF replaces one row of coefficients whole; RETURN_QUERY reports a feed in the order of R150 and clears its six counters
when the clear flag is 1 (R141, R150); the reported mode of an empty packet in assembly is the last one applied (log 11).
RETURN_START charges a STOPPED feed's load on its ports and sets it RUNNING from sequence 0, and from generator state 1 in TEST;
RETURN_STOP gives the load back and discards the packet in assembly (R139, R142, R143, R144). The codes of the settings are those of
R140. -/
def Obligations.ReturnCoefStartStopAndQuery : Prop :=
  ([FeedPorts.a, .b, .both].map FeedPorts.code = [0, 1, 2] ∧ [SampleFormat.l16, .l24].map SampleFormat.code = [0, 1] ∧
    [FeedMode.mix, .test].map FeedMode.code = [0, 1]) ∧
  ((∀ (s : State) (r : Fin 16) (ch : Byte) (row : List Half), row.length = 32 →
    s.Next 0x51 ([byteOf r.val, ch] ++ row.flatMap fun c => be16 c.toNat) → exec .returnCoef s = .next
      (if ch = 0 then (s.setFeed r { s.feed r with row0 := row }).answer [0]
      else if ch = 1 then (s.setFeed r { s.feed r with row1 := row }).answer [0] else s.answer [4])) ∧
  (∀ (s : State) (r : Fin 16) (f : Feed) (clear : Byte), s.Next 0x54 [byteOf r.val, clear] → f = s.feed r → exec .returnQuery s = .next
    (if 1 < clear.toNat then s.answer [4]
    else State.answer (if clear = 1 then s.setFeed r { f with sentA := 0, sentB := 0, unsentA := 0, unsentB := 0, saturated0 := 0, saturated1 := 0 }
        else s)
      ([0] ++ [if f.running then 1 else 0] ++ be16 f.flowId.toNat ++
        [f.ports.code, byteOf f.channels, byteOf f.format.code, byteOf f.packing, f.mode.code] ++ beWord f.talkback ++
        [f.dimLine.elim 255 fun k => byteOf k.val] ++ be16 f.dimGain.toNat ++ be16 f.cueMask.toNat ++
        (f.row0 ++ f.row1).flatMap (fun c => be16 c.toNat) ++ be32 f.nextSeq.toNat ++ be32 f.assembly.length ++ [f.assemblyMode.code] ++
        be32 f.load ++ [f.sentA, f.sentB, f.unsentA, f.unsentB, f.saturated0, f.saturated1].flatMap beWord))) ∧
  (∀ (s : State) (b clear : Byte) (rest : List Byte), 16 ≤ b.toNat →
    (rest.length = 65 → s.Next 0x51 (b :: rest) → exec .returnCoef s = .next (s.answer [6])) ∧
    (s.Next 0x54 [b, clear] → exec .returnQuery s = .next (s.answer [6])))) ∧
  (∀ (s : State) (r : Fin 16) (f : Feed) (load : Nat), f = s.feed r →
    load = ((82 + f.packing * 48 * f.channels * f.format.bytes) * 8 + (f.packing - 1)) / f.packing →
    (s.Next 0x52 [byteOf r.val] →
      (f.running = true → exec .returnStart s = .next (s.answer [5])) ∧
      (f.running = false → f.flowId = 0 → exec .returnStart s = .next (s.answer [4])) ∧
      (f.running = false → f.flowId ≠ 0 →
        ((∃ p, f.ports.names p = true ∧ (s.port p).transmitBudget < (s.port p).transmitLoad + load) →
          exec .returnStart s = .next (s.answer [8])) ∧
        ((∀ p, f.ports.names p = true → (s.port p).transmitLoad + load ≤ (s.port p).transmitBudget) → ∃ t : State,
          exec .returnStart s = .next (t.answer ([0] ++ be32 load ++ be32 t.portA.transmitLoad ++ be32 t.portB.transmitLoad)) ∧
          (∀ p, t.port p = { s.port p with
            transmitLoad := if f.ports.names p then (s.port p).transmitLoad + load else (s.port p).transmitLoad }) ∧
          t = { s.setFeed r { f with
              running := true, load := load, nextSeq := 0, assembly := []
              generator := if f.mode = .test then 1 else f.generator } with
            portA := t.portA, portB := t.portB }))) ∧
    (s.Next 0x53 [byteOf r.val] →
      (f.running = false → exec .returnStop s = .next (s.answer [0, 0])) ∧
      (f.running = true → ∃ t : State, exec .returnStop s = .next (t.answer [0, 0]) ∧
        (∀ p, t.port p = { s.port p with
          transmitLoad := if f.ports.names p then (s.port p).transmitLoad - f.load else (s.port p).transmitLoad }) ∧
        t = { s.setFeed r { f with running := false, load := 0, assembly := [] } with portA := t.portA, portB := t.portB })) ∧
    (∀ b : Byte, 16 ≤ b.toNat → (s.Next 0x52 [b] → exec .returnStart s = .next (s.answer [6])) ∧
      (s.Next 0x53 [b] → exec .returnStop s = .next (s.answer [6]))))

/-- At a boundary a STOPPED feed stands as it is, and a RUNNING one forms a block and appends it to its packet in assembly: an empty
packet takes the stored mode and the boundary, and a MIX block counts each sample that saturates at the mix, or only at the reduction
to L16, once (R139, R145, R146, R147). Before the K-th block nothing else of the feed moves. RETURN_PACKET_BUILD is the boundary that
forms the K-th block: it builds the packet of R147 and R148, which reads back as itself, hands it to each named port, sent by one that
is UP and unsent by any other, raises the sequence by K and empties the packet in assembly. What the ports transmit is held in the
model's own record (log 18), and a port that is not UP, or that no feed with a packet built names, transmits nothing (R9). In TEST mode
the block is the generator's samples as they stand, from state 1 when the feed's previous packet was formed in MIX (R149; that packet
is the last one built, log 14). The samples of a block are interleaved by instant; L24 carries each as it stands, and L16 each divided
by 256, rounded half away from zero and saturated (R2, R146). -/
def Obligations.ReturnPacketIsBuiltAndSent : Prop :=
  (∀ chans : List (List Sample), (blockPayload .l24 chans).length = 144 * chans.length ∧ (blockPayload .l16 chans).length = 96 * chans.length ∧
    ∀ (n c : Nat) (v : Sample), n < 48 → c < chans.length → v = (chans.getD c []).getD n 0 →
      ((blockPayload .l24 chans).drop ((n * chans.length + c) * 3)).take 3 =
        [byteOf (v.toNat / 65536), byteOf (v.toNat / 256), byteOf v.toNat] ∧
      ((blockPayload .l16 chans).drop ((n * chans.length + c) * 2)).take 2 =
        be16 (BitVec.ofInt 16 (max (-32768) (min 32767 (divHalfAway v.toInt 256)))).toNat) ∧
  ∀ (s : State) (inp : BoundaryInput) (r : Fin 16) (f : Feed) (mode : FeedMode) (first : Word) (count : Nat → Nat), s.resetLow = false →
    f = s.feed r → f.Ok → mode = (if f.assembly = [] then f.mode else f.assemblyMode) →
    first = (if f.assembly = [] then s.clock.hbc + 1 else f.firstBoundary) →
    count = (fun c => (f.rawMix c (captureInput inp.tdm) inp.sigIn).countP fun v => decide (v < -8388608 ∨ 8388607 < v ∨
      (f.format = .l16 ∧ (divHalfAway v 256 < -32768 ∨ 32767 < divHalfAway v 256)))) →
    ∃ t : State, exec (.houseBlockBoundary inp) s = .next t ∧
      (∀ q x, (q, x) ∈ t.returns.transmitted → (s.port q).state = .up ∧ ∃ k, (s.feed k).running = true ∧
        (s.feed k).ports.names q = true ∧ (s.feed k).assembly.length + 1 = (s.feed k).packing) ∧
      (f.running = false → t.feed r = f) ∧
      (f.running = true → ∃ (block : List Byte) (gen : BitVec 23) (y : Feed),
        (mode = .mix → block = blockPayload f.format
          ((List.range f.channels).map fun c => mix24 (f.rawMix c (captureInput inp.tdm) inp.sigIn)) ∧ gen = f.generator) ∧
        (∀ made : BitVec 23 × List Sample, mode = .test →
          made = testSamples (48 * f.channels) (if f.assembly = [] ∧ f.lastMode = some .mix then 1 else f.generator) →
          block = made.2.flatMap (fun v => [byteOf (v.toNat / 65536), byteOf (v.toNat / 256), byteOf v.toNat]) ∧ gen = made.1) ∧
        y = { f with
          assembly := f.assembly ++ [block], assemblyMode := mode, firstBoundary := first, generator := gen
          saturated0 := if mode = .mix then f.saturated0 + BitVec.ofNat 32 (count 0) else f.saturated0
          saturated1 := if mode = .mix ∧ f.channels = 2 then f.saturated1 + BitVec.ofNat 32 (count 1) else f.saturated1 } ∧
        (f.assembly.length + 1 < f.packing → t.feed r = y) ∧
        (f.assembly.length + 1 = f.packing → exec (.returnPacketBuild r inp) s = .next t ∧ ∃ (d : List Byte) (p : Packet),
          judgeDatagram d = .wellFormed p ∧
          p = { packing := f.packing, format := f.format, channels := f.channels, cuePresent := true, test := decide (mode = .test)
                endFlag := false, flowId := f.flowId, seq := f.nextSeq, sourceTime := (first - 1) * 48
                cue := inp.sigIn &&& f.cueMask, payload := f.assembly.flatten ++ block } ∧
          (∀ q, f.ports.names q = true → (s.port q).state = .up → (q, d) ∈ t.returns.transmitted) ∧
          t.feed r = { y with
            nextSeq := f.nextSeq + BitVec.ofNat 16 f.packing, assembly := [], lastMode := some mode
            sentA := if f.ports.names .a ∧ s.portA.state = .up then f.sentA + 1 else f.sentA
            sentB := if f.ports.names .b ∧ s.portB.state = .up then f.sentB + 1 else f.sentB
            unsentA := if f.ports.names .a ∧ s.portA.state ≠ .up then f.unsentA + 1 else f.unsentA
            unsentB := if f.ports.names .b ∧ s.portB.state ≠ .up then f.unsentB + 1 else f.unsentB }))

/-- The mix, frame by frame, with the channel's row, the talkback mask and the dim gain that applies: the exact sums of the inputs
without and with their talkback flag, the first dimmed when the dim line is high, divided by 16,384, rounded half away from zero and
saturated to 24 bits (R145); the rounding is that of 00_scope 5.3. -/
def Obligations.MixIsTheExactSumRounded : Prop :=
  (∀ (row : List Half) (talkback : Word) (dim : Option Half) (frame : Frame) (P T : Int),
    P = ∑ j ∈ (Finset.range 32).filter (fun j => talkback.getLsbD j = false), (row.getD j 0).toInt * (frame.getD j 0).toInt →
    T = ∑ j ∈ (Finset.range 32).filter (fun j => talkback.getLsbD j = true), (row.getD j 0).toInt * (frame.getD j 0).toInt →
    mixSample row talkback dim frame = divHalfAway ((match dim with
      | some g => divHalfAway (P * (g.toNat : Int)) 16384
      | none => P) + T) 16384) ∧
  (∀ (f : Feed) (sampled : Half), f.dimAt sampled = (match f.dimLine with
    | some k => if sampled.getLsbD k.val then some f.dimGain else none
    | none => none)) ∧
  (∀ (f : Feed) (c : Nat) (input : List Frame) (sampled : Half), (f.rawMix c input sampled).length = input.length ∧
    ∀ n, n < input.length → (f.rawMix c input sampled).getD n 0 =
      mixSample (if c = 0 then f.row0 else f.row1) f.talkback (f.dimAt sampled) (input.getD n [])) ∧
  (∀ raw : List Int, (mix24 raw).length = raw.length ∧ ∀ n, n < raw.length →
    ((mix24 raw).getD n 0).toInt = max (-8388608) (min 8388607 (raw.getD n 0))) ∧
  (∀ (x : Int) (d : Nat), 0 < d → 2 * (x - d * divHalfAway x d).natAbs ≤ d ∧
    (2 * (x - d * divHalfAway x d).natAbs = d → x.natAbs < (d * divHalfAway x d).natAbs))

/-! ## Cue and tally signals -/

/-- SIGNAL_SET, SIGNAL_OVERRIDE and SIGIN_MASK: what each stores, the current value that each line takes at once, and the replies
(R152, R153, R157, R159). The line value in SIGNAL_SET's reply stands in 1 byte, as the model reads R178 (log 11). -/
def Obligations.SignalRequestsSetTheLines : Prop :=
  (∀ (s : State) (k : Fin 16) (mode st bit inv fail : Byte) (l : Line), s.Next 0x60 [byteOf k.val, mode, st, bit, inv, fail] →
    l = s.line k →
    (mode = 0 → exec .signalSet s = .next ((s.setLine k
      { mode := .off, stream := 0, bit := 0, invert := false, fail := .low, override := l.override, current := false }).answer [0, 0])) ∧
    (mode = 3 → exec .signalSet s = .next ((s.setLine k
      { mode := .override, stream := 0, bit := 0, invert := false, fail := .low, override := l.override, current := l.override }).answer
        [0, if l.override then 1 else 0])) ∧
    (∀ (i : Fin 32) (n : Fin 16) (v : FailValue), (mode = 1 ∨ mode = 2) → st.toNat = i.val → bit.toNat = n.val → inv.toNat ≤ 1 →
      fail = v.code → exec .signalSet s = .next ((s.setLine k { l with
        mode := if mode = 1 then .aligned else .direct, stream := i, bit := n, invert := decide (inv = 1), fail := v }).answer
        [0, if l.current then 1 else 0])) ∧
    (3 < mode.toNat ∨ ((mode = 1 ∨ mode = 2) ∧ (31 < st.toNat ∨ 15 < bit.toNat ∨ 1 < inv.toNat ∨ 2 < fail.toNat)) →
      exec .signalSet s = .next (s.answer [4]))) ∧
  (∀ (s : State) (b : Byte) (rest : List Byte), rest.length = 5 → s.Next 0x60 (b :: rest) → 16 ≤ b.toNat →
    exec .signalSet s = .next (s.answer [6])) ∧
  (∀ (s : State) (mask values : Half), s.Next 0x61 (be16 mask.toNat ++ be16 values.toNat) → ∃ (t : State) (w : Half),
    exec .signalOverride s = .next (t.answer ([0] ++ be16 w.toNat)) ∧ (∀ k : Fin 16, w.getLsbD k.val = (t.line k).current) ∧
    (∀ k : Fin 16, t.line k = if mask.getLsbD k.val then { s.line k with
        override := values.getLsbD k.val
        current := if (s.line k).mode = .override then values.getLsbD k.val else (s.line k).current } else s.line k) ∧
    t = { s with signals := { s.signals with lines := t.signals.lines } }) ∧
  (∀ (s : State) (mask : Half), s.Next 0x63 (be16 mask.toNat) → exec .siginMask s = .next
    (State.answer { s with signals := { s.signals with mask := mask } } ([0] ++ be16 mask.toNat)))

/-- R160: SIGNAL_QUERY reports the sixteen lines, their current values as a word, the sampled input states and the mask, and changes
nothing; a flag and a line value stand in 1 byte, as the model reads R178 (log 11). -/
def Obligations.SignalQueryReportsTheRouter : Prop :=
  [LineMode.off, .aligned, .direct, .override].map LineMode.code = [0, 1, 2, 3] ∧
  [FailValue.low, .high, .hold].map FailValue.code = [0, 1, 2] ∧
  ∀ s : State, s.Next 0x62 [] → ∃ w : Half, (∀ k : Fin 16, w.getLsbD k.val = (s.line k).current) ∧
    exec .signalQuery s = .next (s.answer ([0] ++ ((List.finRange 16).flatMap fun k =>
      [(s.line k).mode.code, byteOf (s.line k).stream.val, byteOf (s.line k).bit.val, if (s.line k).invert then 1 else 0,
        (s.line k).fail.code, if (s.line k).override then 1 else 0, if (s.line k).current then 1 else 0]) ++
      be16 w.toNat ++ be16 s.signals.sampled.toNat ++ be16 s.signals.mask.toNat))

/-- The output lines at a boundary: OFF and OVERRIDE stand; an ALIGNED line follows the cue word of the slot at output sample 0 of
its stream's draw, a FILLED slot below the served-to position among them, holds, or takes its fail value when the stream is not drawn
or stands before its origin, but in OUTAGE, where it holds (R119); a DIRECT line takes its fail value unless its stream is in PRIMED, PLAYING or DRAINING after the draw. The inputs are
sampled, and each changed input whose mask flag is set is posted (R152, R154, R155, R157, R158, R159). That the fail value stands
before the origin in PLAYING and DRAINING too, and not in PRIMED alone, is the choice of log 26; that a DIRECT line reads the state
after a recentre of that boundary is the choice of log 28. -/
def Obligations.LinesFollowTheirStreamsAtABoundary : Prop :=
  ∀ (s : State) (inp : BoundaryInput), s.resetLow = false → s.MembershipOk → ∃ t : State, exec (.houseBlockBoundary inp) s = .next t ∧
    (∀ (k : Fin 16) (l failed : Line) (x : Stream) (g : Group), l = s.line k → x = s.stream l.stream → g = s.group x.group →
      failed = { l with current := match l.fail with
        | .low => false
        | .high => true
        | .hold => l.current } →
      (l.mode = .off ∨ l.mode = .override → t.line k = l) ∧
      (l.mode = .direct → t.line k = if (t.stream l.stream).state = .primed ∨ (t.stream l.stream).state = .playing ∨
        (t.stream l.stream).state = .draining then l else failed) ∧
      (l.mode = .aligned → (x.state.drawn = false ∨ g.anchored = false → t.line k = failed) ∧
        (x.state.drawn = true → g.anchored = true →
          t.line k = match x.firstSlot (x.offsetAt (s.clock.hbc + 1) (g.q.getD 0)) with
            | .beforeOrigin => failed
            | .real (some cue) => { l with current := cue.getLsbD l.bit.val ^^ l.invert }
            | .real none => l
            | .noReal => l))) ∧
    (∀ (x : Stream) (pos : Int), pos < 0 → x.firstSlot pos = if x.state = .outage then .noReal else .beforeOrigin) ∧
    (∀ (x : Stream) (k : Nat) (seq0 st0 q : Word), x.origin = some (seq0, st0) → q = seq0 + BitVec.ofNat 32 (k / 48) →
      (∀ b, x.slotAt q = .filled b → b.seq = q → x.firstSlot k = .real b.cue) ∧
      ((∀ b, x.slotAt q = .filled b → b.seq ≠ q) → x.firstSlot k = .noReal)) ∧
    (∀ k : Fin 16, inp.sigIn.getLsbD k.val ≠ s.signals.sampled.getLsbD k.val → s.signals.mask.getLsbD k.val = true →
      s.Posted t t.clock.hbc { kind := .sigInChange, subject := k.val, detail := if inp.sigIn.getLsbD k.val then 1 else 0 })

/-! ## Meters, level watches and test sequences -/

/-- METER_SET and METER_READ: a period abandoned for one of the new length, and the last-period records reported (R165, R166).
WATCH_SET arms a watch, or sets it OFF in its reset condition; WATCH_QUERY reports one watch or all sixteen (R167, R169); that its
seven fields begin with the watch number is the model's reading (log 11). -/
def Obligations.MeterAndWatchRequests : Prop :=
  ([WatchMode.off, .above, .below, .inside, .outside].map WatchMode.code = [0, 1, 2, 3, 4] ∧
    [Measure.peak, .mean].map Measure.code = [0, 1] ∧ [WatchState.off, .armed, .tripped].map WatchState.code = [0, 1, 2]) ∧
  ((∀ (s : State) (n : Byte), s.Next 0x70 [n] →
    ((n.toNat < 4 ∨ 10 < n.toNat) → exec .meterSet s = .next (s.answer [4])) ∧
    (4 ≤ n.toNat → n.toNat ≤ 10 → ∃ t : State, exec .meterSet s = .next (t.answer [0, n]) ∧
      (∀ k, t.meters.points.get k = { s.meters.points.get k with runPeak := 0, runSum := 0 }) ∧
      t = { s with meters := { s.meters with exponent := n.toNat, blocks := 0, valid := false, points := t.meters.points } })) ∧
  (∀ (s : State) (first count : Byte), s.Next 0x71 [first, count] →
    (96 ≤ first.toNat → exec .meterRead s = .next (s.answer [6])) ∧
    (first.toNat < 96 → (count = 0 ∨ 96 < first.toNat + count.toNat) → exec .meterRead s = .next (s.answer [4])) ∧
    (first.toNat < 96 → 1 ≤ count.toNat → first.toNat + count.toNat ≤ 96 → exec .meterRead s = .next (s.answer
      ([0] ++ [byteOf s.meters.exponent, if s.meters.valid then 1 else 0] ++ beWord s.meters.periods ++ beWord s.meters.lastEnd ++
        ((List.finRange 96).filter fun k => first.toNat ≤ k.val ∧ k.val < first.toNat + count.toNat).flatMap fun k =>
          be32 (s.meters.points.get k).peak ++ be32 (s.meters.points.get k).mean))))) ∧
  ((∀ (s : State) (k : Fin 16) (point measure mode pers : Byte) (low high : Word),
    s.Next 0x72 ([byteOf k.val, point, measure, mode] ++ beWord low ++ beWord high ++ [pers]) →
    (mode = 0 → exec .watchSet s = .next ((s.setWatch k
      { point := 0, measure := .peak, mode := .off, low := 0, high := 0, persistence := 1, state := .off, run := 0 }).answer [0, 0])) ∧
    (∀ (m : WatchMode) (p : Fin 96) (v : Measure), mode = m.code → m ≠ .off → point.toNat = p.val → measure = v.code → pers ≠ 0 →
      low.toNat ≤ high.toNat → exec .watchSet s = .next ((s.setWatch k
        { point := p, measure := v, mode := m, low := low.toNat, high := high.toNat, persistence := pers.toNat, state := .armed
          run := 0 }).answer [0, 1])) ∧
    (4 < mode.toNat ∨ (mode ≠ 0 ∧ (95 < point.toNat ∨ 1 < measure.toNat ∨ pers = 0 ∨ high.toNat < low.toNat)) →
      exec .watchSet s = .next (s.answer [4]))) ∧
  (∀ (s : State) (b : Byte) (rest : List Byte), rest.length = 12 → s.Next 0x72 (b :: rest) → 16 ≤ b.toNat →
    exec .watchSet s = .next (s.answer [6])) ∧
  (∀ (s : State) (report : Fin 16 → List Byte),
    report = (fun k => [byteOf k.val, byteOf (s.watch k).point.val, (s.watch k).measure.code, (s.watch k).mode.code] ++
      be32 (s.watch k).low ++ be32 (s.watch k).high ++ [byteOf (s.watch k).persistence, (s.watch k).state.code] ++
      be32 (s.watch k).run) →
    (s.Next 0x73 [255] → exec .watchQuery s = .next (s.answer ([0] ++ (List.finRange 16).flatMap report))) ∧
    (∀ k : Fin 16, s.Next 0x73 [byteOf k.val] → exec .watchQuery s = .next (s.answer ([0] ++ report k))) ∧
    (∀ b : Byte, s.Next 0x73 [b] → 16 ≤ b.toNat → b ≠ 255 → exec .watchQuery s = .next (s.answer [6]))))

/-- METER_PERIOD_END and the boundaries before it: every point takes its block, the output channel as sent or the 24-bit mix; when the
count reaches 2^n the peak and the mean square are latched, the accumulators cleared and every watch evaluated, with WATCH_TRIP and
WATCH_CLEAR (R162, R163, R164, R167, R168). -/
def Obligations.MeterPeriodEndLatchesAndEvaluates : Prop :=
  ∀ (s : State) (inp : BoundaryInput), s.resetLow = false → ∃ (t : State) (blocks : Fin 96 → List Sample),
    exec (.houseBlockBoundary inp) s = .next t ∧
    (∀ k : Fin 96, k.val < 64 → blocks k = t.output.tdmOut.getD k.val []) ∧
    (∀ (k : Fin 96) (r : Fin 16) (c : Fin 2), k.val = 64 + 2 * r.val + c.val → blocks k =
      if (s.feed r).running ∧ (s.feed r).modeAt = .mix ∧ c.val < (s.feed r).channels then
        mix24 ((s.feed r).rawMix c.val (captureInput inp.tdm) inp.sigIn) else List.replicate 48 0) ∧
    ∀ (peak sum : Fin 96 → Nat),
      peak = (fun k => ((blocks k).map fun v => v.toInt.natAbs).foldl max (s.meters.points.get k).runPeak) →
      sum = (fun k => (s.meters.points.get k).runSum + ((blocks k).map fun v => (v.toInt.fdiv 256 * v.toInt.fdiv 256).toNat).sum) →
      (s.meters.blocks + 1 ≠ 2 ^ s.meters.exponent →
        t.meters.blocks = s.meters.blocks + 1 ∧ t.meters.watches = s.meters.watches ∧
        t.meters.valid = s.meters.valid ∧ t.meters.periods = s.meters.periods ∧ t.meters.lastEnd = s.meters.lastEnd ∧
        (∀ k, t.meters.points.get k = { s.meters.points.get k with runPeak := peak k, runSum := sum k })) ∧
      (s.meters.blocks + 1 = 2 ^ s.meters.exponent →
        exec (.meterPeriodEnd inp) s = .next t ∧ t.meters.blocks = 0 ∧ t.meters.periods = s.meters.periods + 1 ∧
        t.meters.lastEnd = s.clock.hbc + 1 ∧ t.meters.valid = true ∧ t.meters.exponent = s.meters.exponent ∧
        (∀ k, t.meters.points.get k =
          { runPeak := 0, runSum := 0, peak := peak k, mean := sum k / (48 * 2 ^ s.meters.exponent) }) ∧
        (∀ (n : Fin 16) (w : Watch) (v : Nat) (holds : Prop), w = s.watch n →
          v = (if w.measure = .peak then peak w.point else sum w.point / (48 * 2 ^ s.meters.exponent)) →
          holds = ((w.mode = .above ∧ w.high < v) ∨ (w.mode = .below ∧ v < w.low) ∨ (w.mode = .inside ∧ w.low ≤ v ∧ v ≤ w.high) ∨
            (w.mode = .outside ∧ (v < w.low ∨ w.high < v))) →
          (w.state = .off → t.watch n = w) ∧
          ((w.state = .armed ∧ ¬holds ∨ w.state = .tripped ∧ holds) → t.watch n = { w with run := 0 }) ∧
          ((w.state = .armed ∧ holds ∨ w.state = .tripped ∧ ¬holds) → w.run + 1 < w.persistence →
            t.watch n = { w with run := w.run + 1 }) ∧
          (w.state = .armed → holds → w.persistence ≤ w.run + 1 → t.watch n = { w with state := .tripped, run := 0 } ∧
            s.Posted t t.clock.hbc { kind := .watchTrip, subject := n.val, detail := (v : Int) }) ∧
          (w.state = .tripped → ¬holds → w.persistence ≤ w.run + 1 → t.watch n = { w with state := .armed, run := 0 } ∧
            s.Posted t t.clock.hbc { kind := .watchClear, subject := n.val, detail := (v : Int) })))

/-- The test-sequence generators and checkers: neither LFSR reaches 0; a checker in SYNC follows the generator without an error;
from SEARCH it takes its state from a sample whose lowest bit is 0 and whose others are not all 0; and the sixteenth mismatch in a
row loses SYNC. TEST_QUERY reports a checker and clears its counts when the clear flag is 1 (R98, R171, R172, R174). An LFSR shifts
one place up, and its new bit is bit 22 XOR bit 17, or bit 5 XOR bit 4; the generator advances and then yields its state followed by
a 0 bit. -/
def Obligations.CheckerFollowsTheTestSequence : Prop :=
  (∀ v : BitVec 6, advanceSlip v = v.extractLsb' 0 5 ++ BitVec.ofBool (v.getLsbD 5 ^^ v.getLsbD 4)) ∧
  (∀ v : BitVec 23, advanceTest v = v.extractLsb' 0 22 ++ BitVec.ofBool (v.getLsbD 22 ^^ v.getLsbD 17)) ∧
  (∀ v : BitVec 23, testSamples 0 v = (v, []) ∧ ∀ n, testSamples (n + 1) v =
    ((testSamples n (advanceTest v)).1, (advanceTest v ++ 0#1) :: (testSamples n (advanceTest v)).2)) ∧
  (∀ v : BitVec 6, v ≠ 0 → advanceSlip v ≠ 0) ∧ (∀ v : BitVec 23, v ≠ 0 → advanceTest v ≠ 0) ∧
  (∀ (c : Checker) (n : Nat), c.sync = true → 0 < n → c.samples (testSamples n c.lfsr).2 =
    ({ c with lfsr := (testSamples n c.lfsr).1, mismatches := 0, checked := c.checked + BitVec.ofNat 32 n }, [])) ∧
  (∀ (c : Checker) (v : BitVec 23), c.sync = false → v ≠ 0 →
    c.sample (v ++ 0#1) = ({ c with sync := true, lfsr := v, mismatches := 0 }, none)) ∧
  (∀ (c : Checker) (v : Sample), c.sync = false → (v.getLsbD 0 = true ∨ v = 0) → c.sample v = (c, none)) ∧
  (∀ (c : Checker) (v : Sample), c.sync = true → v ≠ advanceTest c.lfsr ++ 0#1 → c.mismatches ≤ 15 →
    c.sample v = ({ c with
      lfsr := advanceTest c.lfsr, checked := c.checked + 1, errors := c.errors + 1
      mismatches := if c.mismatches = 15 then 0 else c.mismatches + 1, sync := decide (c.mismatches ≠ 15) },
      if c.mismatches = 15 then some (c.errors + 1) else none)) ∧
  (∀ (s : State) (i : Fin 32) (c : Checker) (clear : Byte), c = (s.stream i).checker → s.Next 0x74 [byteOf i.val, clear] →
    exec .testQuery s = .next (if 1 < clear.toNat then s.answer [4]
      else State.answer (if clear = 1 then s.setStream i { s.stream i with checker := { c with errors := 0, gaps := 0, checked := 0 } } else s)
        ([0] ++ [if (s.stream i).test then 1 else 0, if c.sync then 1 else 0] ++ be32 c.mismatches ++ optWord c.lastSeq ++
          beWord c.errors ++ beWord c.gaps ++ beWord c.checked))) ∧
  (∀ (s : State) (b clear : Byte), 32 ≤ b.toNat → s.Next 0x74 [b, clear] → exec .testQuery s = .next (s.answer [6]))

/-! ## Invariants -/

/-- The part right after power-on meets every invariant. -/
def Obligations.ResetMeetsEveryInvariant : Prop :=
  let s := State.reset
  s.clock.Ok ∧ s.notices.Ok ∧ s.control.Ok ∧ (∀ k, (s.mapEntry k).Ok) ∧ (∀ g, (s.group g).Ok) ∧ s.AccountsOk ∧ (∀ r, (s.feed r).Ok) ∧
  s.meters.Ok ∧ s.StreamsOk

/-- Every step keeps the notice queue within 64 entries, no two of them of one kind and subject (R185), and the requests in their
order, at most four, with the transmitter never idle while a reply waits for it (R177, R178). -/
def Obligations.QueuesKeepTheirOrder : Prop :=
  (∀ s t : State, s.notices.Ok → step s = .next t → t.notices.Ok) ∧ (∀ s t : State, s.control.Ok → step s = .next t → t.control.Ok)

/-- Every step keeps each group record in range, its slip schedule and its timeline whole, and the account of Q since the anchor: Q −
Q_anchor is the repeat total less the drop total less the adjustment sum (R49, R53, R60, R94, R97). -/
def Obligations.GroupsKeepTheirAccountOfQ : Prop :=
  ∀ s t : State, (∀ g, (s.group g).Ok) → step s = .next t → ∀ g, (t.group g).Ok

/-- Every step keeps the slots in use at the sum of the open streams' depths, at most 4,096, and each port's loads at the sums of
their charges, at most its budgets (R10, R29, R31, R144). -/
def Obligations.AccountsBalance : Prop :=
  ∀ s t : State, s.AccountsOk → step s = .next t → t.AccountsOk

/-- Every step keeps the streams with their groups, flows and timelines whole (R16, R23, R47, R53, R67). -/
def Obligations.StreamsKeepTheirShape : Prop :=
  ∀ s t : State, s.StreamsOk → step s = .next t → t.StreamsOk

/-- Every step keeps the House Clock Unit, the pending flags of the map, the return feeds and the Meter Unit as the spec says they
always are (R43, R123, R140, R147, R163, R167). -/
def Obligations.UnitsKeepTheirRanges : Prop :=
  (∀ s t : State, s.clock.Ok → step s = .next t → t.clock.Ok) ∧
  (∀ s t : State, (∀ k, (s.mapEntry k).Ok) → step s = .next t → ∀ k, (t.mapEntry k).Ok) ∧
  (∀ s t : State, (∀ r, (s.feed r).Ok) → step s = .next t → ∀ r, (t.feed r).Ok) ∧
  (∀ s t : State, s.meters.Ok → step s = .next t → t.meters.Ok)
end

