-- ==== Sys2Proof/Laws/State.lean ====
section
/-! SUPPORT. What each update of the state leaves and gives: one lemma for each field, so that no proof unfolds an update. -/

namespace Sys2Proof.Machine

/-! ## Fixed register files -/

@[simp] theorem vgen_get {α : Type} {n : Nat} (f : Fin n → α) (i : Fin n) : (vgen n f).get i = f i := by
  have h : i.val < ((List.finRange n).map f).length := by simp
  show ((List.finRange n).map f)[i.val] = f i
  simp

@[simp] theorem vmap_get {α β : Type} {n : Nat} (v : Vector α n) (f : Fin n → α → β) (i : Fin n) : (vmap v f).get i = f i (v.get i) := by
  simp [vmap]

@[simp] theorem vset_get_self {α : Type} {n : Nat} (v : Vector α n) (i : Fin n) (x : α) : (vset v i x).get i = x := by
  show (v.set i.val x i.isLt)[i.val] = x
  simp

theorem vset_get_ne {α : Type} {n : Nat} (v : Vector α n) {i j : Fin n} (x : α) (h : j ≠ i) : (vset v i x).get j = v.get j := by
  have : i.val ≠ j.val := fun e => h (Fin.ext e.symm)
  show (v.set i.val x i.isLt)[j.val] = v[j.val]
  simp [this]

@[simp] theorem replicate_get {α : Type} {n : Nat} (x : α) (i : Fin n) : (Vector.replicate n x).get i = x := by
  simp [Vector.get]

theorem vgen_toList {α : Type} {n : Nat} (f : Fin n → α) : (vgen n f).toList = (List.finRange n).map f := rfl

/-! ## One record of a file -/

@[simp] theorem setStream_stream_self (s : State) (i : Fin 32) (x : Stream) : (s.setStream i x).stream i = x := by
  simp [State.setStream, State.stream]

theorem setStream_stream_ne (s : State) {i j : Fin 32} (x : Stream) (h : j ≠ i) : (s.setStream i x).stream j = s.stream j := by
  simp [State.setStream, State.stream, vset_get_ne _ x h]

@[simp] theorem setGroup_group_self (s : State) (g : Fin 16) (x : Group) : (s.setGroup g x).group g = x := by
  simp [State.setGroup, State.group]

theorem setGroup_group_ne (s : State) {g j : Fin 16} (x : Group) (h : j ≠ g) : (s.setGroup g x).group j = s.group j := by
  simp [State.setGroup, State.group, vset_get_ne _ x h]

@[simp] theorem setMapEntry_mapEntry_self (s : State) (k : Fin 64) (x : MapEntry) : (s.setMapEntry k x).mapEntry k = x := by
  simp [State.setMapEntry, State.mapEntry]

theorem setMapEntry_mapEntry_ne (s : State) {k j : Fin 64} (x : MapEntry) (h : j ≠ k) : (s.setMapEntry k x).mapEntry j = s.mapEntry j := by
  simp [State.setMapEntry, State.mapEntry, vset_get_ne _ x h]

@[simp] theorem setFeed_feed_self (s : State) (r : Fin 16) (x : Feed) : (s.setFeed r x).feed r = x := by
  simp [State.setFeed, State.feed]

theorem setFeed_feed_ne (s : State) {r j : Fin 16} (x : Feed) (h : j ≠ r) : (s.setFeed r x).feed j = s.feed j := by
  simp [State.setFeed, State.feed, vset_get_ne _ x h]

@[simp] theorem setLine_line_self (s : State) (k : Fin 16) (x : Line) : (s.setLine k x).line k = x := by
  simp [State.setLine, State.line]

theorem setLine_line_ne (s : State) {k j : Fin 16} (x : Line) (h : j ≠ k) : (s.setLine k x).line j = s.line j := by
  simp [State.setLine, State.line, vset_get_ne _ x h]

@[simp] theorem setWatch_watch_self (s : State) (w : Fin 16) (x : Watch) : (s.setWatch w x).watch w = x := by
  simp [State.setWatch, State.watch]

theorem setWatch_watch_ne (s : State) {w j : Fin 16} (x : Watch) (h : j ≠ w) : (s.setWatch w x).watch j = s.watch j := by
  simp [State.setWatch, State.watch, vset_get_ne _ x h]

@[simp] theorem setPort_port_self (s : State) (p : PortId) (x : Port) : (s.setPort p x).port p = x := by
  cases p <;> rfl

theorem setPort_port_ne (s : State) {p q : PortId} (x : Port) (h : q ≠ p) : (s.setPort p x).port q = s.port q := by
  cases p <;> cases q <;> first | rfl | exact absurd rfl h

@[simp] theorem mapStreams_stream (s : State) (f : Fin 32 → Stream → Stream) (i : Fin 32) : (s.mapStreams f).stream i = f i (s.stream i) := by
  simp [State.mapStreams, State.stream]

/-! ## The fields that an update leaves -/

@[simp] theorem setStream_resetLow (s : State) (i : Fin 32) (x : Stream) : (s.setStream i x).resetLow = s.resetLow := rfl
@[simp] theorem setStream_clock (s : State) (i : Fin 32) (x : Stream) : (s.setStream i x).clock = s.clock := rfl
@[simp] theorem setStream_portA (s : State) (i : Fin 32) (x : Stream) : (s.setStream i x).portA = s.portA := rfl
@[simp] theorem setStream_portB (s : State) (i : Fin 32) (x : Stream) : (s.setStream i x).portB = s.portB := rfl
@[simp] theorem setStream_flows (s : State) (i : Fin 32) (x : Stream) : (s.setStream i x).flows = s.flows := rfl
@[simp] theorem setStream_slotsInUse (s : State) (i : Fin 32) (x : Stream) : (s.setStream i x).slotsInUse = s.slotsInUse := rfl
@[simp] theorem setStream_groups (s : State) (i : Fin 32) (x : Stream) : (s.setStream i x).groups = s.groups := rfl
@[simp] theorem setStream_output (s : State) (i : Fin 32) (x : Stream) : (s.setStream i x).output = s.output := rfl
@[simp] theorem setStream_returns (s : State) (i : Fin 32) (x : Stream) : (s.setStream i x).returns = s.returns := rfl
@[simp] theorem setStream_signals (s : State) (i : Fin 32) (x : Stream) : (s.setStream i x).signals = s.signals := rfl
@[simp] theorem setStream_meters (s : State) (i : Fin 32) (x : Stream) : (s.setStream i x).meters = s.meters := rfl
@[simp] theorem setStream_control (s : State) (i : Fin 32) (x : Stream) : (s.setStream i x).control = s.control := rfl
@[simp] theorem setStream_notices (s : State) (i : Fin 32) (x : Stream) : (s.setStream i x).notices = s.notices := rfl
@[simp] theorem setStream_pending (s : State) (i : Fin 32) (x : Stream) : (s.setStream i x).pending = s.pending := rfl

@[simp] theorem setGroup_resetLow (s : State) (g : Fin 16) (x : Group) : (s.setGroup g x).resetLow = s.resetLow := rfl
@[simp] theorem setGroup_clock (s : State) (g : Fin 16) (x : Group) : (s.setGroup g x).clock = s.clock := rfl
@[simp] theorem setGroup_portA (s : State) (g : Fin 16) (x : Group) : (s.setGroup g x).portA = s.portA := rfl
@[simp] theorem setGroup_portB (s : State) (g : Fin 16) (x : Group) : (s.setGroup g x).portB = s.portB := rfl
@[simp] theorem setGroup_flows (s : State) (g : Fin 16) (x : Group) : (s.setGroup g x).flows = s.flows := rfl
@[simp] theorem setGroup_streams (s : State) (g : Fin 16) (x : Group) : (s.setGroup g x).streams = s.streams := rfl
@[simp] theorem setGroup_slotsInUse (s : State) (g : Fin 16) (x : Group) : (s.setGroup g x).slotsInUse = s.slotsInUse := rfl
@[simp] theorem setGroup_output (s : State) (g : Fin 16) (x : Group) : (s.setGroup g x).output = s.output := rfl
@[simp] theorem setGroup_returns (s : State) (g : Fin 16) (x : Group) : (s.setGroup g x).returns = s.returns := rfl
@[simp] theorem setGroup_signals (s : State) (g : Fin 16) (x : Group) : (s.setGroup g x).signals = s.signals := rfl
@[simp] theorem setGroup_meters (s : State) (g : Fin 16) (x : Group) : (s.setGroup g x).meters = s.meters := rfl
@[simp] theorem setGroup_control (s : State) (g : Fin 16) (x : Group) : (s.setGroup g x).control = s.control := rfl
@[simp] theorem setGroup_notices (s : State) (g : Fin 16) (x : Group) : (s.setGroup g x).notices = s.notices := rfl
@[simp] theorem setGroup_pending (s : State) (g : Fin 16) (x : Group) : (s.setGroup g x).pending = s.pending := rfl

@[simp] theorem setMapEntry_resetLow (s : State) (k : Fin 64) (x : MapEntry) : (s.setMapEntry k x).resetLow = s.resetLow := rfl
@[simp] theorem setMapEntry_clock (s : State) (k : Fin 64) (x : MapEntry) : (s.setMapEntry k x).clock = s.clock := rfl
@[simp] theorem setMapEntry_portA (s : State) (k : Fin 64) (x : MapEntry) : (s.setMapEntry k x).portA = s.portA := rfl
@[simp] theorem setMapEntry_portB (s : State) (k : Fin 64) (x : MapEntry) : (s.setMapEntry k x).portB = s.portB := rfl
@[simp] theorem setMapEntry_flows (s : State) (k : Fin 64) (x : MapEntry) : (s.setMapEntry k x).flows = s.flows := rfl
@[simp] theorem setMapEntry_streams (s : State) (k : Fin 64) (x : MapEntry) : (s.setMapEntry k x).streams = s.streams := rfl
@[simp] theorem setMapEntry_slotsInUse (s : State) (k : Fin 64) (x : MapEntry) : (s.setMapEntry k x).slotsInUse = s.slotsInUse := rfl
@[simp] theorem setMapEntry_groups (s : State) (k : Fin 64) (x : MapEntry) : (s.setMapEntry k x).groups = s.groups := rfl
@[simp] theorem setMapEntry_returns (s : State) (k : Fin 64) (x : MapEntry) : (s.setMapEntry k x).returns = s.returns := rfl
@[simp] theorem setMapEntry_signals (s : State) (k : Fin 64) (x : MapEntry) : (s.setMapEntry k x).signals = s.signals := rfl
@[simp] theorem setMapEntry_meters (s : State) (k : Fin 64) (x : MapEntry) : (s.setMapEntry k x).meters = s.meters := rfl
@[simp] theorem setMapEntry_control (s : State) (k : Fin 64) (x : MapEntry) : (s.setMapEntry k x).control = s.control := rfl
@[simp] theorem setMapEntry_notices (s : State) (k : Fin 64) (x : MapEntry) : (s.setMapEntry k x).notices = s.notices := rfl
@[simp] theorem setMapEntry_pending (s : State) (k : Fin 64) (x : MapEntry) : (s.setMapEntry k x).pending = s.pending := rfl

@[simp] theorem setFeed_resetLow (s : State) (r : Fin 16) (x : Feed) : (s.setFeed r x).resetLow = s.resetLow := rfl
@[simp] theorem setFeed_clock (s : State) (r : Fin 16) (x : Feed) : (s.setFeed r x).clock = s.clock := rfl
@[simp] theorem setFeed_portA (s : State) (r : Fin 16) (x : Feed) : (s.setFeed r x).portA = s.portA := rfl
@[simp] theorem setFeed_portB (s : State) (r : Fin 16) (x : Feed) : (s.setFeed r x).portB = s.portB := rfl
@[simp] theorem setFeed_flows (s : State) (r : Fin 16) (x : Feed) : (s.setFeed r x).flows = s.flows := rfl
@[simp] theorem setFeed_streams (s : State) (r : Fin 16) (x : Feed) : (s.setFeed r x).streams = s.streams := rfl
@[simp] theorem setFeed_slotsInUse (s : State) (r : Fin 16) (x : Feed) : (s.setFeed r x).slotsInUse = s.slotsInUse := rfl
@[simp] theorem setFeed_groups (s : State) (r : Fin 16) (x : Feed) : (s.setFeed r x).groups = s.groups := rfl
@[simp] theorem setFeed_output (s : State) (r : Fin 16) (x : Feed) : (s.setFeed r x).output = s.output := rfl
@[simp] theorem setFeed_signals (s : State) (r : Fin 16) (x : Feed) : (s.setFeed r x).signals = s.signals := rfl
@[simp] theorem setFeed_meters (s : State) (r : Fin 16) (x : Feed) : (s.setFeed r x).meters = s.meters := rfl
@[simp] theorem setFeed_control (s : State) (r : Fin 16) (x : Feed) : (s.setFeed r x).control = s.control := rfl
@[simp] theorem setFeed_notices (s : State) (r : Fin 16) (x : Feed) : (s.setFeed r x).notices = s.notices := rfl
@[simp] theorem setFeed_pending (s : State) (r : Fin 16) (x : Feed) : (s.setFeed r x).pending = s.pending := rfl

@[simp] theorem setLine_resetLow (s : State) (k : Fin 16) (x : Line) : (s.setLine k x).resetLow = s.resetLow := rfl
@[simp] theorem setLine_clock (s : State) (k : Fin 16) (x : Line) : (s.setLine k x).clock = s.clock := rfl
@[simp] theorem setLine_portA (s : State) (k : Fin 16) (x : Line) : (s.setLine k x).portA = s.portA := rfl
@[simp] theorem setLine_portB (s : State) (k : Fin 16) (x : Line) : (s.setLine k x).portB = s.portB := rfl
@[simp] theorem setLine_flows (s : State) (k : Fin 16) (x : Line) : (s.setLine k x).flows = s.flows := rfl
@[simp] theorem setLine_streams (s : State) (k : Fin 16) (x : Line) : (s.setLine k x).streams = s.streams := rfl
@[simp] theorem setLine_slotsInUse (s : State) (k : Fin 16) (x : Line) : (s.setLine k x).slotsInUse = s.slotsInUse := rfl
@[simp] theorem setLine_groups (s : State) (k : Fin 16) (x : Line) : (s.setLine k x).groups = s.groups := rfl
@[simp] theorem setLine_output (s : State) (k : Fin 16) (x : Line) : (s.setLine k x).output = s.output := rfl
@[simp] theorem setLine_returns (s : State) (k : Fin 16) (x : Line) : (s.setLine k x).returns = s.returns := rfl
@[simp] theorem setLine_meters (s : State) (k : Fin 16) (x : Line) : (s.setLine k x).meters = s.meters := rfl
@[simp] theorem setLine_control (s : State) (k : Fin 16) (x : Line) : (s.setLine k x).control = s.control := rfl
@[simp] theorem setLine_notices (s : State) (k : Fin 16) (x : Line) : (s.setLine k x).notices = s.notices := rfl
@[simp] theorem setLine_pending (s : State) (k : Fin 16) (x : Line) : (s.setLine k x).pending = s.pending := rfl

@[simp] theorem setWatch_resetLow (s : State) (w : Fin 16) (x : Watch) : (s.setWatch w x).resetLow = s.resetLow := rfl
@[simp] theorem setWatch_clock (s : State) (w : Fin 16) (x : Watch) : (s.setWatch w x).clock = s.clock := rfl
@[simp] theorem setWatch_portA (s : State) (w : Fin 16) (x : Watch) : (s.setWatch w x).portA = s.portA := rfl
@[simp] theorem setWatch_portB (s : State) (w : Fin 16) (x : Watch) : (s.setWatch w x).portB = s.portB := rfl
@[simp] theorem setWatch_flows (s : State) (w : Fin 16) (x : Watch) : (s.setWatch w x).flows = s.flows := rfl
@[simp] theorem setWatch_streams (s : State) (w : Fin 16) (x : Watch) : (s.setWatch w x).streams = s.streams := rfl
@[simp] theorem setWatch_slotsInUse (s : State) (w : Fin 16) (x : Watch) : (s.setWatch w x).slotsInUse = s.slotsInUse := rfl
@[simp] theorem setWatch_groups (s : State) (w : Fin 16) (x : Watch) : (s.setWatch w x).groups = s.groups := rfl
@[simp] theorem setWatch_output (s : State) (w : Fin 16) (x : Watch) : (s.setWatch w x).output = s.output := rfl
@[simp] theorem setWatch_returns (s : State) (w : Fin 16) (x : Watch) : (s.setWatch w x).returns = s.returns := rfl
@[simp] theorem setWatch_signals (s : State) (w : Fin 16) (x : Watch) : (s.setWatch w x).signals = s.signals := rfl
@[simp] theorem setWatch_control (s : State) (w : Fin 16) (x : Watch) : (s.setWatch w x).control = s.control := rfl
@[simp] theorem setWatch_notices (s : State) (w : Fin 16) (x : Watch) : (s.setWatch w x).notices = s.notices := rfl
@[simp] theorem setWatch_pending (s : State) (w : Fin 16) (x : Watch) : (s.setWatch w x).pending = s.pending := rfl

@[simp] theorem mapStreams_resetLow (s : State) (f : Fin 32 → Stream → Stream) : (s.mapStreams f).resetLow = s.resetLow := rfl
@[simp] theorem mapStreams_clock (s : State) (f : Fin 32 → Stream → Stream) : (s.mapStreams f).clock = s.clock := rfl
@[simp] theorem mapStreams_portA (s : State) (f : Fin 32 → Stream → Stream) : (s.mapStreams f).portA = s.portA := rfl
@[simp] theorem mapStreams_portB (s : State) (f : Fin 32 → Stream → Stream) : (s.mapStreams f).portB = s.portB := rfl
@[simp] theorem mapStreams_flows (s : State) (f : Fin 32 → Stream → Stream) : (s.mapStreams f).flows = s.flows := rfl
@[simp] theorem mapStreams_slotsInUse (s : State) (f : Fin 32 → Stream → Stream) : (s.mapStreams f).slotsInUse = s.slotsInUse := rfl
@[simp] theorem mapStreams_groups (s : State) (f : Fin 32 → Stream → Stream) : (s.mapStreams f).groups = s.groups := rfl
@[simp] theorem mapStreams_output (s : State) (f : Fin 32 → Stream → Stream) : (s.mapStreams f).output = s.output := rfl
@[simp] theorem mapStreams_returns (s : State) (f : Fin 32 → Stream → Stream) : (s.mapStreams f).returns = s.returns := rfl
@[simp] theorem mapStreams_signals (s : State) (f : Fin 32 → Stream → Stream) : (s.mapStreams f).signals = s.signals := rfl
@[simp] theorem mapStreams_meters (s : State) (f : Fin 32 → Stream → Stream) : (s.mapStreams f).meters = s.meters := rfl
@[simp] theorem mapStreams_control (s : State) (f : Fin 32 → Stream → Stream) : (s.mapStreams f).control = s.control := rfl
@[simp] theorem mapStreams_notices (s : State) (f : Fin 32 → Stream → Stream) : (s.mapStreams f).notices = s.notices := rfl
@[simp] theorem mapStreams_pending (s : State) (f : Fin 32 → Stream → Stream) : (s.mapStreams f).pending = s.pending := rfl

@[simp] theorem post_resetLow (s : State) (p : Post) : (s.post p).resetLow = s.resetLow := rfl
@[simp] theorem post_clock (s : State) (p : Post) : (s.post p).clock = s.clock := rfl
@[simp] theorem post_portA (s : State) (p : Post) : (s.post p).portA = s.portA := rfl
@[simp] theorem post_portB (s : State) (p : Post) : (s.post p).portB = s.portB := rfl
@[simp] theorem post_flows (s : State) (p : Post) : (s.post p).flows = s.flows := rfl
@[simp] theorem post_streams (s : State) (p : Post) : (s.post p).streams = s.streams := rfl
@[simp] theorem post_slotsInUse (s : State) (p : Post) : (s.post p).slotsInUse = s.slotsInUse := rfl
@[simp] theorem post_groups (s : State) (p : Post) : (s.post p).groups = s.groups := rfl
@[simp] theorem post_output (s : State) (p : Post) : (s.post p).output = s.output := rfl
@[simp] theorem post_returns (s : State) (p : Post) : (s.post p).returns = s.returns := rfl
@[simp] theorem post_signals (s : State) (p : Post) : (s.post p).signals = s.signals := rfl
@[simp] theorem post_meters (s : State) (p : Post) : (s.post p).meters = s.meters := rfl
@[simp] theorem post_control (s : State) (p : Post) : (s.post p).control = s.control := rfl
@[simp] theorem post_pending (s : State) (p : Post) : (s.post p).pending = s.pending := rfl

@[simp] theorem postAll_resetLow (s : State) (ps : List Post) : (s.postAll ps).resetLow = s.resetLow := rfl
@[simp] theorem postAll_clock (s : State) (ps : List Post) : (s.postAll ps).clock = s.clock := rfl
@[simp] theorem postAll_portA (s : State) (ps : List Post) : (s.postAll ps).portA = s.portA := rfl
@[simp] theorem postAll_portB (s : State) (ps : List Post) : (s.postAll ps).portB = s.portB := rfl
@[simp] theorem postAll_flows (s : State) (ps : List Post) : (s.postAll ps).flows = s.flows := rfl
@[simp] theorem postAll_streams (s : State) (ps : List Post) : (s.postAll ps).streams = s.streams := rfl
@[simp] theorem postAll_slotsInUse (s : State) (ps : List Post) : (s.postAll ps).slotsInUse = s.slotsInUse := rfl
@[simp] theorem postAll_groups (s : State) (ps : List Post) : (s.postAll ps).groups = s.groups := rfl
@[simp] theorem postAll_output (s : State) (ps : List Post) : (s.postAll ps).output = s.output := rfl
@[simp] theorem postAll_returns (s : State) (ps : List Post) : (s.postAll ps).returns = s.returns := rfl
@[simp] theorem postAll_signals (s : State) (ps : List Post) : (s.postAll ps).signals = s.signals := rfl
@[simp] theorem postAll_meters (s : State) (ps : List Post) : (s.postAll ps).meters = s.meters := rfl
@[simp] theorem postAll_control (s : State) (ps : List Post) : (s.postAll ps).control = s.control := rfl
@[simp] theorem postAll_pending (s : State) (ps : List Post) : (s.postAll ps).pending = s.pending := rfl

@[simp] theorem answer_resetLow (s : State) (body : List Byte) : (s.answer body).resetLow = s.resetLow := rfl
@[simp] theorem answer_clock (s : State) (body : List Byte) : (s.answer body).clock = s.clock := rfl
@[simp] theorem answer_portA (s : State) (body : List Byte) : (s.answer body).portA = s.portA := rfl
@[simp] theorem answer_portB (s : State) (body : List Byte) : (s.answer body).portB = s.portB := rfl
@[simp] theorem answer_flows (s : State) (body : List Byte) : (s.answer body).flows = s.flows := rfl
@[simp] theorem answer_streams (s : State) (body : List Byte) : (s.answer body).streams = s.streams := rfl
@[simp] theorem answer_slotsInUse (s : State) (body : List Byte) : (s.answer body).slotsInUse = s.slotsInUse := rfl
@[simp] theorem answer_groups (s : State) (body : List Byte) : (s.answer body).groups = s.groups := rfl
@[simp] theorem answer_output (s : State) (body : List Byte) : (s.answer body).output = s.output := rfl
@[simp] theorem answer_returns (s : State) (body : List Byte) : (s.answer body).returns = s.returns := rfl
@[simp] theorem answer_signals (s : State) (body : List Byte) : (s.answer body).signals = s.signals := rfl
@[simp] theorem answer_meters (s : State) (body : List Byte) : (s.answer body).meters = s.meters := rfl
@[simp] theorem answer_notices (s : State) (body : List Byte) : (s.answer body).notices = s.notices := rfl
@[simp] theorem answer_pending (s : State) (body : List Byte) : (s.answer body).pending = s.pending := rfl

@[simp] theorem withPending_resetLow (s : State) (q : List Instr) : (s.withPending q).resetLow = s.resetLow := rfl
@[simp] theorem withPending_clock (s : State) (q : List Instr) : (s.withPending q).clock = s.clock := rfl
@[simp] theorem withPending_portA (s : State) (q : List Instr) : (s.withPending q).portA = s.portA := rfl
@[simp] theorem withPending_portB (s : State) (q : List Instr) : (s.withPending q).portB = s.portB := rfl
@[simp] theorem withPending_flows (s : State) (q : List Instr) : (s.withPending q).flows = s.flows := rfl
@[simp] theorem withPending_streams (s : State) (q : List Instr) : (s.withPending q).streams = s.streams := rfl
@[simp] theorem withPending_slotsInUse (s : State) (q : List Instr) : (s.withPending q).slotsInUse = s.slotsInUse := rfl
@[simp] theorem withPending_groups (s : State) (q : List Instr) : (s.withPending q).groups = s.groups := rfl
@[simp] theorem withPending_output (s : State) (q : List Instr) : (s.withPending q).output = s.output := rfl
@[simp] theorem withPending_returns (s : State) (q : List Instr) : (s.withPending q).returns = s.returns := rfl
@[simp] theorem withPending_signals (s : State) (q : List Instr) : (s.withPending q).signals = s.signals := rfl
@[simp] theorem withPending_meters (s : State) (q : List Instr) : (s.withPending q).meters = s.meters := rfl
@[simp] theorem withPending_control (s : State) (q : List Instr) : (s.withPending q).control = s.control := rfl
@[simp] theorem withPending_notices (s : State) (q : List Instr) : (s.withPending q).notices = s.notices := rfl

@[simp] theorem setPort_resetLow (s : State) (p : PortId) (x : Port) : (s.setPort p x).resetLow = s.resetLow := by cases p <;> rfl
@[simp] theorem setPort_clock (s : State) (p : PortId) (x : Port) : (s.setPort p x).clock = s.clock := by cases p <;> rfl
@[simp] theorem setPort_flows (s : State) (p : PortId) (x : Port) : (s.setPort p x).flows = s.flows := by cases p <;> rfl
@[simp] theorem setPort_streams (s : State) (p : PortId) (x : Port) : (s.setPort p x).streams = s.streams := by cases p <;> rfl
@[simp] theorem setPort_slotsInUse (s : State) (p : PortId) (x : Port) : (s.setPort p x).slotsInUse = s.slotsInUse := by cases p <;> rfl
@[simp] theorem setPort_groups (s : State) (p : PortId) (x : Port) : (s.setPort p x).groups = s.groups := by cases p <;> rfl
@[simp] theorem setPort_output (s : State) (p : PortId) (x : Port) : (s.setPort p x).output = s.output := by cases p <;> rfl
@[simp] theorem setPort_returns (s : State) (p : PortId) (x : Port) : (s.setPort p x).returns = s.returns := by cases p <;> rfl
@[simp] theorem setPort_signals (s : State) (p : PortId) (x : Port) : (s.setPort p x).signals = s.signals := by cases p <;> rfl
@[simp] theorem setPort_meters (s : State) (p : PortId) (x : Port) : (s.setPort p x).meters = s.meters := by cases p <;> rfl
@[simp] theorem setPort_control (s : State) (p : PortId) (x : Port) : (s.setPort p x).control = s.control := by cases p <;> rfl
@[simp] theorem setPort_notices (s : State) (p : PortId) (x : Port) : (s.setPort p x).notices = s.notices := by cases p <;> rfl
@[simp] theorem setPort_pending (s : State) (p : PortId) (x : Port) : (s.setPort p x).pending = s.pending := by cases p <;> rfl

@[simp] theorem atSample_resetLow (s : State) (n : Fin 48) : (s.atSample n).resetLow = s.resetLow := by
  unfold State.atSample; split <;> rfl
@[simp] theorem atSample_portA (s : State) (n : Fin 48) : (s.atSample n).portA = s.portA := by
  unfold State.atSample; split <;> rfl
@[simp] theorem atSample_portB (s : State) (n : Fin 48) : (s.atSample n).portB = s.portB := by
  unfold State.atSample; split <;> rfl
@[simp] theorem atSample_flows (s : State) (n : Fin 48) : (s.atSample n).flows = s.flows := by
  unfold State.atSample; split <;> rfl
@[simp] theorem atSample_streams (s : State) (n : Fin 48) : (s.atSample n).streams = s.streams := by
  unfold State.atSample; split <;> rfl
@[simp] theorem atSample_slotsInUse (s : State) (n : Fin 48) : (s.atSample n).slotsInUse = s.slotsInUse := by
  unfold State.atSample; split <;> rfl
@[simp] theorem atSample_groups (s : State) (n : Fin 48) : (s.atSample n).groups = s.groups := by
  unfold State.atSample; split <;> rfl
@[simp] theorem atSample_output (s : State) (n : Fin 48) : (s.atSample n).output = s.output := by
  unfold State.atSample; split <;> rfl
@[simp] theorem atSample_returns (s : State) (n : Fin 48) : (s.atSample n).returns = s.returns := by
  unfold State.atSample; split <;> rfl
@[simp] theorem atSample_signals (s : State) (n : Fin 48) : (s.atSample n).signals = s.signals := by
  unfold State.atSample; split <;> rfl
@[simp] theorem atSample_meters (s : State) (n : Fin 48) : (s.atSample n).meters = s.meters := by
  unfold State.atSample; split <;> rfl
@[simp] theorem atSample_control (s : State) (n : Fin 48) : (s.atSample n).control = s.control := by
  unfold State.atSample; split <;> rfl
@[simp] theorem atSample_notices (s : State) (n : Fin 48) : (s.atSample n).notices = s.notices := by
  unfold State.atSample; split <;> rfl
@[simp] theorem atSample_pending (s : State) (n : Fin 48) : (s.atSample n).pending = s.pending := by
  unfold State.atSample; split <;> rfl

/-! ## Records across updates of other files -/

@[simp] theorem setStream_group (s : State) (i : Fin 32) (x : Stream) (j : Fin 16) : (s.setStream i x).group j = s.group j := rfl
@[simp] theorem setStream_mapEntry (s : State) (i : Fin 32) (x : Stream) (j : Fin 64) : (s.setStream i x).mapEntry j = s.mapEntry j := rfl
@[simp] theorem setStream_feed (s : State) (i : Fin 32) (x : Stream) (j : Fin 16) : (s.setStream i x).feed j = s.feed j := rfl
@[simp] theorem setStream_line (s : State) (i : Fin 32) (x : Stream) (j : Fin 16) : (s.setStream i x).line j = s.line j := rfl
@[simp] theorem setStream_watch (s : State) (i : Fin 32) (x : Stream) (j : Fin 16) : (s.setStream i x).watch j = s.watch j := rfl
@[simp] theorem setStream_port (s : State) (i : Fin 32) (x : Stream) (q : PortId) : (s.setStream i x).port q = s.port q := by cases q <;> rfl
@[simp] theorem setGroup_stream (s : State) (g : Fin 16) (x : Group) (j : Fin 32) : (s.setGroup g x).stream j = s.stream j := rfl
@[simp] theorem setGroup_mapEntry (s : State) (g : Fin 16) (x : Group) (j : Fin 64) : (s.setGroup g x).mapEntry j = s.mapEntry j := rfl
@[simp] theorem setGroup_feed (s : State) (g : Fin 16) (x : Group) (j : Fin 16) : (s.setGroup g x).feed j = s.feed j := rfl
@[simp] theorem setGroup_line (s : State) (g : Fin 16) (x : Group) (j : Fin 16) : (s.setGroup g x).line j = s.line j := rfl
@[simp] theorem setGroup_watch (s : State) (g : Fin 16) (x : Group) (j : Fin 16) : (s.setGroup g x).watch j = s.watch j := rfl
@[simp] theorem setGroup_port (s : State) (g : Fin 16) (x : Group) (q : PortId) : (s.setGroup g x).port q = s.port q := by cases q <;> rfl
@[simp] theorem setMapEntry_stream (s : State) (k : Fin 64) (x : MapEntry) (j : Fin 32) : (s.setMapEntry k x).stream j = s.stream j := rfl
@[simp] theorem setMapEntry_group (s : State) (k : Fin 64) (x : MapEntry) (j : Fin 16) : (s.setMapEntry k x).group j = s.group j := rfl
@[simp] theorem setMapEntry_feed (s : State) (k : Fin 64) (x : MapEntry) (j : Fin 16) : (s.setMapEntry k x).feed j = s.feed j := rfl
@[simp] theorem setMapEntry_line (s : State) (k : Fin 64) (x : MapEntry) (j : Fin 16) : (s.setMapEntry k x).line j = s.line j := rfl
@[simp] theorem setMapEntry_watch (s : State) (k : Fin 64) (x : MapEntry) (j : Fin 16) : (s.setMapEntry k x).watch j = s.watch j := rfl
@[simp] theorem setMapEntry_port (s : State) (k : Fin 64) (x : MapEntry) (q : PortId) : (s.setMapEntry k x).port q = s.port q := by cases q <;> rfl
@[simp] theorem setFeed_stream (s : State) (r : Fin 16) (x : Feed) (j : Fin 32) : (s.setFeed r x).stream j = s.stream j := rfl
@[simp] theorem setFeed_group (s : State) (r : Fin 16) (x : Feed) (j : Fin 16) : (s.setFeed r x).group j = s.group j := rfl
@[simp] theorem setFeed_mapEntry (s : State) (r : Fin 16) (x : Feed) (j : Fin 64) : (s.setFeed r x).mapEntry j = s.mapEntry j := rfl
@[simp] theorem setFeed_line (s : State) (r : Fin 16) (x : Feed) (j : Fin 16) : (s.setFeed r x).line j = s.line j := rfl
@[simp] theorem setFeed_watch (s : State) (r : Fin 16) (x : Feed) (j : Fin 16) : (s.setFeed r x).watch j = s.watch j := rfl
@[simp] theorem setFeed_port (s : State) (r : Fin 16) (x : Feed) (q : PortId) : (s.setFeed r x).port q = s.port q := by cases q <;> rfl
@[simp] theorem setLine_stream (s : State) (k : Fin 16) (x : Line) (j : Fin 32) : (s.setLine k x).stream j = s.stream j := rfl
@[simp] theorem setLine_group (s : State) (k : Fin 16) (x : Line) (j : Fin 16) : (s.setLine k x).group j = s.group j := rfl
@[simp] theorem setLine_mapEntry (s : State) (k : Fin 16) (x : Line) (j : Fin 64) : (s.setLine k x).mapEntry j = s.mapEntry j := rfl
@[simp] theorem setLine_feed (s : State) (k : Fin 16) (x : Line) (j : Fin 16) : (s.setLine k x).feed j = s.feed j := rfl
@[simp] theorem setLine_watch (s : State) (k : Fin 16) (x : Line) (j : Fin 16) : (s.setLine k x).watch j = s.watch j := rfl
@[simp] theorem setLine_port (s : State) (k : Fin 16) (x : Line) (q : PortId) : (s.setLine k x).port q = s.port q := by cases q <;> rfl
@[simp] theorem setWatch_stream (s : State) (w : Fin 16) (x : Watch) (j : Fin 32) : (s.setWatch w x).stream j = s.stream j := rfl
@[simp] theorem setWatch_group (s : State) (w : Fin 16) (x : Watch) (j : Fin 16) : (s.setWatch w x).group j = s.group j := rfl
@[simp] theorem setWatch_mapEntry (s : State) (w : Fin 16) (x : Watch) (j : Fin 64) : (s.setWatch w x).mapEntry j = s.mapEntry j := rfl
@[simp] theorem setWatch_feed (s : State) (w : Fin 16) (x : Watch) (j : Fin 16) : (s.setWatch w x).feed j = s.feed j := rfl
@[simp] theorem setWatch_line (s : State) (w : Fin 16) (x : Watch) (j : Fin 16) : (s.setWatch w x).line j = s.line j := rfl
@[simp] theorem setWatch_port (s : State) (w : Fin 16) (x : Watch) (q : PortId) : (s.setWatch w x).port q = s.port q := by cases q <;> rfl
@[simp] theorem mapStreams_group (s : State) (f : Fin 32 → Stream → Stream) (j : Fin 16) : (s.mapStreams f).group j = s.group j := rfl
@[simp] theorem mapStreams_mapEntry (s : State) (f : Fin 32 → Stream → Stream) (j : Fin 64) : (s.mapStreams f).mapEntry j = s.mapEntry j := rfl
@[simp] theorem mapStreams_feed (s : State) (f : Fin 32 → Stream → Stream) (j : Fin 16) : (s.mapStreams f).feed j = s.feed j := rfl
@[simp] theorem mapStreams_line (s : State) (f : Fin 32 → Stream → Stream) (j : Fin 16) : (s.mapStreams f).line j = s.line j := rfl
@[simp] theorem mapStreams_watch (s : State) (f : Fin 32 → Stream → Stream) (j : Fin 16) : (s.mapStreams f).watch j = s.watch j := rfl
@[simp] theorem mapStreams_port (s : State) (f : Fin 32 → Stream → Stream) (q : PortId) : (s.mapStreams f).port q = s.port q := by cases q <;> rfl
@[simp] theorem post_stream (s : State) (p : Post) (j : Fin 32) : (s.post p).stream j = s.stream j := rfl
@[simp] theorem post_group (s : State) (p : Post) (j : Fin 16) : (s.post p).group j = s.group j := rfl
@[simp] theorem post_mapEntry (s : State) (p : Post) (j : Fin 64) : (s.post p).mapEntry j = s.mapEntry j := rfl
@[simp] theorem post_feed (s : State) (p : Post) (j : Fin 16) : (s.post p).feed j = s.feed j := rfl
@[simp] theorem post_line (s : State) (p : Post) (j : Fin 16) : (s.post p).line j = s.line j := rfl
@[simp] theorem post_watch (s : State) (p : Post) (j : Fin 16) : (s.post p).watch j = s.watch j := rfl
@[simp] theorem post_port (s : State) (p : Post) (q : PortId) : (s.post p).port q = s.port q := by cases q <;> rfl
@[simp] theorem postAll_stream (s : State) (ps : List Post) (j : Fin 32) : (s.postAll ps).stream j = s.stream j := rfl
@[simp] theorem postAll_group (s : State) (ps : List Post) (j : Fin 16) : (s.postAll ps).group j = s.group j := rfl
@[simp] theorem postAll_mapEntry (s : State) (ps : List Post) (j : Fin 64) : (s.postAll ps).mapEntry j = s.mapEntry j := rfl
@[simp] theorem postAll_feed (s : State) (ps : List Post) (j : Fin 16) : (s.postAll ps).feed j = s.feed j := rfl
@[simp] theorem postAll_line (s : State) (ps : List Post) (j : Fin 16) : (s.postAll ps).line j = s.line j := rfl
@[simp] theorem postAll_watch (s : State) (ps : List Post) (j : Fin 16) : (s.postAll ps).watch j = s.watch j := rfl
@[simp] theorem postAll_port (s : State) (ps : List Post) (q : PortId) : (s.postAll ps).port q = s.port q := by cases q <;> rfl
@[simp] theorem answer_stream (s : State) (body : List Byte) (j : Fin 32) : (s.answer body).stream j = s.stream j := rfl
@[simp] theorem answer_group (s : State) (body : List Byte) (j : Fin 16) : (s.answer body).group j = s.group j := rfl
@[simp] theorem answer_mapEntry (s : State) (body : List Byte) (j : Fin 64) : (s.answer body).mapEntry j = s.mapEntry j := rfl
@[simp] theorem answer_feed (s : State) (body : List Byte) (j : Fin 16) : (s.answer body).feed j = s.feed j := rfl
@[simp] theorem answer_line (s : State) (body : List Byte) (j : Fin 16) : (s.answer body).line j = s.line j := rfl
@[simp] theorem answer_watch (s : State) (body : List Byte) (j : Fin 16) : (s.answer body).watch j = s.watch j := rfl
@[simp] theorem answer_port (s : State) (body : List Byte) (q : PortId) : (s.answer body).port q = s.port q := by cases q <;> rfl
@[simp] theorem withPending_stream (s : State) (q : List Instr) (j : Fin 32) : (s.withPending q).stream j = s.stream j := rfl
@[simp] theorem withPending_group (s : State) (q : List Instr) (j : Fin 16) : (s.withPending q).group j = s.group j := rfl
@[simp] theorem withPending_mapEntry (s : State) (q : List Instr) (j : Fin 64) : (s.withPending q).mapEntry j = s.mapEntry j := rfl
@[simp] theorem withPending_feed (s : State) (q : List Instr) (j : Fin 16) : (s.withPending q).feed j = s.feed j := rfl
@[simp] theorem withPending_line (s : State) (q : List Instr) (j : Fin 16) : (s.withPending q).line j = s.line j := rfl
@[simp] theorem withPending_watch (s : State) (q : List Instr) (j : Fin 16) : (s.withPending q).watch j = s.watch j := rfl
@[simp] theorem withPending_port (s : State) (w : List Instr) (q : PortId) : (s.withPending w).port q = s.port q := by cases q <;> rfl
@[simp] theorem setPort_stream (s : State) (p : PortId) (x : Port) (j : Fin 32) : (s.setPort p x).stream j = s.stream j := by cases p <;> rfl
@[simp] theorem setPort_group (s : State) (p : PortId) (x : Port) (j : Fin 16) : (s.setPort p x).group j = s.group j := by cases p <;> rfl
@[simp] theorem setPort_mapEntry (s : State) (p : PortId) (x : Port) (j : Fin 64) : (s.setPort p x).mapEntry j = s.mapEntry j := by cases p <;> rfl
@[simp] theorem setPort_feed (s : State) (p : PortId) (x : Port) (j : Fin 16) : (s.setPort p x).feed j = s.feed j := by cases p <;> rfl
@[simp] theorem setPort_line (s : State) (p : PortId) (x : Port) (j : Fin 16) : (s.setPort p x).line j = s.line j := by cases p <;> rfl
@[simp] theorem setPort_watch (s : State) (p : PortId) (x : Port) (j : Fin 16) : (s.setPort p x).watch j = s.watch j := by cases p <;> rfl
@[simp] theorem atSample_stream (s : State) (n : Fin 48) (j : Fin 32) : (s.atSample n).stream j = s.stream j := by
  unfold State.atSample; split <;> rfl
@[simp] theorem atSample_group (s : State) (n : Fin 48) (j : Fin 16) : (s.atSample n).group j = s.group j := by
  unfold State.atSample; split <;> rfl
@[simp] theorem atSample_mapEntry (s : State) (n : Fin 48) (j : Fin 64) : (s.atSample n).mapEntry j = s.mapEntry j := by
  unfold State.atSample; split <;> rfl
@[simp] theorem atSample_feed (s : State) (n : Fin 48) (j : Fin 16) : (s.atSample n).feed j = s.feed j := by
  unfold State.atSample; split <;> rfl
@[simp] theorem atSample_line (s : State) (n : Fin 48) (j : Fin 16) : (s.atSample n).line j = s.line j := by
  unfold State.atSample; split <;> rfl
@[simp] theorem atSample_watch (s : State) (n : Fin 48) (j : Fin 16) : (s.atSample n).watch j = s.watch j := by
  unfold State.atSample; split <;> rfl
@[simp] theorem atSample_port (s : State) (n : Fin 48) (q : PortId) : (s.atSample n).port q = s.port q := by
  unfold State.atSample; split <;> cases q <;> rfl

/-! ## What an update gives -/

@[simp] theorem setStream_streams (s : State) (i : Fin 32) (x : Stream) : (s.setStream i x).streams = vset s.streams i x := rfl
@[simp] theorem setGroup_groups (s : State) (g : Fin 16) (x : Group) : (s.setGroup g x).groups = vset s.groups g x := rfl
@[simp] theorem mapStreams_streams (s : State) (f : Fin 32 → Stream → Stream) : (s.mapStreams f).streams = vmap s.streams f := rfl
@[simp] theorem post_notices (s : State) (p : Post) : (s.post p).notices = s.notices.post s.clock.hbc p := rfl
@[simp] theorem postAll_notices (s : State) (ps : List Post) : (s.postAll ps).notices = s.notices.postAll s.clock.hbc ps := rfl
@[simp] theorem answer_control (s : State) (body : List Byte) : (s.answer body).control = s.control.answer body := rfl
@[simp] theorem withPending_pending (s : State) (q : List Instr) : (s.withPending q).pending = q := rfl
@[simp] theorem atSample_hbc (s : State) (n : Fin 48) : (s.atSample n).clock.hbc = s.clock.hbc := by
  unfold State.atSample; split <;> rfl

/-! ## The clock state of a stream -/

@[simp] theorem StreamClock.drop_current (c : StreamClock) : (c.drop).current = none := rfl
@[simp] theorem StreamClock.drop_transits (c : StreamClock) : (c.drop).transits = 0 := rfl
@[simp] theorem StreamClock.drop_last (c : StreamClock) : (c.drop).last = c.last := rfl
@[simp] theorem StreamClock.drop_stopped (c : StreamClock) : (c.drop).stopped = c.stopped := rfl
@[simp] theorem StreamClock.stop_current (c : StreamClock) : (c.stop).current = none := rfl
@[simp] theorem StreamClock.stop_transits (c : StreamClock) : (c.stop).transits = 0 := rfl
@[simp] theorem StreamClock.stop_last (c : StreamClock) : (c.stop).last = c.last := rfl
@[simp] theorem StreamClock.stop_stopped (c : StreamClock) : (c.stop).stopped = true := rfl
@[simp] theorem StreamClock.take_transits (c : StreamClock) (o : Word) : (c.take o).transits = c.transits + 1 := rfl
@[simp] theorem StreamClock.take_last (c : StreamClock) (o : Word) : (c.take o).last = c.last := rfl
@[simp] theorem StreamClock.take_stopped (c : StreamClock) (o : Word) : (c.take o).stopped = false := rfl
@[simp] theorem StreamClock.roll_current (c : StreamClock) : (c.roll).current = none := rfl
@[simp] theorem StreamClock.roll_transits (c : StreamClock) : (c.roll).transits = 0 := rfl
@[simp] theorem StreamClock.roll_stopped (c : StreamClock) : (c.roll).stopped = false := rfl

/-- What a window end leaves as the last minimum (R86, R96). -/
theorem StreamClock.roll_last (c : StreamClock) :
    c.roll.last = if c.current = none ∧ c.stopped = true then c.last else c.current := rfl

end Sys2Proof.Machine
end

