-- ==== Sys2Proof/Laws/Notices.lean ====
section
/-! SUPPORT. What a posting can do to the notice queue. -/

namespace Sys2Proof.Machine

/-- Everything that a posting can do, by the four cases of R185. -/
theorem post_cases (nq : NoticeQueue) (hbc : Word) (p : Post) :
    (nq.queueEnable.getLsbD p.kind.code = false ∧ nq.post hbc p = nq) ∨
    (nq.queueEnable.getLsbD p.kind.code = true ∧ (∃ e ∈ nq.entries, e.matchesPost p = true) ∧
      nq.post hbc p = { nq with entries := nq.entries.map fun n => if n.matchesPost p then n.update p hbc else n }) ∨
    (nq.queueEnable.getLsbD p.kind.code = true ∧ (∀ e ∈ nq.entries, e.matchesPost p = false) ∧ nq.entries.length < 64 ∧
      nq.post hbc p = { nq with entries := nq.entries ++
        [{ kind := p.kind, subject := p.subject, hbc := hbc, detail := word p.detail, repeats := 0 }] }) ∨
    (nq.queueEnable.getLsbD p.kind.code = true ∧ (∀ e ∈ nq.entries, e.matchesPost p = false) ∧ ¬ nq.entries.length < 64 ∧
      nq.post hbc p = { nq with lost := nq.lost + 1 }) := by
  unfold NoticeQueue.post
  by_cases h1 : nq.queueEnable.getLsbD p.kind.code = false
  · exact .inl ⟨h1, by simp [h1]⟩
  · have h1' : nq.queueEnable.getLsbD p.kind.code = true := by simpa using h1
    rw [if_neg h1]
    by_cases h2 : nq.entries.any (·.matchesPost p) = true
    · exact .inr (.inl ⟨h1', by simpa using h2, by rw [if_pos h2]⟩)
    · rw [if_neg h2]
      have h2' : ∀ e ∈ nq.entries, e.matchesPost p = false := by simpa using h2
      by_cases h3 : nq.entries.length < Config.noticeQueueSize
      · exact .inr (.inr (.inl ⟨h1', h2', h3, by rw [if_pos h3]⟩))
      · exact .inr (.inr (.inr ⟨h1', h2', h3, by rw [if_neg h3]⟩))

/-- A posting leaves the enables as they stand. -/
@[simp] theorem post_queueEnable (nq : NoticeQueue) (hbc : Word) (p : Post) : (nq.post hbc p).queueEnable = nq.queueEnable := by
  rcases post_cases nq hbc p with ⟨_, h⟩ | ⟨_, _, h⟩ | ⟨_, _, _, h⟩ | ⟨_, _, _, h⟩ <;> rw [h]

/-- A posting leaves the alert enables as they stand. -/
@[simp] theorem post_alertEnable (nq : NoticeQueue) (hbc : Word) (p : Post) : (nq.post hbc p).alertEnable = nq.alertEnable := by
  rcases post_cases nq hbc p with ⟨_, h⟩ | ⟨_, _, h⟩ | ⟨_, _, _, h⟩ | ⟨_, _, _, h⟩ <;> rw [h]

@[simp] theorem postAll_nil (nq : NoticeQueue) (hbc : Word) : nq.postAll hbc [] = nq := rfl

@[simp] theorem postAll_append (nq : NoticeQueue) (hbc : Word) (ps qs : List Post) :
    nq.postAll hbc (ps ++ qs) = (nq.postAll hbc ps).postAll hbc qs := by
  simp [NoticeQueue.postAll, List.foldl_append]

theorem postAll_cons (nq : NoticeQueue) (hbc : Word) (p : Post) (ps : List Post) :
    nq.postAll hbc (p :: ps) = (nq.post hbc p).postAll hbc ps := rfl

theorem postAll_single (nq : NoticeQueue) (hbc : Word) (p : Post) : nq.postAll hbc [p] = nq.post hbc p := rfl

/-- A posting keeps the queue in its bounds, with one entry for a kind and subject. -/
theorem post_ok {nq : NoticeQueue} (hbc : Word) (p : Post) (h : nq.Ok) : (nq.post hbc p).Ok := by
  rcases post_cases nq hbc p with ⟨_, e⟩ | ⟨_, _, e⟩ | ⟨_, hn, hl, e⟩ | ⟨_, _, _, e⟩ <;> rw [e]
  · exact h
  · refine ⟨by simpa using h.bounded, ?_⟩
    rw [List.pairwise_map]
    refine h.distinct.imp ?_
    intro a b hab
    split <;> split <;> simpa [Notice.update] using hab
  · refine ⟨by simp; omega, ?_⟩
    rw [List.pairwise_append]
    refine ⟨h.distinct, by simp, ?_⟩
    intro a ha b hb
    rcases List.mem_singleton.mp hb with rfl
    intro hk
    have := hn a ha
    simp [Notice.matchesPost, hk.1, hk.2] at this
  · exact ⟨h.bounded, h.distinct⟩

/-- Several postings keep the queue in its bounds. -/
theorem postAll_ok {nq : NoticeQueue} (hbc : Word) (ps : List Post) (h : nq.Ok) : (nq.postAll hbc ps).Ok := by
  induction ps generalizing nq with
  | nil => exact h
  | cons p ps ih => exact ih (post_ok hbc p h)

end Sys2Proof.Machine
end

