-- ==== Sys2Proof/Laws/Boundary.lean ====
section
/-! SUPPORT. What a house block boundary does to each part of the state: the group stages touch the streams, the groups and the
notice queue alone, and every later stage touches its own block and the notice queue. -/

namespace Sys2Proof.Machine

/-! ## Changes of streams, groups and notices alone -/

/-- `t` is `s` but for its streams, its groups and some postings. -/
def State.DrawChange (s t : State) : Prop :=
  ∃ ps, t = { s with streams := t.streams, groups := t.groups, notices := s.notices.postAll s.clock.hbc ps }

theorem State.DrawChange.refl (s : State) : s.DrawChange s := ⟨[], rfl⟩

theorem State.DrawChange.trans {s t u : State} (h : s.DrawChange t) (k : t.DrawChange u) : s.DrawChange u := by
  obtain ⟨ps, h⟩ := h
  obtain ⟨qs, k⟩ := k
  refine ⟨ps ++ qs, ?_⟩
  have hc : t.clock = s.clock := by rw [h]
  have hn : t.notices = s.notices.postAll s.clock.hbc ps := by rw [h]
  rw [k, h]
  simp

theorem State.DrawChange.setStream {s t : State} (h : s.DrawChange t) (i : Fin 32) (x : Stream) : s.DrawChange (t.setStream i x) :=
  h.trans ⟨[], rfl⟩

theorem State.DrawChange.setGroup {s t : State} (h : s.DrawChange t) (g : Fin 16) (x : Group) : s.DrawChange (t.setGroup g x) :=
  h.trans ⟨[], rfl⟩

theorem State.DrawChange.mapStreams {s t : State} (h : s.DrawChange t) (f : Fin 32 → Stream → Stream) :
    s.DrawChange (t.mapStreams f) :=
  h.trans ⟨[], rfl⟩

theorem State.DrawChange.postAll {s t : State} (h : s.DrawChange t) (ps : List Post) : s.DrawChange (t.postAll ps) :=
  h.trans ⟨ps, rfl⟩

theorem State.DrawChange.post {s t : State} (h : s.DrawChange t) (p : Post) : s.DrawChange (t.post p) :=
  h.trans ⟨[p], rfl⟩

theorem State.DrawChange.clock {s t : State} (h : s.DrawChange t) : t.clock = s.clock := by
  obtain ⟨ps, h⟩ := h
  rw [h]

/-! ## The group stages -/

theorem drawMember_change (ctx : DrawContext) (q : Word) (a : State × List (Fin 32 × Drawn)) (i : Fin 32) :
    a.1.DrawChange (drawMember ctx q a i).1 := by
  unfold drawMember
  dsimp only
  split
  · exact ((State.DrawChange.refl _).setStream _ _).postAll _
  · exact State.DrawChange.refl _

theorem drawMembers_change (ctx : DrawContext) (q : Word) (is : List (Fin 32)) (a : State × List (Fin 32 × Drawn)) :
    a.1.DrawChange (is.foldl (drawMember ctx q) a).1 := by
  induction is generalizing a with
  | nil => exact State.DrawChange.refl _
  | cons i is ih => exact (drawMember_change ctx q a i).trans (ih _)

theorem drawGroup_change (s : State) (g : Fin 16) : s.DrawChange (s.drawGroup g).1 := drawMembers_change _ _ _ (s, [])

theorem recentreMember_change (ctx : DrawContext) (q : Word) (adj : Int) (s : State) (i : Fin 32) :
    s.DrawChange (recentreMember ctx q adj s i) := by
  unfold recentreMember
  dsimp only
  split
  · exact ((State.DrawChange.refl _).setStream _ _).postAll _
  · exact State.DrawChange.refl _

theorem recentreMembers_change (ctx : DrawContext) (q : Word) (adj : Int) (is : List (Fin 32)) (s : State) :
    s.DrawChange (is.foldl (recentreMember ctx q adj) s) := by
  induction is generalizing s with
  | nil => exact State.DrawChange.refl _
  | cons i is ih => exact (recentreMember_change ctx q adj s i).trans (ih _)

theorem recentreGroup_change (s : State) (g : Fin 16) (x : Group) : s.DrawChange (s.recentreGroup g x) := by
  unfold State.recentreGroup
  split
  · exact State.DrawChange.refl _
  · exact ((recentreMembers_change _ _ _ _ s).setGroup _ _).post _

theorem windowEnd_change (s : State) (g : Fin 16) (n : Word) : s.DrawChange (s.windowEnd g n) := by
  unfold State.windowEnd State.mapMembers
  exact (((State.DrawChange.refl _).mapStreams _).setGroup _ _).postAll _

theorem advanceWindow_change (s : State) (g : Fin 16) : s.DrawChange (s.advanceWindow g) := by
  unfold State.advanceWindow
  dsimp only
  split
  · exact (State.DrawChange.refl _).setGroup _ _
  · split
    · exact (State.DrawChange.refl _).setGroup _ _
    · exact windowEnd_change _ _ _

theorem groupBoundary_change (s : State) (g : Fin 16) : s.DrawChange (s.groupBoundary g).1 := by
  unfold State.groupBoundary
  dsimp only
  split
  · exact ((((drawGroup_change s g).setGroup _ _).trans (recentreGroup_change _ _ _)).setGroup _ _).trans (advanceWindow_change _ _)
  · exact State.DrawChange.refl _

theorem groupsFold_change (gs : List (Fin 16)) (a : State × List (Fin 32 × Drawn)) :
    a.1.DrawChange (gs.foldl (fun a g => ((a.1.groupBoundary g).1, a.2 ++ (a.1.groupBoundary g).2)) a).1 := by
  induction gs generalizing a with
  | nil => exact State.DrawChange.refl _
  | cons g gs ih => exact (groupBoundary_change a.1 g).trans (ih _)

/-- The group stages of a boundary change streams, groups and notices alone. -/
theorem groupsBoundary_change (s : State) : s.DrawChange s.groupsBoundary.1 := groupsFold_change _ (s, [])

/-! ## Group records through the group stages -/

theorem drawMembers_group (ctx : DrawContext) (q : Word) (is : List (Fin 32)) (a : State × List (Fin 32 × Drawn)) (j : Fin 16) :
    (is.foldl (drawMember ctx q) a).1.group j = a.1.group j := by
  induction is generalizing a with
  | nil => rfl
  | cons i is ih =>
    rw [List.foldl_cons, ih]
    unfold drawMember
    dsimp only
    split <;> simp

theorem recentreMembers_group (ctx : DrawContext) (q : Word) (adj : Int) (is : List (Fin 32)) (s : State) (j : Fin 16) :
    (is.foldl (recentreMember ctx q adj) s).group j = s.group j := by
  induction is generalizing s with
  | nil => rfl
  | cons i is ih =>
    rw [List.foldl_cons, ih]
    unfold recentreMember
    dsimp only
    split <;> simp

theorem drawGroup_group (s : State) (g j : Fin 16) : (s.drawGroup g).1.group j = s.group j := drawMembers_group _ _ _ _ _

/-- Stage 3 on the record of its own group. -/
theorem recentreGroup_group_self (s : State) (g : Fin 16) (x : Group) :
    (s.recentreGroup g x).group g = match x.pending with
      | none => s.group g
      | some adj => (s.group g).applyRecentre adj := by
  unfold State.recentreGroup
  cases x.pending with
  | none => rfl
  | some adj => simp [recentreMembers_group]

theorem recentreGroup_group_ne (s : State) {g j : Fin 16} (x : Group) (h : j ≠ g) : (s.recentreGroup g x).group j = s.group j := by
  unfold State.recentreGroup
  cases x.pending with
  | none => rfl
  | some adj => simp [setGroup_group_ne _ _ h, recentreMembers_group]

theorem mapMembers_group (s : State) (g j : Fin 16) (f : Stream → Stream) : (s.mapMembers g f).group j = s.group j := rfl

/-- Stage 5 on the record of its own group, the member minima being those that the earlier stages left. -/
theorem advanceWindow_group_self (s : State) (g : Fin 16) :
    (s.advanceWindow g).group g = match (s.group g).window with
      | none => { s.group g with window := some (0, 0) }
      | some (n, k) =>
        if k + 1 < 1000 then { s.group g with window := some (n, k + 1) }
        else (s.group g).windowEnd n (s.memberMinima g) := by
  unfold State.advanceWindow
  cases hw : (s.group g).window with
  | none => simp [hw]
  | some w =>
    obtain ⟨n, k⟩ := w
    by_cases hk : k + 1 < 1000
    · simp [hw, hk, Config.windowBlocks]
    · simp [hw, hk, Config.windowBlocks, State.windowEnd]

theorem advanceWindow_group_ne (s : State) {g j : Fin 16} (h : j ≠ g) : (s.advanceWindow g).group j = s.group j := by
  unfold State.advanceWindow
  dsimp only
  split
  · exact setGroup_group_ne _ _ h
  · split
    · exact setGroup_group_ne _ _ h
    · simp [State.windowEnd, setGroup_group_ne _ _ h, mapMembers_group]

/-- The record of a group after stages 1, 3 and 4 of a boundary (R54). -/
def Group.afterStage4 (g : Group) : Group :=
  Group.applySlip (match g.pending with
    | none => g.slipDecision.1
    | some adj => g.slipDecision.1.applyRecentre adj) g.slipDecision.2

/-- The record of a group after all stages of a boundary, on the member minima that stage 5 reads (R54, R55). -/
def Group.afterBoundary (g : Group) (mins : List (Fin 32 × Option Word)) : Group :=
  match g.afterStage4.window with
  | none => { g.afterStage4 with window := some (0, 0) }
  | some (n, k) => if k + 1 < 1000 then { g.afterStage4 with window := some (n, k + 1) } else g.afterStage4.windowEnd n mins

/-- The boundary work of a group on its own record. -/
theorem groupBoundary_group_self (s : State) (g : Fin 16) (h : (s.group g).anchored = true) :
    ∃ mins, (s.groupBoundary g).1.group g = (s.group g).afterBoundary mins := by
  unfold State.groupBoundary
  simp only [h, if_true]
  rw [advanceWindow_group_self]
  simp only [setGroup_group_self, recentreGroup_group_self]
  exact ⟨_, rfl⟩

theorem groupBoundary_group_unanchored (s : State) (g : Fin 16) (h : (s.group g).anchored = false) : s.groupBoundary g = (s, []) := by
  simp [State.groupBoundary, h]

theorem groupBoundary_group_ne (s : State) {g j : Fin 16} (h : j ≠ g) : (s.groupBoundary g).1.group j = s.group j := by
  unfold State.groupBoundary
  dsimp only
  split
  · rw [advanceWindow_group_ne _ h, setGroup_group_ne _ _ h, recentreGroup_group_ne _ _ h, setGroup_group_ne _ _ h, drawGroup_group]
  · rfl

theorem groupsFold_group_notin (gs : List (Fin 16)) (a : State × List (Fin 32 × Drawn)) (j : Fin 16) (h : j ∉ gs) :
    (gs.foldl (fun a g => ((a.1.groupBoundary g).1, a.2 ++ (a.1.groupBoundary g).2)) a).1.group j = a.1.group j := by
  induction gs generalizing a with
  | nil => rfl
  | cons g gs ih =>
    simp only [List.mem_cons, not_or] at h
    rw [List.foldl_cons, ih _ h.2]
    exact groupBoundary_group_ne _ h.1

theorem groupsFold_group (gs : List (Fin 16)) (hd : gs.Nodup) (a : State × List (Fin 32 × Drawn)) (j : Fin 16) (hj : j ∈ gs) :
    ∃ b : State, b.group j = a.1.group j ∧ a.1.DrawChange b ∧
      (gs.foldl (fun a g => ((a.1.groupBoundary g).1, a.2 ++ (a.1.groupBoundary g).2)) a).1.group j = (b.groupBoundary j).1.group j := by
  induction gs generalizing a with
  | nil => simp at hj
  | cons g gs ih =>
    rw [List.nodup_cons] at hd
    rw [List.foldl_cons]
    by_cases e : j = g
    · subst e
      exact ⟨a.1, rfl, State.DrawChange.refl _, groupsFold_group_notin _ _ _ hd.1⟩
    · have hj' : j ∈ gs := by simpa [e] using hj
      obtain ⟨b, hb, hc, hr⟩ := ih hd.2 ((a.1.groupBoundary g).1, a.2 ++ (a.1.groupBoundary g).2) hj'
      exact ⟨b, by rw [hb]; exact groupBoundary_group_ne _ e, (groupBoundary_change a.1 g).trans hc, hr⟩

/-- The record of an ANCHORED group after the group stages of a boundary. -/
theorem groupsBoundary_group (s : State) (g : Fin 16) (h : (s.group g).anchored = true) :
    ∃ mins, s.groupsBoundary.1.group g = (s.group g).afterBoundary mins := by
  obtain ⟨b, hb, -, hr⟩ := groupsFold_group (List.finRange 16) (List.nodup_finRange 16) (s, []) g (List.mem_finRange g)
  obtain ⟨mins, hm⟩ := groupBoundary_group_self b g (by rw [hb]; exact h)
  refine ⟨mins, ?_⟩
  rw [hb] at hm
  exact hr.trans hm

/-- An UNANCHORED group does no boundary work. -/
theorem groupsBoundary_group_unanchored (s : State) (g : Fin 16) (h : (s.group g).anchored = false) :
    s.groupsBoundary.1.group g = s.group g := by
  obtain ⟨b, hb, -, hr⟩ := groupsFold_group (List.finRange 16) (List.nodup_finRange 16) (s, []) g (List.mem_finRange g)
  refine hr.trans ?_
  rw [groupBoundary_group_unanchored b g (by rw [hb]; exact h)]
  exact hb

/-! ## The whole boundary, block by block -/

/-- The state of a boundary just before its group stages: the clock has advanced and the inputs are taken. -/
def State.beforeDraws (s : State) (inp : BoundaryInput) : State := s.clockBoundary.takeInputs inp

/-- The draws that a boundary makes. -/
def State.drawsAt (s : State) (inp : BoundaryInput) : List (Fin 32 × Drawn) := (s.beforeDraws inp).groupsBoundary.2

/-- The mixes of a boundary. -/
def State.mixesAt (s : State) (inp : BoundaryInput) : Vector (List (List Sample)) 16 :=
  s.returns.mixes (captureInput inp.tdm) inp.sigIn

/-- What the output block of a boundary is made of. -/
def State.audioAt (s : State) (inp : BoundaryInput) : BoundaryAudio := { draws := s.drawsAt inp, mixes := s.mixesAt inp }

section Projections

variable (s : State) (inp : BoundaryInput)

theorem beforeDraws_eq : s.beforeDraws inp =
    { s with
      clock := s.clock.judge.1.advance
      signals := s.signals.sample inp.sigIn
      output := { s.output with galleryIn := captureInput inp.tdm }
      notices := s.notices.postAll s.clock.judge.1.advance.hbc (s.clock.judge.2 ++ s.signals.changePosts inp.sigIn) } := by
  simp [State.beforeDraws, State.takeInputs, State.clockBoundary, State.postAll]

theorem boundary_eq : s.boundary inp =
    (((((((s.beforeDraws inp).groupsBoundary).1.watchPaths (s.beforeDraws inp)).formOutput (s.audioAt inp)).mixReturns).lineBoundary
      (s.audioAt inp)).meterBoundary (s.mixesAt inp)) := rfl

theorem drawn_eq : ∃ ps, (s.beforeDraws inp).groupsBoundary.1 =
    { s.beforeDraws inp with
      streams := (s.beforeDraws inp).groupsBoundary.1.streams
      groups := (s.beforeDraws inp).groupsBoundary.1.groups
      notices := (s.beforeDraws inp).notices.postAll (s.beforeDraws inp).clock.hbc ps } := groupsBoundary_change _

theorem judge_hbc (c : HouseClock) : c.judge.1.hbc = c.hbc := by
  unfold HouseClock.judge
  cases c.ref <;> cases c.judgement <;> first | rfl | (dsimp only; split <;> rfl)

/-- The notices of the path watches at a boundary. -/
def State.watchPostsAt : List Post :=
  ((vmap (s.beforeDraws inp).groupsBoundary.1.streams fun i x => Stream.watchPosts (s.stream i) x i).toList).flatten

/-- The Meter Unit's work at a boundary. -/
def State.metersAt : MeterUnit × List Post :=
  s.meters.boundary (s.clock.hbc + 1) (meterBlocks (s.output.boundary (s.audioAt inp)).1.tdmOut (s.mixesAt inp))

/-- A boundary, with every block's record after it and the notices in their order, those of the group stages being `qs`. -/
theorem boundary_parts : ∃ qs, s.boundary inp =
    { s with
      clock := s.clock.judge.1.advance
      streams := (s.boundary inp).streams
      groups := (s.beforeDraws inp).groupsBoundary.1.groups
      output := { (s.output.boundary (s.audioAt inp)).1 with galleryIn := captureInput inp.tdm }
      returns := s.returns.boundary (s.clock.hbc + 1) (captureInput inp.tdm) inp.sigIn (s.portA.state == .up) (s.portB.state == .up)
      signals := (s.boundary inp).signals
      meters := (s.metersAt inp).1
      notices := s.notices.postAll (s.clock.hbc + 1) (s.clock.judge.2 ++ s.signals.changePosts inp.sigIn ++ qs ++
        s.watchPostsAt inp ++ (s.output.boundary (s.audioAt inp)).2 ++ (s.metersAt inp).2) } := by
  have hb := beforeDraws_eq s inp
  obtain ⟨qs, hd⟩ := drawn_eq s inp
  have hh : s.clock.judge.1.advance.hbc = s.clock.hbc + 1 := by simp [HouseClock.advance, judge_hbc]
  have ho : ∀ a : BoundaryAudio, ((s.beforeDraws inp).groupsBoundary.1.output.boundary a) =
      ({ (s.output.boundary a).1 with galleryIn := captureInput inp.tdm }, (s.output.boundary a).2) := by
    intro a
    rw [hd, hb]
    rfl
  have hs : ∀ i, (s.beforeDraws inp).stream i = s.stream i := fun i => by rw [hb]; rfl
  refine ⟨qs, ?_⟩
  have hw : ∀ d : State, d.watchPaths (s.beforeDraws inp) =
      { d with
        streams := vmap d.streams fun i x => Stream.watchBoundary ((s.beforeDraws inp).stream i) x
        notices := d.notices.postAll d.clock.hbc
          ((vmap d.streams fun i x => Stream.watchPosts ((s.beforeDraws inp).stream i) x i).toList).flatten } := fun _ => rfl
  rw [boundary_eq, hw]
  simp only [State.formOutput, State.mixReturns, State.lineBoundary, State.meterBoundary, State.postAll]
  rw [ho]
  have hclock : (s.beforeDraws inp).groupsBoundary.1.clock = s.clock.judge.1.advance := by rw [hd, hb]
  have hnot : (s.beforeDraws inp).groupsBoundary.1.notices =
      (s.notices.postAll (s.clock.hbc + 1) (s.clock.judge.2 ++ s.signals.changePosts inp.sigIn)).postAll (s.clock.hbc + 1) qs := by
    rw [hd, hb]; simp [hh]
  have hret : (s.beforeDraws inp).groupsBoundary.1.returns = s.returns := by rw [hd, hb]
  have hsig : (s.beforeDraws inp).groupsBoundary.1.signals = s.signals.sample inp.sigIn := by rw [hd, hb]
  have hmet : (s.beforeDraws inp).groupsBoundary.1.meters = s.meters := by rw [hd, hb]
  have hpa : (s.beforeDraws inp).groupsBoundary.1.portA = s.portA := by rw [hd, hb]
  have hpb : (s.beforeDraws inp).groupsBoundary.1.portB = s.portB := by rw [hd, hb]
  have hrest : (s.beforeDraws inp).groupsBoundary.1.resetLow = s.resetLow ∧ (s.beforeDraws inp).groupsBoundary.1.flows = s.flows ∧
      (s.beforeDraws inp).groupsBoundary.1.slotsInUse = s.slotsInUse ∧ (s.beforeDraws inp).groupsBoundary.1.control = s.control ∧
      (s.beforeDraws inp).groupsBoundary.1.pending = s.pending := by
    rw [hd, hb]; exact ⟨rfl, rfl, rfl, rfl, rfl⟩
  simp only [hclock, hnot, hret, hsig, hmet, hpa, hpb, hh, hrest.1, hrest.2.1, hrest.2.2.1, hrest.2.2.2.1, hrest.2.2.2.2,
    postAll_append, SignalRouter.sample, State.watchPostsAt, State.metersAt, hs]

theorem boundary_streams : (s.boundary inp).streams =
    ((s.beforeDraws inp).groupsBoundary.1.watchPaths (s.beforeDraws inp)).streams := by
  rw [boundary_eq]
  simp only [State.meterBoundary, State.lineBoundary, State.mixReturns, State.formOutput, State.postAll]

/-- A stream's record after a boundary: the group stages, then its path watches. -/
theorem boundary_stream (i : Fin 32) : (s.boundary inp).stream i =
    Stream.watchBoundary (s.stream i) ((s.beforeDraws inp).groupsBoundary.1.stream i) := by
  have hs : (s.beforeDraws inp).stream i = s.stream i := by rw [beforeDraws_eq]; rfl
  unfold State.stream at hs ⊢
  rw [boundary_streams, ← hs]
  simp [State.watchPaths, State.mapStreams, State.postAll, State.stream]

theorem boundary_groups : (s.boundary inp).groups = (s.beforeDraws inp).groupsBoundary.1.groups := by
  rw [boundary_eq]
  simp only [State.meterBoundary, State.lineBoundary, State.mixReturns, State.formOutput, State.postAll, State.watchPaths,
    State.mapStreams]

/-- A group's record after a boundary: the group stages on it. -/
theorem boundary_group (g : Fin 16) : (s.boundary inp).group g = (s.beforeDraws inp).groupsBoundary.1.group g := by
  unfold State.group
  rw [boundary_groups]

/-- An ANCHORED group's record after a boundary. -/
theorem boundary_group_anchored (g : Fin 16) (h : (s.group g).anchored = true) :
    ∃ mins, (s.boundary inp).group g = (s.group g).afterBoundary mins := by
  have hg : (s.beforeDraws inp).group g = s.group g := by rw [beforeDraws_eq]; rfl
  rw [boundary_group, ← hg]
  exact groupsBoundary_group _ g (by rw [hg]; exact h)

/-- An UNANCHORED group's record after a boundary. -/
theorem boundary_group_unanchored (g : Fin 16) (h : (s.group g).anchored = false) : (s.boundary inp).group g = s.group g := by
  have hg : (s.beforeDraws inp).group g = s.group g := by rw [beforeDraws_eq]; rfl
  rw [boundary_group, ← hg]
  exact groupsBoundary_group_unanchored _ g (by rw [hg]; exact h)

/-- The Signal Router after a boundary. -/
theorem boundary_signals : (s.boundary inp).signals =
    (s.signals.sample inp.sigIn).lineBoundary (fun i => ((s.audioAt inp).drawOf i).map (·.first))
      (fun i => ((s.boundary inp).stream i).state) := by
  have hb := beforeDraws_eq s inp
  obtain ⟨qs, hd⟩ := drawn_eq s inp
  have hsig : (s.beforeDraws inp).groupsBoundary.1.signals = s.signals.sample inp.sigIn := by rw [hd, hb]
  unfold State.stream
  rw [boundary_streams, boundary_eq, ← hsig]
  simp only [State.meterBoundary, State.lineBoundary, State.mixReturns, State.formOutput, State.postAll, State.watchPaths,
    State.mapStreams, State.stream]

end Projections

end Sys2Proof.Machine
end

