-- ==== Sys2Proof/Laws/Bytes.lean ====
section
/-! SUPPORT. Numbers as big-endian bytes, and the fields of a body read back. -/

namespace Sys2Proof.Machine

theorem byteOf_toNat (n : Nat) : (byteOf n).toNat = n % 256 := by simp [byteOf]

@[simp] theorem byteOf_toNat_lt {n : Nat} (h : n < 256) : (byteOf n).toNat = n := by simp [byteOf_toNat, Nat.mod_eq_of_lt h]

@[simp] theorem be16_length (n : Nat) : (be16 n).length = 2 := rfl

@[simp] theorem be32_length (n : Nat) : (be32 n).length = 4 := rfl

@[simp] theorem beWord_length (w : Word) : (beWord w).length = 4 := rfl

/-- Two big-endian bytes spell the number they are made from. -/
theorem beNat_be16 {n : Nat} (h : n < 65536) : beNat (be16 n) = n := by
  simp only [beNat, be16, List.foldl_cons, List.foldl_nil, byteOf_toNat]
  omega

/-- Four big-endian bytes spell the number they are made from. -/
theorem beNat_be32 {n : Nat} (h : n < 4294967296) : beNat (be32 n) = n := by
  simp only [beNat, be32, List.foldl_cons, List.foldl_nil, byteOf_toNat]
  omega

/-- A two-byte field that stands after a prefix. -/
theorem field2_append (pre post : List Byte) {n : Nat} (h : n < 65536) : field2 (pre ++ be16 n ++ post) pre.length = n := by
  have e : List.take 2 (be16 n ++ post) = be16 n := rfl
  simp [field2, e, beNat_be16 h]

/-- A four-byte field that stands after a prefix. -/
theorem field4_append (pre post : List Byte) {n : Nat} (h : n < 4294967296) : field4 (pre ++ be32 n ++ post) pre.length = n := by
  have e : List.take 4 (be32 n ++ post) = be32 n := rfl
  simp [field4, e, beNat_be32 h]

end Sys2Proof.Machine
end

