-- ==== Sys2Proof/Laws/Control.lean ====
section
/-! SUPPORT. What the taking of a request, the transmitter and the receiver can do. -/

namespace Sys2Proof.Machine

/-- The transmitter's start changes nothing but the BUSY replies that wait and the reply in transmission. -/
theorem startReply_frame (c : ControlLine) : c.startReply = { c with busy := c.startReply.busy, sending := c.startReply.sending } := by
  unfold ControlLine.startReply
  split <;> try rfl
  split <;> try rfl
  split <;> try rfl
  split <;> rfl

/-- The request that `State.Next` names is the one that the part takes next. -/
theorem next_of_Next {s : State} {kind : Byte} {body : List Byte} (h : s.Next kind body) :
    ∃ r, s.control.next = some r ∧ r.kind = kind ∧ r.body = body := by
  obtain ⟨h0, taken, r, rest, hq, ht, hr, hk, hb⟩ := h
  refine ⟨r, ?_, hk, hb⟩
  have hn : taken.find? (fun q => q.reply.isNone) = none := by
    simp only [List.find?_eq_none]
    intro q hq'
    have := ht q hq'
    cases hx : q.reply <;> simp_all
  simp [ControlLine.next, h0, hq, hn, hr]

/-- The taking of a request of a kind whose body has the length that its kind must carry. -/
theorem take_of_Next {s : State} {kind : Byte} {body : List Byte} (serve : State → List Byte → Served) (h : s.Next kind body)
    (hl : bodyLength kind = some body.length) : s.take kind serve = s.conclude (serve s body) := by
  obtain ⟨r, hn, hk, hb⟩ := next_of_Next h
  subst hk; subst hb
  simp [State.take, hn, hl]

/-- Everything that the taking of a request can do: nothing when it is not due, a BAD_LENGTH, a refusal, or its effects. -/
theorem take_cases (s : State) (kind : Byte) (serve : State → List Byte → Served) :
    s.take kind serve = s ∨ (∃ body, s.take kind serve = s.answer body) ∨
      ∃ r t data, s.control.next = some r ∧ r.kind = kind ∧ bodyLength kind = some r.body.length ∧ serve s r.body = .ok (t, data) ∧
        s.take kind serve = t.answer (0 :: data) := by
  rcases hn : s.control.next with _ | r
  · left; simp [State.take, hn]
  by_cases hk : r.kind = kind
  · by_cases hl : bodyLength kind = some r.body.length
    · have e : s.take kind serve = s.conclude (serve s r.body) := by simp [State.take, hn, hk, hl]
      rcases hs : serve s r.body with st | p
      · exact .inr (.inl ⟨[st.code], by rw [e, hs]; rfl⟩)
      · exact .inr (.inr ⟨r, p.1, p.2, rfl, hk, hl, hs, by rw [e, hs]; rfl⟩)
    · exact .inr (.inl ⟨[Status.badLength.code], by simp [State.take, hn, hk, hl]⟩)
  · left; simp [State.take, hn, hk]

end Sys2Proof.Machine
end

