-- ==== Sys2Proof/WellFormed.lean ====
section
/-! DEFINITION. Which commands the hardware can be given: the operands have the shapes that the pins and lines give them. -/

namespace Sys2Proof

/-- The gallery TDM input carries 48 frames of 32 slots in a house block (R122). -/
def BoundaryInput.wf (inp : BoundaryInput) : Bool :=
  inp.tdm.length == Config.blockSamples && inp.tdm.all (fun f => f.length == 32)

/-- A command's operands have the shapes that the hardware can present. -/
def Instr.wf : Instr → Bool
  | .houseBlockBoundary inp | .houseRefLocked inp | .commitApply inp | .meterPeriodEnd inp => inp.wf
  | .slip _ inp | .recentre _ inp | .windowEnd _ inp | .returnPacketBuild _ inp => inp.wf
  | .pathSilent _ _ inp => inp.wf
  | .powerOn .. | .resetnFall | .resetnRelease .. | .hrefEdge .. | .carrierArrival .. | .carrierLoss .. | .warmUpExpiry .. | .packetArrival ..
  | .requestArrival .. | .frameCheckFail .. | .frameOverLength .. | .frameStopBitError .. | .interByteTimeout ..
  | .replySent | .badKind | .identify | .reset | .clockQuery .. | .noticeFetch | .noticeEnable | .portEnable ..
  | .portDisable | .portBudget | .portQuery .. | .streamOpen | .streamStart | .streamStop | .streamClose | .streamRepair
  | .streamQuery | .streamClock | .groupSet | .groupQuery | .groupClock | .groupRecentre | .mapSet | .mapCommit
  | .mapDiscard | .mapQuery | .returnSet | .returnCoef | .returnStart | .returnStop | .returnQuery | .signalSet
  | .signalOverride | .signalQuery | .siginMask | .meterSet | .meterRead | .watchSet | .watchQuery | .testQuery => true

end Sys2Proof
end

