-- ==== Sys2Proof/Laws/PerInstr.lean ====
section
/-! SUPPORT. Statements for every command, made command by command. -/

namespace Sys2Proof.Laws.OperandsBounded

/-- What the pins hold, of a command that carries it. -/
def inputOf : Instr → Option BoundaryInput
  | .houseBlockBoundary inp | .houseRefLocked inp | .commitApply inp | .meterPeriodEnd inp => some inp
  | .slip _ inp | .recentre _ inp | .windowEnd _ inp | .returnPacketBuild _ inp => some inp
  | .pathSilent _ _ inp => some inp
  | _ => none

/-- The shape of a gallery TDM input block (R122): 48 frames of 32 slots. -/
def Shaped (inp : BoundaryInput) : Prop := inp.tdm.length = 48 ∧ ∀ f ∈ inp.tdm, f.length = 32

/-- A command is well formed exactly when what the pins hold, if it carries that, has the shape that the bus gives it. -/
def Statement (i : Instr) : Prop := i.wf = true ↔ ∀ inp, inputOf i = some inp → Shaped inp

theorem shaped_iff (inp : BoundaryInput) : inp.wf = true ↔ Shaped inp := by
  simp [BoundaryInput.wf, Shaped]

theorem of_input {i : Instr} {inp : BoundaryInput} (hi : inputOf i = some inp) (hw : i.wf = inp.wf) : Statement i := by
  simp [Statement, hi, hw, shaped_iff]

theorem of_none {i : Instr} (hi : inputOf i = none) (hw : i.wf = true) : Statement i := by
  simp [Statement, hi, hw]

theorem powerOn (strap : Bool) (carrierA : Bool) (carrierB : Bool) : Statement (.powerOn strap carrierA carrierB) := of_none rfl rfl
theorem resetnFall : Statement (.resetnFall) := of_none rfl rfl
theorem resetnRelease (strap : Bool) : Statement (.resetnRelease strap) := of_none rfl rfl
theorem hrefEdge (sample : Fin 48) : Statement (.hrefEdge sample) := of_none rfl rfl
theorem houseBlockBoundary (inp : BoundaryInput) : Statement (.houseBlockBoundary inp) := of_input rfl rfl
theorem houseRefLocked (inp : BoundaryInput) : Statement (.houseRefLocked inp) := of_input rfl rfl
theorem carrierArrival (port : PortId) : Statement (.carrierArrival port) := of_none rfl rfl
theorem carrierLoss (port : PortId) : Statement (.carrierLoss port) := of_none rfl rfl
theorem warmUpExpiry (port : PortId) : Statement (.warmUpExpiry port) := of_none rfl rfl
theorem packetArrival (port : PortId) (sample : Fin 48) (datagram : List Byte) : Statement (.packetArrival port sample datagram) := of_none rfl rfl
theorem slip (group : Fin 16) (inp : BoundaryInput) : Statement (.slip group inp) := of_input rfl rfl
theorem recentre (group : Fin 16) (inp : BoundaryInput) : Statement (.recentre group inp) := of_input rfl rfl
theorem windowEnd (group : Fin 16) (inp : BoundaryInput) : Statement (.windowEnd group inp) := of_input rfl rfl
theorem pathSilent (stream : Fin 32) (path : PathId) (inp : BoundaryInput) : Statement (.pathSilent stream path inp) := of_input rfl rfl
theorem commitApply (inp : BoundaryInput) : Statement (.commitApply inp) := of_input rfl rfl
theorem returnPacketBuild (feed : Fin 16) (inp : BoundaryInput) : Statement (.returnPacketBuild feed inp) := of_input rfl rfl
theorem meterPeriodEnd (inp : BoundaryInput) : Statement (.meterPeriodEnd inp) := of_input rfl rfl
theorem requestArrival (bytes : List Byte) : Statement (.requestArrival bytes) := of_none rfl rfl
theorem frameCheckFail (bytes : List Byte) : Statement (.frameCheckFail bytes) := of_none rfl rfl
theorem frameOverLength (bytes : List Byte) : Statement (.frameOverLength bytes) := of_none rfl rfl
theorem frameStopBitError (bytes : List Byte) : Statement (.frameStopBitError bytes) := of_none rfl rfl
theorem interByteTimeout (bytes : List Byte) : Statement (.interByteTimeout bytes) := of_none rfl rfl
theorem replySent : Statement (.replySent) := of_none rfl rfl
theorem badKind : Statement (.badKind) := of_none rfl rfl
theorem identify : Statement (.identify) := of_none rfl rfl
theorem reset : Statement (.reset) := of_none rfl rfl
theorem clockQuery (sample : Fin 48) : Statement (.clockQuery sample) := of_none rfl rfl
theorem noticeFetch : Statement (.noticeFetch) := of_none rfl rfl
theorem noticeEnable : Statement (.noticeEnable) := of_none rfl rfl
theorem portEnable (sample : Fin 48) : Statement (.portEnable sample) := of_none rfl rfl
theorem portDisable : Statement (.portDisable) := of_none rfl rfl
theorem portBudget : Statement (.portBudget) := of_none rfl rfl
theorem portQuery (sample : Fin 48) : Statement (.portQuery sample) := of_none rfl rfl
theorem streamOpen : Statement (.streamOpen) := of_none rfl rfl
theorem streamStart : Statement (.streamStart) := of_none rfl rfl
theorem streamStop : Statement (.streamStop) := of_none rfl rfl
theorem streamClose : Statement (.streamClose) := of_none rfl rfl
theorem streamRepair : Statement (.streamRepair) := of_none rfl rfl
theorem streamQuery : Statement (.streamQuery) := of_none rfl rfl
theorem streamClock : Statement (.streamClock) := of_none rfl rfl
theorem groupSet : Statement (.groupSet) := of_none rfl rfl
theorem groupQuery : Statement (.groupQuery) := of_none rfl rfl
theorem groupClock : Statement (.groupClock) := of_none rfl rfl
theorem groupRecentre : Statement (.groupRecentre) := of_none rfl rfl
theorem mapSet : Statement (.mapSet) := of_none rfl rfl
theorem mapCommit : Statement (.mapCommit) := of_none rfl rfl
theorem mapDiscard : Statement (.mapDiscard) := of_none rfl rfl
theorem mapQuery : Statement (.mapQuery) := of_none rfl rfl
theorem returnSet : Statement (.returnSet) := of_none rfl rfl
theorem returnCoef : Statement (.returnCoef) := of_none rfl rfl
theorem returnStart : Statement (.returnStart) := of_none rfl rfl
theorem returnStop : Statement (.returnStop) := of_none rfl rfl
theorem returnQuery : Statement (.returnQuery) := of_none rfl rfl
theorem signalSet : Statement (.signalSet) := of_none rfl rfl
theorem signalOverride : Statement (.signalOverride) := of_none rfl rfl
theorem signalQuery : Statement (.signalQuery) := of_none rfl rfl
theorem siginMask : Statement (.siginMask) := of_none rfl rfl
theorem meterSet : Statement (.meterSet) := of_none rfl rfl
theorem meterRead : Statement (.meterRead) := of_none rfl rfl
theorem watchSet : Statement (.watchSet) := of_none rfl rfl
theorem watchQuery : Statement (.watchQuery) := of_none rfl rfl
theorem testQuery : Statement (.testQuery) := of_none rfl rfl

end Sys2Proof.Laws.OperandsBounded
end

