-- ==== Sys2Proof/Tests/Slice0.lean ====
section
/-! SUPPORT. Tests: the worked figures of the spec, and for each statement with hypotheses a state and operands that meet them. -/

namespace Sys2Proof.Tests

open Sys2Proof.Machine

/-! ## Well-formedness -/

/-- An input block of silence with every SIG_IN low. -/
def quiet : BoundaryInput := { sigIn := 0, tdm := List.replicate 48 (List.replicate 32 0) }

theorem test_wf_quiet : (Instr.houseBlockBoundary quiet).wf = true := by decide +kernel

/-- 47 frames in place of 48 (R122). -/
theorem test_wf_short_block : (Instr.slip 0 { quiet with tdm := List.replicate 47 (List.replicate 32 0) }).wf = false := by decide +kernel

/-- A frame of 31 slots in place of 32 (R122). -/
theorem test_wf_short_frame :
    (Instr.commitApply { quiet with tdm := List.replicate 48 (List.replicate 31 0) }).wf = false := by decide +kernel

/-! ## Figures of the spec -/

/-- R4: the check of "123456789". -/
theorem test_crc : crc16 [0x31, 0x32, 0x33, 0x34, 0x35, 0x36, 0x37, 0x38, 0x39] = 0x29B1 := by decide +kernel

/-- The conversions of the example "reading one packet" and of R6. -/
theorem test_conversions :
    (convertSample .l16 [0xFF, 0xFF]).toInt = -256 ∧ (convertSample .l16 [0x7F, 0xFF]).toInt = 8388352 ∧
    (convertSample .l24 [0x80, 0, 0]).toInt = -8388608 ∧ (convertSample .l24 [0x7F, 0xFF, 0xFF]).toInt = 8388607 ∧
    (convertSample .l32 [0x7F, 0xFF, 0xFF, 0xFF]).toInt = 8388607 ∧ (convertSample .l32 [0xFF, 0xFF, 0xFF, 0x80]).toInt = -1 ∧
    (convertSample .l32 [0, 0, 1, 0x80]).toInt = 1 ∧ (convertSample .l32 [0xFF, 0xFF, 0xFE, 0xFF]).toInt = -2 := by decide +kernel

/-- R30 and the return example of 08: the loads. -/
theorem test_loads :
    flowLoad 1 2 .l24 = 2960 ∧ flowLoad 1 8 .l24 = 9872 ∧ flowLoad 2 2 .l24 = 2632 ∧ flowLoad 1 7 .l32 = 11408 ∧
    flowLoad 2 1 .l16 = 1096 := by decide +kernel

/-- R58: the adjustments of a recentre. -/
theorem test_recentre_adjustments :
    recentreAdj 250 = 240 ∧ recentreAdj (-216) = -240 ∧ recentreAdj 24 = 48 ∧ recentreAdj 23 = 0 := by decide +kernel

/-- R90: the drift figures. -/
theorem test_drift :
    smoothDrift 200 (some 1) = 207 ∧ smoothDrift 0 (some 1) = 32 ∧ smoothDrift (-100) (some (-2)) = -151 ∧
    smoothDrift 207 (some 0) = 182 ∧ smoothDrift 260 (some 1) = 260 ∧ smoothDrift 207 (some 18) = 207 := by decide +kernel

/-- The example "four window ends": C, the direction and the interval of windows 41, 42 and 44. -/
theorem test_correction :
    correctionRate 207 (some 9) = -81 ∧ slipDirOf (-81) = .dropping ∧ slipIntervalOf (-81) = some 3160 ∧
    correctionRate 207 (some 8) = -49 ∧ slipIntervalOf (-49) = some 5224 ∧ correctionRate 207 (some 5) = 47 ∧
    slipDirOf 47 = .repeating ∧ slipIntervalOf 47 = some 5446 ∧ correctionRate 207 (some 250) = -113 := by decide +kernel

/-- R98: the first eight slip positions after an anchor. -/
theorem test_slip_positions :
    ((List.range 8).map fun n => slipPosition (advanceSlip^[n + 1] slipSeed)) = [4, 7, 13, 25, 3, 35, 6, 11] := by decide +kernel

/-- R126: the tone. -/
theorem test_tone :
    [0, 4, 8, 12, 24, 28, 36].map (toneSample 0) = [0, 528036, 914585, 1056072, 0, -528036, -1056072] ∧
    [0, 4, 8, 12, 24, 28, 36].map (toneSample 1) = [0, 419431, 726475, 838861, 0, -419431, -838861] := by decide +kernel

/-- The commit example of 07: a ramp from 16,384 to 8,192. -/
theorem test_ramp :
    [0, 23, 47].map (committedGain { MapCopy.reset with gain := 16384 } { MapCopy.reset with gain := 8192 }) = [16214, 12288, 8192] ∧
    gainedSample (sampleOf 1000000) 12288 = 750000 := by decide +kernel

/-- R171: from the state 1 the first samples are 4, 8 and 16, and the 18th is 524,290. -/
theorem test_sequence :
    ((testSamples 18 1).2.map BitVec.toInt).take 3 = [4, 8, 16] ∧ ((testSamples 18 1).2.map BitVec.toInt).drop 17 = [524290] := by decide +kernel

/-- The example "posting, coalescing and fetching" of 11, to the PORT_DOWN: the queue, and ALERT_N low. -/
theorem test_notices :
    let q := ((((NoticeQueue.reset.post 1000 ⟨.pathSilent, 14, 110⟩).post 1010 ⟨.streamOutage, 7, 50⟩).post 1012
      ⟨.outputClip, 9, 1⟩).post 1020 ⟨.outputClip, 9, 3⟩).post 1030 ⟨.portDown, 1, 1⟩
    q.entries.map (fun n => (n.kind, n.subject, n.hbc, n.repeats)) =
      [(.pathSilent, 14, 1000, 0), (.streamOutage, 7, 1010, 0), (.outputClip, 9, 1020, 1), (.portDown, 1, 1030, 0)] ∧
    q.alertN = false ∧ (q.fetched 3).map (·.kind) = [.streamOutage, .portDown, .pathSilent] ∧ (q.afterFetch 3).alertN = true := by
  decide +kernel

/-! ## Witnesses: the machine, its resets and the control line -/

/-- A state with one request, not yet taken, in an idle control line. -/
def asked (s : State) (kind : Byte) (body : List Byte) : State :=
  { s with control := { ControlLine.reset false with queue := [{ kind := kind, tag := 7, body := body, reply := none }] } }

theorem asked_next (s : State) (kind : Byte) (body : List Byte) : (asked s kind body).Next kind body :=
  ⟨rfl, [], _, [], rfl, by simp, rfl, rfl, rfl⟩

/-- The request asked of the part right after power-on. -/
theorem reset_asked (kind : Byte) (body : List Byte) : ∃ s : State, s.Next kind body := ⟨_, asked_next State.reset kind body⟩

theorem witness_StepRunsTheFrontCommand :
    (∃ (c : Instr) (rest : List Instr) (s : State), s.pending = c :: rest) ∧ ∃ s : State, s.pending = [] :=
  ⟨⟨.identify, [.badKind], { State.reset with pending := [.identify, .badKind] }, rfl⟩, State.reset, rfl⟩

theorem witness_PowerOnAndResetnResetThePart : (∃ s : State, s.resetLow = true) ∧ ∃ s : State, s.resetLow = false :=
  ⟨⟨State.reset.resetFall, rfl⟩, State.reset, rfl⟩

/-- A RESET request taken and answered, its reply in transmission, and a request behind it. -/
def resetAnswered : State :=
  { State.reset with control := { ControlLine.reset false with
      queue := [{ kind := 0x02, tag := 7, body := [], reply := some [0] }, { kind := 0x01, tag := 8, body := [], reply := none }]
      sending := some { reply := { kind := 0x82, tag := 7, body := [0] }, queued := true }
      resetTaken := true } }

theorem witness_EveryResetPutsTheGroupsInOneCondition :
    ∃ (s : State) (x : Sending) (r : Request) (rest : List Request), s.control.sending = some x ∧ x.queued = true ∧
      s.control.queue = r :: rest ∧ r.kind = 0x02 ∧ r.reply = some [0] :=
  ⟨resetAnswered, _, _, _, rfl, rfl, rfl, rfl, rfl⟩

theorem held_resetFall : State.reset.resetFall.HeldInReset where
  low := rfl
  time := ⟨rfl, rfl⟩
  reference := ⟨rfl, rfl, rfl⟩
  ports p := by cases p <;> rfl
  flows j := by simp [State.resetFall, State.resetBlocks, Vector.get, FlowEntry.unbound]
  slots := rfl
  streams i := by simp [State.stream, State.resetFall, State.resetBlocks, Vector.get]
  groups g := by simp [State.group, State.resetFall, State.resetBlocks, Vector.get]
  map := ⟨fun k => by simp [State.mapEntry, State.resetFall, OutputUnit.reset, Vector.get], rfl⟩
  bus := rfl
  feeds r := by simp [State.feed, State.resetFall, ReturnMixer.reset, Vector.get]
  lines k := by simp [State.line, State.resetFall, State.resetBlocks, SignalRouter.reset, Vector.get]
  inputs := ⟨rfl, rfl⟩
  meters := rfl
  receiver := ⟨rfl, rfl⟩
  requests := ⟨rfl, rfl, rfl, rfl⟩
  notices := ⟨rfl, rfl, rfl⟩
  enables := ⟨by decide, by decide⟩

theorem witness_NothingMovesWhileResetnIsLow :
    ∃ (s t : State) (c : Instr), s.HeldInReset ∧ (∀ strap, c ≠ .resetnRelease strap) ∧ exec c s = .next t :=
  ⟨_, _, .carrierArrival .a, held_resetFall, by simp, rfl⟩

theorem witness_ResetRequestStopsTheTaking :
    (∃ s : State, s.Next 0x02 []) ∧
    ∃ (s : State) (n : Fin 48) (p : Byte × Instr), s.control.resetTaken = true ∧ p ∈ requestCommands n :=
  ⟨reset_asked _ _, resetAnswered, 47, (0x01, .identify), rfl, by simp [requestCommands]⟩

/-- A queue whose oldest request, an IDENTIFY, has its reply in transmission. -/
def identifyAnswered : State :=
  { State.reset with control := { ControlLine.reset false with
      queue := [{ kind := 0x01, tag := 7, body := [], reply := some [0] }]
      sending := some { reply := { kind := 0x81, tag := 7, body := [0] }, queued := true } } }

/-- A BUSY reply in transmission. -/
def busySent : State :=
  { State.reset with control := { ControlLine.reset false with
      sending := some { reply := { kind := 0x81, tag := 9, body := [1] }, queued := false } } }

theorem witness_ReplySentEndsItsRequest :
    (∃ (s : State) (x : Sending) (r : Request) (rest : List Request), s.control.sending = some x ∧ x.queued = true ∧
      s.control.queue = r :: rest ∧ (r.kind ≠ 0x02 ∨ r.reply ≠ some [0])) ∧
    (∃ (s : State) (x : Sending), s.control.sending = some x ∧ x.queued = false) ∧ (∃ s : State, s.control.sending = none) ∧
    ∃ (s : State) (x : Sending) (r : Request) (rest : List Request), s.control.sending = some x ∧ x.queued = true ∧
      s.control.queue = r :: rest ∧ r.kind = 0x02 ∧ r.reply = some [0] :=
  ⟨⟨identifyAnswered, _, _, _, rfl, rfl, rfl, .inl (by decide)⟩, ⟨busySent, _, rfl, rfl⟩, ⟨State.reset, rfl⟩,
    resetAnswered, _, _, _, rfl, rfl, rfl, rfl, rfl⟩

theorem witness_RepliesAreFormedAndSentInOrder :
    (∃ (c : ControlLine) (x : Sending), c.sending = some x) ∧
    (∃ (c : ControlLine) (b : Reply) (bs : List Reply), c.sending = none ∧ c.busy = b :: bs) ∧
    (∃ (c : ControlLine) (r : Request) (rest : List Request) (body : List Byte), c.sending = none ∧ c.busy = [] ∧
      c.queue = r :: rest ∧ r.reply = some body) ∧
    (∃ c : ControlLine, c.sending = none ∧ c.busy = [] ∧ ∀ r ∈ c.queue.head?, r.reply = none) ∧
    ∃ (s : State) (taken rest : List Request) (r : Request), s.control.queue = taken ++ r :: rest ∧
      (∀ q ∈ taken, q.reply.isSome = true) ∧ r.reply = none :=
  ⟨⟨busySent.control, _, rfl⟩,
    ⟨{ ControlLine.reset false with busy := [{ kind := 0x81, tag := 9, body := [1] }] }, _, _, rfl, rfl⟩,
    ⟨{ identifyAnswered.control with sending := none }, _, _, _, rfl, rfl, rfl, rfl⟩,
    ⟨ControlLine.reset false, rfl, rfl, by simp [ControlLine.reset]⟩,
    resetAnswered, [_], [], _, rfl, by simp, rfl⟩

theorem witness_UnknownKindsAndWrongLengthsAreRefused :
    (∃ (s : State) (n : Fin 48) (kind : Byte) (body : List Byte), s.Next kind body ∧ ∀ p ∈ requestCommands n, p.1 ≠ kind) ∧
    (∃ (s : State) (n : Fin 48) (p : Byte × Instr) (body : List Byte), p ∈ requestCommands n ∧ s.Next p.1 body ∧
      bodyLength p.1 ≠ some body.length) ∧
    (∃ (s : State) (n : Fin 48) (p : Byte × Instr) (body : List Byte), p ∈ requestCommands n ∧ s.Next p.1 body) ∧
    ∃ (k : Byte) (n : Fin 48), ∀ p ∈ requestCommands n, p.1 ≠ k :=
  ⟨⟨_, 0, 0x75, [], asked_next State.reset _ _, by decide⟩,
    ⟨_, 0, (0x20, .streamOpen), List.replicate 15 0, by simp [requestCommands], asked_next State.reset _ _, by decide⟩,
    ⟨_, 0, (0x74, .testQuery), [0, 0], by simp [requestCommands], asked_next State.reset _ _⟩, 0x75, 0, by decide⟩

/-- A control line whose queue holds `n` requests not yet taken. -/
def queued (n : Nat) : State :=
  { State.reset with control := { ControlLine.reset false with
      queue := List.replicate n { kind := 0x01, tag := 7, body := [], reply := none } } }

theorem witness_FramesReachTheQueueOrAreCounted :
    (∃ (s : State) (body noise : List Byte), s.resetLow = false ∧ s.control.receiver = none ∧ body.length ≤ 1024 ∧
      (∀ b ∈ noise, b ≠ 0xC3) ∧ s.control.queue.length < 4) ∧
    (∃ (s : State) (body noise : List Byte), s.resetLow = false ∧ s.control.receiver = none ∧ body.length ≤ 1024 ∧
      (∀ b ∈ noise, b ≠ 0xC3) ∧ 4 ≤ s.control.queue.length) ∧
    (∃ (s : State) (kind tag : Byte) (body : List Byte) (check : Half), s.resetLow = false ∧ s.control.receiver = none ∧
      body.length ≤ 1024 ∧ check ≠ crc16 ([kind, tag] ++ be16 body.length ++ body)) ∧
    (∃ n : Nat, 1024 < n ∧ n < 65536) ∧
    ∃ (s : State) (got : List Byte), s.resetLow = false ∧ s.control.receiver = some got :=
  ⟨⟨queued 3, List.replicate 1024 0xC3, [0xC2], rfl, rfl, by decide +kernel, by decide, by decide⟩,
    ⟨queued 4, [], [], rfl, rfl, by decide, by decide, by decide⟩,
    ⟨State.reset, 0x01, 7, [], 0, rfl, rfl, by decide, by decide +kernel⟩, ⟨1025, by decide, by decide⟩,
    { State.reset with control := { ControlLine.reset false with receiver := some [0x01] } }, [0x01], rfl, rfl⟩

theorem witness_IdentifyReportsTheCapacities : ∃ s : State, s.Next 0x01 [] := reset_asked _ _

/-! ## Witnesses: notices and the house clock -/

/-- A notice queue of `n` entries, one for each output channel. -/
def clips (n : Nat) : NoticeQueue :=
  { NoticeQueue.reset with
    entries := (List.range n).map fun k => { kind := .outputClip, subject := k, hbc := 5, detail := 1, repeats := 255 } }

theorem clips_ok : (clips 64).Ok := ⟨by decide +kernel, by decide +kernel⟩

theorem witness_NoticePostingFollowsItsFourCases :
    (∃ (nq : NoticeQueue) (p : Post), nq.queueEnable.getLsbD p.kind.code = false) ∧
    (∃ (nq : NoticeQueue) (p : Post) (before after : List Notice) (n : Notice), nq.queueEnable.getLsbD p.kind.code = true ∧
      nq.entries = before ++ n :: after ∧ n.kind = p.kind ∧ n.subject = p.subject ∧
      ∀ m ∈ before ++ after, ¬(m.kind = p.kind ∧ m.subject = p.subject)) ∧
    (∃ (nq : NoticeQueue) (p : Post), nq.queueEnable.getLsbD p.kind.code = true ∧
      (∀ m ∈ nq.entries, ¬(m.kind = p.kind ∧ m.subject = p.subject)) ∧ nq.entries.length < 64) ∧
    (∃ (nq : NoticeQueue) (p : Post), nq.queueEnable.getLsbD p.kind.code = true ∧
      (∀ m ∈ nq.entries, ¬(m.kind = p.kind ∧ m.subject = p.subject)) ∧ 64 ≤ nq.entries.length) ∧ ∃ nq : NoticeQueue, nq.Ok :=
  ⟨⟨{ clips 2 with queueEnable := 0 }, ⟨.outputClip, 0, 1⟩, by decide⟩,
    ⟨clips 2, ⟨.outputClip, 1, 3⟩, [_], [], _, by decide, rfl, rfl, rfl, by decide⟩,
    ⟨clips 63, ⟨.sigInChange, 0, 1⟩, by decide, by decide +kernel, by decide +kernel⟩,
    ⟨clips 64, ⟨.sigInChange, 0, 1⟩, by decide, by decide +kernel, by decide +kernel⟩, clips 64, clips_ok⟩

theorem witness_NoticeRequests :
    (∃ (s : State) (n : Byte), s.Next 0x04 [n] ∧ n = 0) ∧ (∃ (s : State) (n : Byte), s.Next 0x04 [n] ∧ 16 < n.toNat) ∧
    (∃ (s : State) (n : Byte), s.Next 0x04 [n] ∧ s.notices.Ok ∧ 1 ≤ n.toNat ∧ n.toNat ≤ 16) ∧
    (∃ (s : State) (q a : Word), s.Next 0x05 (beWord q ++ beWord a) ∧ q.toNat < 4194304 ∧ a.toNat < 4194304) ∧
    ∃ (s : State) (q a : Word), s.Next 0x05 (beWord q ++ beWord a) ∧ ¬a.toNat < 4194304 :=
  ⟨⟨_, 0, asked_next State.reset _ _, rfl⟩, ⟨_, 17, asked_next State.reset _ _, by decide⟩,
    ⟨_, 16, asked_next { State.reset with notices := clips 64 } _ _, clips_ok, by decide, by decide⟩,
    ⟨_, 4194303, 0, asked_next State.reset _ _, by decide, by decide⟩,
    _, 0, 4194304, asked_next State.reset _ _, by decide⟩

theorem witness_ClockQueryReportsTheHouseClock : ∃ s : State, s.Next 0x03 [] := reset_asked _ _

theorem witness_ReferenceEdgeStartsLocking : (∃ s : State, s.resetLow = false) ∧ ∃ s : State, s.resetLow = true :=
  ⟨⟨State.reset, rfl⟩, State.reset.resetFall, rfl⟩

/-- A part in which everything that a row names comes about at the next boundary, and one in which nothing does. -/
theorem witness_BoundaryAdvancesHouseTime :
    (∃ s : State, s.resetLow = false) ∧ (∃ s : State, s.resetLow = true) ∧
    (∃ s : State, s.clock.ref = .locking ∧ s.clock.edges = BitVec.allOnes 48 ∧ 999 ≤ s.clock.lockCount) ∧
    (∃ s : State, (s.group 0).anchored = true ∧ (s.group 0).dir ≠ .steady ∧ (s.group 0).countdown ≤ 1 ∧ (s.group 0).pending ≠ none ∧
      (∃ n k, (s.group 0).window = some (n, k) ∧ 999 ≤ k) ∧ (s.stream 0).state = .playing ∧ ((s.stream 0).watch .b).silent = 99 ∧
      ((s.stream 0).watch .b).mark = false ∧ (s.stream 0).flowB ≠ none) ∧
    (∃ s : State, s.output.commit = true) ∧ (∃ f : Feed, f.running = true ∧ f.assembly.length + 1 = f.packing) ∧
    (∃ s : State, s.meters.blocks + 1 = 2 ^ s.meters.exponent) ∧
    ∃ s : State, s.clock.ref = .free ∧ (s.group 0).anchored = false ∧ (s.stream 0).state = .closed ∧ s.output.commit = false ∧
      (s.feed 0).running = false ∧ s.meters.blocks + 1 ≠ 2 ^ s.meters.exponent :=
  ⟨⟨State.reset, rfl⟩, ⟨State.reset.resetFall, rfl⟩,
    ⟨{ State.reset with clock := { HouseClock.reset with ref := .locking, lockCount := 999, edges := BitVec.allOnes 48 } }, rfl, rfl, by decide⟩,
    ⟨(State.reset.setStream 0 { Stream.closed with
          state := .playing, flowB := some { port := .b, flowId := 515 }, watchB := { mark := false, silent := 99 } }).setGroup 0
        { Group.reset with
          anchored := true, dir := .repeating, interval := some 300, countdown := 1, pending := some 48, window := some (0, 999) },
      rfl, by decide, by decide, by decide, ⟨0, 999, rfl, by decide⟩, rfl, rfl, rfl, by decide⟩,
    ⟨{ State.reset with output := { OutputUnit.reset with commit := true } }, rfl⟩,
    ⟨{ Feed.reset with running := true }, rfl, rfl⟩,
    ⟨{ State.reset with meters := { MeterUnit.reset with exponent := 4, blocks := 15 } }, rfl⟩,
    State.reset, rfl, rfl, rfl, rfl, rfl, by decide⟩

/-- A part whose House Clock Unit stands so. -/
def clocked (ref : RefState) (lockCount : Nat) (edges : BitVec 48) : State :=
  { State.reset with clock := { HouseClock.reset with ref := ref, lockCount := lockCount, edges := edges } }

theorem witness_BoundaryJudgesTheReference :
    (∃ s : State, s.resetLow = false ∧ (s.clock.ref = .free ∨ s.clock.ref = .holdover ∨ (s.clock.ref = .locked ∧ s.clock.edges ≠ 0))) ∧
    (∃ s : State, s.resetLow = false ∧ s.clock.ref = .locking ∧ s.clock.edges = BitVec.allOnes 48 ∧ s.clock.lockCount < 999) ∧
    (∃ s : State, s.resetLow = false ∧ s.clock.ref = .locking ∧ s.clock.edges = BitVec.allOnes 48 ∧ 999 ≤ s.clock.lockCount) ∧
    (∃ s : State, s.resetLow = false ∧ s.clock.ref = .locking ∧ s.clock.edges ≠ 0 ∧ s.clock.edges ≠ BitVec.allOnes 48) ∧
    (∃ s : State, s.resetLow = false ∧ s.clock.ref = .locking ∧ s.clock.edges = 0) ∧
    ∃ s : State, s.resetLow = false ∧ s.clock.ref = .locked ∧ s.clock.edges = 0 :=
  ⟨⟨State.reset, rfl, .inl rfl⟩, ⟨clocked .locking 998 (BitVec.allOnes 48), rfl, rfl, rfl, by decide⟩,
    ⟨clocked .locking 999 (BitVec.allOnes 48), rfl, rfl, rfl, by decide⟩, ⟨clocked .locking 5 1, rfl, rfl, by decide, by decide⟩,
    ⟨clocked .locking 5 0, rfl, rfl, rfl⟩, clocked .locked 0 0, rfl, rfl, rfl⟩

/-! ## Witnesses: ports and packets -/

theorem witness_PortEnableDisableAndBudget :
    (∀ k ∈ [0x10, 0x11], ∃ (s : State) (p : PortId), s.Next k [byteOf (portNumber p)]) ∧
    (∀ k ∈ [0x10, 0x11], ∃ (s : State) (b : Byte), 1 < b.toNat ∧ s.Next k [b]) ∧
    (∃ (s : State) (p : PortId) (i t : Word), s.Next 0x12 ([byteOf (portNumber p)] ++ beWord i ++ beWord t)) ∧
    ∃ (s : State) (i t : Word) (b : Byte), s.Next 0x12 ([b] ++ beWord i ++ beWord t) ∧ 1 < b.toNat :=
  ⟨fun _ _ => ⟨_, .b, asked_next State.reset _ _⟩, fun _ _ => ⟨_, 2, by decide, asked_next State.reset _ _⟩,
    ⟨_, .a, 1000, 950000, asked_next State.reset _ _⟩, _, 0, 0, 2, asked_next State.reset _ _, by decide⟩

theorem witness_PortQueryReportsAndClears :
    (∃ (s : State) (p : PortId) (clear : Byte), s.Next 0x13 [byteOf (portNumber p), clear] ∧ clear.toNat ≤ 1) ∧
    ∃ (s : State) (b clear : Byte), s.Next 0x13 [b, clear] ∧ (1 < b.toNat ∨ 1 < clear.toNat) :=
  ⟨⟨_, .b, 1, asked_next State.reset _ _, by decide⟩, _, 1, 2, asked_next State.reset _ _, .inr (by decide)⟩

/-- A packet of one block of one L16 channel. -/
def onePacket : Packet :=
  { packing := 1, format := .l16, channels := 1, cuePresent := true, test := false, endFlag := false, flowId := 515, seq := 100
    sourceTime := 4800, cue := 5, payload := List.replicate 96 1 }

/-- A packet of the largest payload: two blocks of five L24 channels, 1,440 bytes. -/
def fullPacket : Packet :=
  { packing := 2, format := .l24, channels := 5, cuePresent := false, test := true, endFlag := true, flowId := 65535, seq := 65535
    sourceTime := 0, cue := 0, payload := List.replicate 1440 0x80 }

theorem onePacket_ok : onePacket.Ok :=
  { packing := .inl rfl, channels := ⟨by decide, by decide⟩, payload := by decide +kernel, fits := by decide +kernel }

theorem fullPacket_ok : fullPacket.Ok :=
  { packing := .inr (.inl rfl), channels := ⟨by decide, by decide⟩, payload := by decide +kernel, fits := by decide +kernel }

theorem witness_WrittenPacketIsReadBack : ∃ p : Packet, p.Ok := ⟨fullPacket, fullPacket_ok⟩

theorem witness_PayloadSamplesStandInOrder :
    ∃ (p : Packet) (j n c : Nat), p.Ok ∧ j < p.packing ∧ n < 48 ∧ c < p.channels :=
  ⟨fullPacket, 1, 47, 4, fullPacket_ok, by decide, by decide, by decide⟩

/-- A port in UP. -/
def upPort : Port := { Port.reset true with state := .up }

/-- A stream of one L16 channel in depth 16, paired, in this state. -/
def member (state : StreamState) : Stream :=
  { Stream.closed with
    flowA := some { port := .a, flowId := 515 }, flowB := some { port := .b, flowId := 515 }, channels := 1, packing := 1
    depth := 16, load := 1424, state := state, pair := .paired, ring := List.replicate 16 .empty }

/-- A part with both ports in UP whose stream 0 is `x`, a member of group 0, which is `g`. -/
def linked (x : Stream) (g : Group) : State :=
  { (State.reset.setStream 0 x).setGroup 0 g with
    portA := upPort, portB := upPort, slotsInUse := 16
    flows := bindFlows (Vector.replicate 64 .unbound) 0 { port := .a, flowId := 515 } (some { port := .b, flowId := 515 }) }

theorem linked_boundA (x : Stream) (g : Group) : (linked x g).BoundTo .a 515 0 .a := by
  refine ⟨?_, ?_⟩ <;> simp only [linked] <;> decide +kernel

theorem linked_boundB (x : Stream) (g : Group) : (linked x g).BoundTo .b 515 0 .b := by
  refine ⟨?_, ?_⟩ <;> simp only [linked] <;> decide +kernel

/-- The fields of that packet are read whatever stands in its check. -/
theorem onePacket_parsed (c : Half) : parsePacket (onePacket.header ++ be16 c.toNat ++ onePacket.payload) = some onePacket := by
  have h0 : field1 (onePacket.header ++ be16 c.toNat ++ onePacket.payload) 0 = 16 := rfl
  have h1 : field1 (onePacket.header ++ be16 c.toNat ++ onePacket.payload) 1 = 24 := rfl
  have h2 : field2 (onePacket.header ++ be16 c.toNat ++ onePacket.payload) 12 = 96 := rfl
  have h3 : (onePacket.header ++ be16 c.toNat ++ onePacket.payload).length = 112 := rfl
  have h4 : (onePacket.header ++ be16 c.toNat ++ onePacket.payload).drop 16 = onePacket.payload := rfl
  have h5 : field2 (onePacket.header ++ be16 c.toNat ++ onePacket.payload) 2 = 515 := rfl
  have h6 : field2 (onePacket.header ++ be16 c.toNat ++ onePacket.payload) 4 = 100 := rfl
  have h7 : field4 (onePacket.header ++ be16 c.toNat ++ onePacket.payload) 6 = 4800 := rfl
  have h8 : field2 (onePacket.header ++ be16 c.toNat ++ onePacket.payload) 10 = 5 := rfl
  simp only [parsePacket, h0, h1, h2, h3, h4, h5, h6, h7, h8]
  rfl

/-- The packet above is read as itself. -/
theorem onePacket_read : judgeDatagram onePacket.datagram = .wellFormed onePacket := by
  have hc : packetCheckOk onePacket.datagram = true := by
    have h := field2_append onePacket.header onePacket.payload (crc16 (onePacket.header ++ onePacket.payload)).isLt
    have e : onePacket.datagram.take 14 ++ onePacket.datagram.drop 16 = onePacket.header ++ onePacket.payload := rfl
    simp only [packetCheckOk, e]
    exact beq_iff_eq.mpr h.symm
  have hp : parsePacket onePacket.datagram = some onePacket := onePacket_parsed _
  have hl : onePacket.datagram.length = 112 := rfl
  simp [judgeDatagram, hc, hp, hl]

/-- A group with stream 0 as its only member. -/
def alone : Group := { Group.reset with members := [0] }

/-- That group, anchored at 0 with Q = 480. -/
def anchored : Group := { alone with anchored := true, oRef := some 0, q := some 480, qAnchor := some 480 }

/-- The member drawn at sequence `e`, of a timeline that begins with sequence 0 at source time `st0`. -/
def drawnAt (st0 e : Word) : Stream := { member .playing with origin := some (0, st0), ePlay := some e }

theorem witness_PacketDropsAreCounted :
    (∃ (t : State) (port : PortId), (t.port port).state ≠ .up) ∧
    (∃ (t : State) (port : PortId) (d : List Byte), (t.port port).state = .up ∧ judgeDatagram d = .malformed) ∧
    (∃ (t : State) (port : PortId) (d : List Byte), (t.port port).state = .up ∧ judgeDatagram d = .checkFailed) ∧
    (∃ (t : State) (port : PortId) (d : List Byte) (p : Packet), (t.port port).state = .up ∧ judgeDatagram d = .wellFormed p ∧
      ∀ j, t.flows.get j ≠ { bound := true, port := port, flowId := p.flowId }) ∧
    (∀ st ∈ [StreamState.ready, .ended, .playing], ∃ (t : State) (p : Packet) (i : Fin 32) (x : Stream), (t.port .b).state = .up ∧
      judgeDatagram onePacket.datagram = .wellFormed p ∧ t.BoundTo .b p.flowId i .b ∧ x = t.stream i ∧ x.state = st ∧
      x.pair = .pairFault) ∧
    ∃ (t : State) (p : Packet) (i : Fin 32) (x : Stream), (t.port .a).state = .up ∧
      judgeDatagram onePacket.datagram = .wellFormed p ∧ t.BoundTo .a p.flowId i .a ∧ x = t.stream i ∧ x.state = .playing ∧
      ¬(x.channels = p.channels ∧ x.format = p.format ∧ x.packing = p.packing ∧ x.test = p.test) := by
  refine ⟨⟨State.reset, .a, by decide⟩, ⟨linked (member .ready) alone, .a, List.replicate 15 0, rfl, by decide⟩,
    ⟨linked (member .ready) alone, .a, List.replicate 16 0, rfl, by decide +kernel⟩,
    ⟨{ State.reset with portA := upPort }, .a, _, _, rfl, onePacket_read, by decide +kernel⟩, fun st _ => ?_, ?_⟩
  · exact ⟨linked { member st with pair := .pairFault } alone, _, 0, _, rfl, onePacket_read, linked_boundB _ _, rfl, rfl, rfl⟩
  · exact ⟨linked { member .playing with test := true } alone, _, 0, _, rfl, onePacket_read, linked_boundA _ _, rfl, rfl, by decide⟩

/-- The packet above comes to path A of the member. -/
theorem onePacket_delivers (x : Stream) (g : Group) (n : Fin 48) (h : x.channels = 1 ∧ x.format = .l16 ∧ x.packing = 1 ∧ x.test = false) :
    (linked x g).Delivers .a n onePacket.datagram onePacket 0 .a where
  up := by
    unfold State.atSample
    split <;> rfl
  read := onePacket_read
  bound := linked_boundA _ _
  paired := by simp
  channels := h.1
  format := h.2.1
  packing := h.2.2.1
  test := h.2.2.2

/-- A member in ACQUIRING of an UNANCHORED group, and of an ANCHORED one at any Q. -/
theorem witness_FirstPacketAnchorsTheGroup :
    ∀ q : Option Word, ∃ (s : State) (n : Fin 48) (p : Packet) (i : Fin 32) (x : Stream) (g : Group),
      s.Delivers .a n onePacket.datagram p i .a ∧ x = s.stream i ∧ g = s.group x.group ∧ x.state = .acquiring ∧ i ∈ g.members ∧
      x.depth ∈ [16, 32, 64, 128, 256] ∧ x.ring = List.replicate x.depth .empty ∧ x.endSeq = none ∧ g.InRange ∧
      g.anchored = q.isSome ∧ g.q = q ∧ g.oRef = q := by
  intro q
  refine ⟨linked (member .acquiring) { alone with anchored := q.isSome, oRef := q, q := q, qAnchor := q }, 47, _, 0, _, _,
    onePacket_delivers _ _ _ ⟨rfl, rfl, rfl, rfl⟩, rfl, rfl, rfl, ?_, ?_, rfl, rfl, ?_, rfl, rfl, rfl⟩
  · exact List.mem_singleton.mpr rfl
  · show 16 ∈ [16, 32, 64, 128, 256]
    decide
  · have h : alone.InRange := by constructor <;> decide
    exact ⟨h.1, h.2, h.3, h.4, h.5, h.6⟩

/-- A block of the packet's sequence, as a slot holds it. -/
def storedBlock : Block :=
  { seq := 100, sourceTime := 4800, arrival := 0, cue := some 5, samples := List.replicate 48 [0x010100], served := false }

/-- The packet's one block as it is offered. -/
def offered : Offer :=
  { seq := 100, sourceTime := 4800, arrival := 0, cue := some 5, endMark := false, samples := List.replicate 48 [0x010100] }

/-- A stream before the first block of a packet. -/
def beginning (x : Stream) : Ingest := { x := x, posts := [], cues := [], accepted := false, resync := none }

/-- The packet on the member's timeline, at the block that plays next and at the early limit; then after-end, late, concealed, early
(the seventh and the eighth), accepted at both ends of the window, and duplicate. -/
theorem witness_BlockOfALaterPacketIsClassified :
    (∀ e ∈ [(100 : Word), 84], ∃ (s : State) (p : Packet) (st0 : Word) (g : Group),
      s.Delivers .a 0 onePacket.datagram p 0 .a ∧ (s.stream 0).state.drawn = true ∧ (s.stream 0).origin = some (0, st0) ∧
      (s.stream 0).ePlay = some e ∧ p.sourceTime = st0 + 48 * (e + (p.seq - e.truncate 16).signExtend 32 - 0) ∧
      g = s.group (s.stream 0).group ∧ g.oRef = some 0 ∧
      (({ s.stream 0 with breaks := 0 } : Stream).ingest 0 .a ((List.range p.packing).map fun j =>
        { seq := e + (p.seq - e.truncate 16).signExtend 32 + BitVec.ofNat 32 j, sourceTime := p.sourceTime + BitVec.ofNat 32 (48 * j)
          arrival := s.clock.hbc, cue := if p.cuePresent then some p.cue else none, endMark := p.endFlag && decide (j + 1 = p.packing)
          samples := p.blocks.getD j [] })).resync = if e = 84 then some 16 else none) ∧
    (∀ x : Stream, ∃ a : Ingest, a.x = x) ∧
    (∃ x : Stream, x.ePlay = some 100 ∧ x.ring.length = x.depth ∧ 0 < x.depth ∧ x.endSeq = some 99 ∧ 0 < Machine.sdiff offered.seq 99) ∧
    (∃ x : Stream, x.ePlay = some 101 ∧ x.ring.length = x.depth ∧ 0 < x.depth ∧ x.endSeq = none ∧ Machine.sdiff offered.seq 101 < 0) ∧
    (∃ x : Stream, x.ePlay = some 100 ∧ x.ring.length = x.depth ∧ 0 < x.depth ∧ x.endSeq = none ∧ x.slotAt offered.seq = .concealed offered.seq) ∧
    (∀ run ∈ [6, 7], ∃ x : Stream, x.ePlay = some 84 ∧ x.ring.length = x.depth ∧ 0 < x.depth ∧ x.endSeq = none ∧
      x.depth ≤ Machine.sdiff offered.seq 84 ∧ x.slotAt offered.seq = .empty ∧ x.earlyRun = run) ∧
    (∀ e ∈ [(100 : Word), 85], ∃ x : Stream, x.ePlay = some e ∧ x.ring.length = x.depth ∧ 0 < x.depth ∧ x.endSeq = none ∧
      0 ≤ Machine.sdiff offered.seq e ∧ Machine.sdiff offered.seq e < x.depth ∧ x.slotAt offered.seq = .empty) ∧
    ∃ x : Stream, x.ePlay = some 100 ∧ x.ring.length = x.depth ∧ 0 < x.depth ∧ x.endSeq = none ∧ x.slotAt offered.seq = .filled storedBlock ∧
      storedBlock.seq = offered.seq := by
  refine ⟨fun e he => ⟨linked { drawnAt 0 e with earlyRun := 7 } anchored, _, 0, _, onePacket_delivers _ _ _ ⟨rfl, rfl, rfl, rfl⟩, rfl, rfl, rfl,
      ?_, rfl, rfl, ?_⟩, fun x => ⟨beginning x, rfl⟩,
    ⟨{ drawnAt 0 100 with endSeq := some 99 }, rfl, rfl, (by decide : 0 < 16), rfl, by decide⟩,
    ⟨drawnAt 0 101, rfl, rfl, (by decide : 0 < 16), rfl, by decide⟩,
    ⟨{ drawnAt 0 100 with ring := List.replicate 16 (.concealed 100) }, rfl, rfl, (by decide : 0 < 16), rfl, by decide⟩,
    fun run _ => ⟨{ drawnAt 0 84 with earlyRun := run }, rfl, rfl, (by decide : 0 < 16), rfl, (by decide : ((16 : Nat) : Int) ≤ 16),
      by simp [Stream.slotAt, drawnAt, member, offered], rfl⟩,
    fun e he => ⟨drawnAt 0 e, rfl, rfl, (by decide : 0 < 16), rfl, ?_, ?_,
      by simp [Stream.slotAt, drawnAt, member, offered]⟩,
    { drawnAt 0 100 with ring := List.replicate 16 (.filled storedBlock) }, rfl, rfl, (by decide : 0 < 16), rfl, by decide, rfl⟩
  all_goals
    simp only [List.mem_cons, List.not_mem_nil, or_false] at he
    rcases he with rfl | rfl <;> decide +kernel

/-- On path A below three breaks and at three; on path B unpaired, after a break, and at both counts of mismatches. -/
theorem witness_TimelineRejectsBreakAPathOrThePair :
    ∀ (pair : PairState) (breaks mismatches : Nat), pair ≠ .pairFault → ∃ (s : State) (p : Packet) (i : Fin 32) (x : Stream) (seq0 st0 e : Word),
      (∀ port, (s.port port).state = .up) ∧ judgeDatagram onePacket.datagram = .wellFormed p ∧ s.BoundTo .a p.flowId i .a ∧
      s.BoundTo .b p.flowId i .b ∧ x = s.stream i ∧ x.state.drawn = true ∧ x.pair = pair ∧ x.breaks = breaks ∧
      x.windowMismatches = mismatches ∧ x.pair ≠ .pairFault ∧ x.channels = p.channels ∧ x.format = p.format ∧ x.packing = p.packing ∧
      x.test = p.test ∧ x.origin = some (seq0, st0) ∧ x.ePlay = some e ∧ i ∈ (s.group x.group).members ∧
      p.sourceTime ≠ st0 + 48 * (e + (p.seq - e.truncate 16).signExtend 32 - seq0) := by
  intro pair breaks mismatches h
  refine ⟨linked { drawnAt 1 100 with pair := pair, breaks := breaks, windowMismatches := mismatches } anchored, _, 0, _, 0, 1, 100,
    fun port => ?_, onePacket_read, linked_boundA _ _, linked_boundB _ _, rfl, rfl, rfl, rfl, rfl, h, rfl, rfl, rfl, rfl, rfl, rfl, ?_,
    by decide⟩
  · cases port <;> rfl
  · show (0 : Fin 32) ∈ [0]
    decide

/-! ## Witnesses: streams -/

/-- A stream of one L16 channel on both ports, in group 0. -/
def openOne : OpenFields :=
  { group := 0, channels := 1, format := .l16, packing := 1, depth := 16, test := false, flowA := { port := .a, flowId := 515 }
    flowB := some { port := .b, flowId := 515 } }

/-- What the statement about STREAM_OPEN asks of every state and body. -/
def OpenAsked (s : State) (o : OpenFields) : Prop :=
  s.Next 0x20 (openBody 0 o (0, 0)) ∧ 1 ≤ o.channels ∧ o.channels ≤ 8 ∧ o.packing ∈ [1, 2, 4] ∧ o.depth ∈ [16, 32, 64, 128, 256]

/-- A flow of the stream that is to be opened is bound already. -/
def FlowTaken (s : State) (o : OpenFields) : Prop := ∃ j, s.flows.get j = { bound := true, port := o.flowA.port, flowId := o.flowA.flowId }

/-- Each check of STREAM_OPEN fails in some state that passes those before it, and one state, at the limits, passes them all. -/
theorem witness_StreamOpenRunsItsChecksInOrder :
    (∃ s o, OpenAsked s o ∧ (s.stream 0).state ≠ .closed) ∧
    (∃ s o, OpenAsked s o ∧ (s.stream 0).state = .closed ∧ 1440 < o.packing * 48 * o.channels * o.format.bytes) ∧
    (∃ s, OpenAsked s openOne ∧ (s.stream 0).state = .closed ∧ 8 ≤ (s.group 0).members.length) ∧
    (∃ s, OpenAsked s openOne ∧ (s.stream 0).state = .closed ∧ (s.group 0).members.length < 8 ∧ (16 - 2) * 48 < (s.group 0).hold) ∧
    (∃ s, OpenAsked s openOne ∧ (s.stream 0).state = .closed ∧ (s.group 0).members.length < 8 ∧ (s.group 0).hold ≤ (16 - 2) * 48 ∧
      FlowTaken s openOne) ∧
    (∃ s, OpenAsked s openOne ∧ (s.stream 0).state = .closed ∧ (s.group 0).members.length < 8 ∧ (s.group 0).hold ≤ (16 - 2) * 48 ∧
      (∀ j, (s.flows.get j).bound = false) ∧ 4096 < s.slotsInUse + 16) ∧
    (∃ s, OpenAsked s openOne ∧ (s.stream 0).state = .closed ∧ (s.group 0).members.length < 8 ∧ (s.group 0).hold ≤ (16 - 2) * 48 ∧
      (∀ j, (s.flows.get j).bound = false) ∧ s.slotsInUse + 16 ≤ 4096 ∧ (s.port .b).ingestBudget < (s.port .b).ingestLoad + 1424) ∧
    (∃ s, OpenAsked s openOne ∧ (s.stream 0).state = .closed ∧ (s.group 0).members.length < 8 ∧ (s.group 0).hold ≤ (16 - 2) * 48 ∧
      (∀ j, (s.flows.get j).bound = false) ∧ s.slotsInUse + 16 ≤ 4096 ∧
      ∀ p, (s.port p).ingestLoad + 1424 ≤ (s.port p).ingestBudget) ∧
    (∃ (s : State) (b : List Byte), s.Next 0x20 b ∧ b.length = 16 ∧ 32 ≤ field1 b 0) ∧
    (∃ (s : State) (b : List Byte), s.Next 0x20 b ∧ b.length = 16 ∧ field1 b 0 = 31 ∧ (s.stream 31).state = .closed ∧ 15 < field1 b 1) := by
  have asks (s : State) (o : OpenFields) (h : 1 ≤ o.channels ∧ o.channels ≤ 8 ∧ o.packing ∈ [1, 2, 4] ∧ o.depth ∈ [16, 32, 64, 128, 256]) :
      OpenAsked (asked s 0x20 (openBody 0 o (0, 0))) o := ⟨asked_next _ _ _, h⟩
  refine ⟨⟨_, _, asks (linked (member .ready) alone) openOne (by decide), ?_⟩,
    ⟨_, _, asks State.reset { openOne with channels := 8, format := .l32 } (by decide), by decide, by decide⟩,
    ⟨_, asks (State.reset.setGroup 0 { Group.reset with members := [1, 2, 3, 4, 5, 6, 7, 8] }) openOne (by decide), by decide, by decide⟩,
    ⟨_, asks (State.reset.setGroup 0 { Group.reset with hold := 673 }) openOne (by decide), by decide, by decide, by decide⟩,
    ⟨_, asks { State.reset with flows := bindFlows (Vector.replicate 64 .unbound) 1 openOne.flowA none } openOne (by decide), by decide, by decide,
      by decide, 2, by decide⟩,
    ⟨_, asks { State.reset with slotsInUse := 4081 } openOne (by decide), by decide, by decide, by decide, ?_, by decide⟩,
    ⟨_, asks { State.reset with portB := { State.reset.portB with ingestLoad := 398577 } } openOne (by decide), by decide, by decide, by decide,
      ?_, by decide, by decide⟩,
    ⟨_, asks { State.reset with
        slotsInUse := 4080, portA := { State.reset.portA with ingestLoad := 398576 } } openOne (by decide),
      by decide, by decide, by decide, ?_, by decide, ?_⟩,
    ⟨_, _, asked_next State.reset 0x20 (32 :: List.replicate 15 0), rfl, by decide⟩,
    ⟨_, _, asked_next State.reset 0x20 (31 :: 16 :: List.replicate 14 0), rfl, by decide, by decide, by decide⟩⟩
  · show (member .ready).state ≠ .closed
    decide
  · decide +kernel
  · decide +kernel
  · decide +kernel
  · intro p; cases p <;> decide

theorem witness_StreamStartAndRepair :
    (∀ k ∈ [0x21, 0x24], ∃ (s : State) (i : Fin 32), s.Next k [byteOf i.val]) ∧
    ∀ k ∈ [0x21, 0x24], ∃ (s : State) (b : Byte), 32 ≤ b.toNat ∧ s.Next k [b] :=
  ⟨fun _ _ => ⟨_, 31, asked_next State.reset _ _⟩, fun _ _ => ⟨_, 32, by decide, asked_next State.reset _ _⟩⟩

/-- A started stream whose group is UNANCHORED, one that is the last to hold an anchored timeline, and one beside another. -/
theorem witness_StreamStopEmptiesTheRing :
    (∀ st : StreamState, ∃ s : State, s.Next 0x22 [byteOf 0] ∧ (s.stream 0).state = st ∧ (s.group (s.stream 0).group).anchored = false) ∧
    (∃ s : State, s.Next 0x22 [byteOf 0] ∧ (s.stream 0).state = .playing ∧ (s.group (s.stream 0).group).anchored = true ∧
      ∀ j ∈ (s.group (s.stream 0).group).members, j ≠ 0 → (s.stream j).state.holdsTimeline = false) ∧
    ∃ s : State, s.Next 0x22 [byteOf 0] ∧ (s.stream 0).state = .playing ∧
      ∃ j ∈ (s.group (s.stream 0).group).members, j ≠ 0 ∧ (s.stream j).state.holdsTimeline = true :=
  ⟨fun st => ⟨_, asked_next (linked (member st) alone) _ _, rfl, rfl⟩,
    ⟨_, asked_next (linked (member .playing) anchored) _ _, rfl, rfl, by simp [asked, linked, State.group, State.setGroup, State.stream, State.setStream]; decide⟩,
    _, asked_next ((linked (member .playing) { anchored with members := [0, 1] }).setStream 1 (member .ended)) _ _, rfl, 1, by decide, by decide, rfl⟩

theorem witness_StreamCloseReleasesWhatItHeld :
    (∀ st : StreamState, ∃ s : State, s.Next 0x23 [byteOf 0] ∧ (s.stream 0).state = st ∧ (s.group (s.stream 0).group).anchored = false) ∧
    (∃ s : State, s.Next 0x23 [byteOf 0] ∧ (s.stream 0).state = .ended ∧ (s.group (s.stream 0).group).anchored = true ∧
      ∀ j ∈ (s.group (s.stream 0).group).members.filter (fun j => j ≠ 0), (s.stream j).state.holdsTimeline = false) ∧
    ∃ s : State, s.Next 0x23 [byteOf 0] ∧ (s.stream 0).state = .ready ∧
      ∃ j ∈ (s.group (s.stream 0).group).members.filter (fun j => j ≠ 0), (s.stream j).state.holdsTimeline = true :=
  ⟨fun st => ⟨_, asked_next (linked (member st) alone) _ _, rfl, rfl⟩,
    ⟨_, asked_next (linked (member .ended) anchored) _ _, rfl, rfl, by decide⟩,
    _, asked_next ((linked (member .ready) { anchored with members := [0, 1] }).setStream 1 (member .outage)) _ _, rfl, 1, by decide, rfl⟩

theorem witness_StreamAndGroupQueriesReportTheRecords :
    (∀ k, ∃ (s : State) (i : Fin 32), s.Next k [byteOf i.val]) ∧ (∀ k, ∃ (s : State) (b : Byte), 32 ≤ b.toNat ∧ s.Next k [b]) ∧
    (∀ k, ∃ (s : State) (i : Fin 16), s.Next k [byteOf i.val]) ∧ ∀ k, ∃ (s : State) (b : Byte), 16 ≤ b.toNat ∧ s.Next k [b] :=
  ⟨fun k => ⟨_, 31, asked_next State.reset k _⟩, fun k => ⟨_, 32, by decide, asked_next State.reset k _⟩,
    fun k => ⟨_, 15, asked_next State.reset k _⟩, fun k => ⟨_, 16, by decide, asked_next State.reset k _⟩⟩

/-! ## Witnesses: groups, slips, recentres and windows -/

/-- The member with a current minimum. -/
def measured (m : Option Word) : Stream := { drawnAt 0 100 with clock := { current := m, transits := 1, last := none, stopped := false } }

theorem witness_GroupSetAndRecentre :
    (∃ (s : State) (g : Fin 16) (h l : Half) (w : Byte), s.Next 0x30 ([byteOf g.val] ++ be16 h.toNat ++ be16 l.toNat ++ [w])) ∧
    (∃ (s : State) (h l : Half) (w b : Byte), s.Next 0x30 ([b] ++ be16 h.toNat ++ be16 l.toNat ++ [w]) ∧ 16 ≤ b.toNat) ∧
    (∃ s : State, s.Next 0x33 [byteOf 0] ∧ ((s.group 0).anchored = false ∨ (s.group 0).pending ≠ none)) ∧
    (∃ (s : State) (q o m : Word), s.Next 0x33 [byteOf 0] ∧ (s.group 0).anchored = true ∧ (s.group 0).pending = none ∧
      (s.group 0).q = some q ∧ (s.group 0).oRef = some o ∧ 0 ∈ (s.group 0).members ∧ (s.stream 0).clock.current = some m ∧
      ∀ k ∈ (s.group 0).members, ∀ v, (s.stream k).clock.current = some v → v.toInt ≤ m.toInt) ∧
    (∀ e : Option Int, ∃ (s : State) (r : WindowReport), s.Next 0x33 [byteOf 0] ∧ (s.group 0).anchored = true ∧ (s.group 0).pending = none ∧
      (s.group 0).q = some 480 ∧ (s.group 0).oRef = some 0 ∧ (∀ j ∈ (s.group 0).members, (s.stream j).clock.current = none) ∧
      (s.group 0).report = some r ∧ r.e = e) := by
  refine ⟨⟨_, 15, 48, 1000, 64, asked_next State.reset _ _⟩, ⟨_, 0, 0, 0, 16, asked_next State.reset _ _, by decide⟩,
    ⟨_, asked_next State.reset _ _, .inl rfl⟩,
    ⟨_, 480, 0, 5, asked_next (linked (measured (some 5)) anchored) _ _, rfl, rfl, rfl, rfl, List.mem_singleton.mpr rfl, rfl, ?_⟩,
    fun e => ⟨_, _, asked_next (linked (measured none) { anchored with report := some { WindowReport.none with e := e } }) _ _,
      rfl, rfl, rfl, rfl, ?_, rfl, rfl⟩⟩
  · intro k hk v hv
    obtain rfl : k = 0 := List.mem_singleton.mp hk
    obtain rfl : (5 : Word) = v := Option.some.inj hv
    decide
  · intro j hj
    obtain rfl : j = 0 := List.mem_singleton.mp hj
    rfl

/-- With and without a slip due, at the last countdown, and with and without a recentre, before the window ends. -/
theorem witness_SlipsAndRecentresMoveQ :
    (∀ (dir : SlipDir) (countdown : Nat) (pending : Option Int), ∃ (s : State) (g : Group) (q : Word), s.resetLow = false ∧ g = s.group 0 ∧
      g.anchored = true ∧ g.q = some q ∧ (∀ n k, g.window = some (n, k) → k + 1 < 1000) ∧ g.dir = dir ∧ g.countdown = countdown ∧
      g.pending = pending) ∧
    ∃ s : State, s.resetLow = false ∧ (s.group 0).anchored = false := by
  refine ⟨fun dir countdown pending => ⟨linked (drawnAt 0 100)
      { anchored with window := some (4, 998), dir := dir, interval := some 300, countdown := countdown, pending := pending },
    _, 480, rfl, rfl, rfl, rfl, ?_, rfl, rfl, rfl⟩, State.reset, rfl, rfl⟩
  intro n k h
  obtain rfl : 998 = k := congrArg Prod.snd (Option.some.inj h)
  decide

theorem witness_WindowEndArithmetic :
    (∃ (g : Group) (before after : List (Fin 32 × Option Word)) (i : Fin 32) (m base : Word) (r : WindowReport), (∀ b ∈ before, b.2 = none) ∧
      g.leadLast = some i ∧ g.report = some r ∧ r.members.find? (fun e => e.1 = i) = some (i, some base) ∧
      before ++ (i, some m) :: after = [(1, none), (0, some 195), (2, some 211)]) ∧
    (∃ (g : Group) (before : List (Fin 32 × Option Word)) (i : Fin 32), (∀ b ∈ before, b.2 = none) ∧ g.leadLast ≠ some i) ∧
    (∃ mins : List (Fin 32 × Option Word), ∀ b ∈ mins, b.2 = none) ∧
    ∃ (g : Group) (mins : List (Fin 32 × Option Word)) (q o : Word) (j : Fin 32) (m : Word), g.q = some q ∧ g.oRef = some o ∧
      (j, some m) ∈ mins ∧ ∀ k v, (k, some v) ∈ mins → v.toInt ≤ m.toInt :=
  ⟨⟨{ anchored with leadLast := some 0, report := some { WindowReport.none with members := [(0, some 194)] } }, [(1, none)],
      [(2, some 211)], 0, 195, 194, _, by simp, rfl, rfl, rfl, rfl⟩,
    ⟨anchored, [(1, none)], 0, by simp, by simp [anchored, alone, Group.reset]⟩, ⟨[(0, none)], by simp⟩,
    anchored, [(0, some 211)], 480, 0, 0, 211, rfl, rfl, by decide, by simp⟩

theorem linked_stream (x : Stream) (g : Group) (i : Fin 32) : (linked x g).stream i = if i = 0 then x else .closed := by
  by_cases h : i = 0
  · subst h; rfl
  · have : (linked x g).stream i = (State.reset.setStream 0 x).stream i := rfl
    rw [this, setStream_stream_ne _ _ h]
    simp [h, State.stream, State.reset, Vector.get]

theorem linked_group (x : Stream) (g : Group) (k : Fin 16) : (linked x g).group k = if k = 0 then g else .reset := by
  by_cases h : k = 0
  · subst h; rfl
  · have : (linked x g).group k = (State.reset.setGroup 0 g).group k := rfl
    rw [this, setGroup_group_ne _ _ h]
    simp [h, State.group, State.reset, Vector.get]

/-- A state with one member in one group has its membership whole. -/
theorem linked_membership (x : Stream) (g : Group) (hx : x.state ≠ .closed) (hg : x.group = 0) (hm : g.members = [0]) :
    (linked x g).MembershipOk := by
  constructor
  · intro k i
    rw [linked_stream, linked_group]
    by_cases hk : k = 0 <;> by_cases hi : i = 0 <;> simp [hk, hi, hm, hg, hx, Group.reset, Stream.closed, eq_comm]
  · intro k
    rw [linked_group]
    by_cases hk : k = 0 <;> simp [hk, hm, Group.reset]
  · intro k
    rw [linked_group]
    by_cases hk : k = 0 <;> simp [hk, hm, Group.reset]

/-- With and without a slip due and a recentre pending; a member whose minimum moved by more than 10, one that STREAM_STOP reached in
the window, one returned to ACQUIRING, and one that drains. -/
theorem witness_WindowEndRollsTheMinimaOver :
    (∀ (dir : SlipDir) (countdown : Nat) (pending : Option Int), ∃ (s : State) (g : Group) (n q : Word) (x : Int), s.resetLow = false ∧
      g = s.group 0 ∧ g.anchored = true ∧ g.window = some (n, 999) ∧ g.q = some q ∧ g.dir = dir ∧ g.countdown = countdown ∧
      g.pending = pending ∧ s.MembershipOk ∧ g.delta (g.members.map (fun j => (j, (s.stream j).clock.current))) = some x ∧ 10 < x.natAbs) ∧
    ∀ st ∈ [StreamState.ready, .acquiring, .draining], ∀ stopped : Bool, ∃ (s : State) (g : Group) (n q : Word), s.resetLow = false ∧
      g = s.group 0 ∧ g.anchored = true ∧ g.window = some (n, 999) ∧ g.q = some q ∧ s.MembershipOk ∧ (0 : Fin 32) ∈ g.members ∧
      (s.stream 0).state = st ∧ (s.stream 0).clock = { current := none, transits := 0, last := some 5, stopped := stopped } := by
  refine ⟨fun dir countdown pending => ⟨linked (measured (some 11)) { anchored with
      window := some (41, 999), dir := dir, interval := some 300, countdown := countdown, pending := pending, leadLast := some 0
      report := some { WindowReport.none with members := [(0, some 0)] } }, _, 41, 480, 11, rfl, rfl, rfl, rfl, rfl, rfl, rfl, rfl,
    linked_membership _ _ (by decide) rfl rfl, rfl, by decide⟩, fun st hst stopped => ?_⟩
  have hc : st ≠ .closed := by rintro rfl; simp at hst
  exact ⟨linked { member st with clock := { current := none, transits := 0, last := some 5, stopped := stopped } }
      { anchored with window := some (41, 999) }, _, 41, 480, rfl, rfl, rfl, rfl, rfl, linked_membership _ _ hc rfl rfl,
    List.mem_singleton.mpr rfl, rfl, rfl⟩

/-- STREAM_STOP before a window end leaves the last minimum at the value of the window before, and the window end after it does not
(R96); an early resync does not either (R86). -/
theorem test_last_minimum_after_a_stop :
    let c : StreamClock := { current := some 3, transits := 1, last := some 5, stopped := false }
    c.stop.roll.last = some 5 ∧ c.stop.roll.roll.last = none ∧ c.drop.roll.last = none ∧ c.roll.last = some 3 := by decide

/-- Before the origin an ALIGNED line of a stream in OUTAGE holds, and that of a stream in PRIMED does not (R119, R154). -/
theorem test_outage_before_the_origin :
    (member .outage).firstSlot (-1) = .noReal ∧ (member .primed).firstSlot (-1) = .beforeOrigin := by decide

/-! ## Witnesses: the draw -/

theorem witness_PathWatchMarksASilentPath :
    (∀ p : PathId, ∃ (s : State) (x : Stream), s.resetLow = false ∧ x = s.stream 0 ∧ (p = .b → x.flowB ≠ none) ∧
      (x.state = .primed ∨ x.state = .playing ∨ x.state = .draining) ∧ (x.watch p).silent = 99 ∧ (x.watch p).mark = false) ∧
    ∃ (s : State) (x : Stream), s.resetLow = false ∧ x = s.stream 0 ∧ x.state ≠ .primed ∧ x.state ≠ .playing ∧ x.state ≠ .draining :=
  ⟨fun p => ⟨linked { drawnAt 0 100 with watchA := ⟨false, 99⟩, watchB := ⟨false, 99⟩ } anchored, _, rfl, rfl, fun _ => Option.some_ne_none (⟨.b, 515⟩ : Flow),
      .inr (.inl rfl), by cases p <;> rfl, by cases p <;> rfl⟩, State.reset, _, rfl, rfl, by decide, by decide, by decide⟩

/-- A member in every state with a recentre pending and with none, before a window end and at it, and one that no boundary touches; then, for the laws of a recentre, one that passes the end block, one
that goes on, one still before its origin, a draw before a served-to position, and one that passes it. -/
theorem witness_EveryDrawnMemberIsDrawnAtItsOffset :
    (∀ pending : Option Int, ∀ k : Nat, ∀ st ∈ [StreamState.ready, .primed, .playing, .outage, .draining, .ended],
      ∃ (s : State) (x : Stream) (g : Group) (q : Word),
        s.resetLow = false ∧ s.MembershipOk ∧ x = s.stream 0 ∧ x.state = st ∧ x.state ≠ .closed ∧ g = s.group x.group ∧ g.anchored = true ∧
        g.q = some q ∧ g.pending = pending ∧ g.window = some (41, k)) ∧
    (∀ st ∈ [StreamState.closed, .ready, .acquiring, .ended], ∃ (s : State) (x : Stream), s.resetLow = false ∧ s.MembershipOk ∧
      (∃ i, x = s.stream i) ∧ x.state = st ∧ (x.state = .closed ∨ (x.state.drawn = false ∧ (s.group x.group).anchored = false))) ∧
    (∃ ctx : DrawContext, ctx.fade = true) ∧
    (∃ (x : Stream) (stop adj : Int), 0 < adj ∧ x.origin = some (0, 0) ∧ x.ePlay = some 100 ∧ x.endSeq = some 101 ∧ x.state = .draining ∧
      Machine.sdiff 101 0 * 48 + 47 < stop + adj ∧ 0 < Machine.sdiff (101 + 1) 100) ∧
    (∃ (x : Stream) (b : Block) (stop adj : Int), 0 < adj ∧ x.origin = some (0, 0) ∧ x.ePlay = some 100 ∧ x.endSeq = none ∧ stop + adj = 4896 ∧
      x.ring = [.filled b] ∧ b.served = true ∧ 0 ≤ Machine.sdiff b.seq 100 ∧ Machine.sdiff b.seq 102 < 0) ∧
    (∃ (x : Stream) (stop adj : Int), 0 < adj ∧ x.origin = some (0, 0) ∧ x.ePlay = some 100 ∧ x.endSeq = none ∧ stop + adj < 0) ∧
    ∃ (x : Stream) (ctx : DrawContext) (pos t : Int), x.servedTo = some t ∧ pos + ctx.slip.sources ≤ t ∧ t < pos + 1 + ctx.slip.sources := by
  refine ⟨fun pending k st hst => ?_, fun st hst => ?_, ⟨{ hbc := 0, limit := 4, warning := 0, slip := .steady, fade := true }, rfl⟩,
    ⟨{ drawnAt 0 100 with state := .draining, endSeq := some 101 }, 4848, 48, by decide, rfl, rfl, rfl, rfl, by decide, by decide⟩,
    ⟨{ drawnAt 0 100 with ring := [.filled { storedBlock with served := true }] }, _, 4848, 48, by decide, rfl, rfl, rfl, by decide, rfl, rfl,
      by decide, by decide⟩,
    ⟨drawnAt 0 100, -96, 48, by decide, rfl, rfl, rfl, by decide⟩,
    { drawnAt 0 100 with servedTo := some 4848 }, { hbc := 0, limit := 4, warning := 0, slip := .steady, fade := false }, 4800, 4848, rfl, by decide, by decide⟩
  · have hc : st ≠ .closed := by rintro rfl; simp at hst
    exact ⟨linked { drawnAt 0 100 with state := st } { anchored with pending := pending, window := some (41, k) }, _, _, 480, rfl,
      linked_membership _ _ hc rfl rfl, rfl, rfl, hc, rfl, rfl, rfl, rfl, rfl⟩
  · have h (st : StreamState) (hc : st ≠ .closed) := linked_membership (member st) alone hc rfl rfl
    simp only [List.mem_cons, List.not_mem_nil, or_false] at hst
    rcases hst with rfl | rfl | rfl | rfl
    · exact ⟨_, _, rfl, h .ready (by decide), ⟨1, rfl⟩, rfl, .inl rfl⟩
    · exact ⟨_, _, rfl, h .ready (by decide), ⟨0, rfl⟩, rfl, .inr ⟨rfl, rfl⟩⟩
    · exact ⟨_, _, rfl, h .acquiring (by decide), ⟨0, rfl⟩, rfl, .inr ⟨rfl, rfl⟩⟩
    · exact ⟨_, _, rfl, h .ended (by decide), ⟨0, rfl⟩, rfl, .inr ⟨rfl, rfl⟩⟩

/-- A stored block of this sequence. -/
def blockOf (q : Word) : Block := { storedBlock with seq := q, sourceTime := q * 48 }

/-- A member playing at sequence 100 with that block and the next in its ring. -/
def fed : Stream :=
  { drawnAt 0 100 with ring := ((List.replicate 16 Slot.empty).set 4 (.filled (blockOf 100))).set 5 (.filled (blockOf 101)) }

/-- A read position below the served-to position, in the part-served slot of E_play: the draw serves silence there (R78), and an
ALIGNED line follows the slot's cue word (R154). -/
theorem test_below_served_to :
    let x := { fed with servedTo := some 4820 }
    x.place 4819 = none ∧ x.firstSlot 4819 = .real (some 5) ∧ x.firstSlot 4799 = .noReal := by decide

/-- A draw at boundary 110 with this slip. -/
def drawing (slip : Slip) : DrawContext := { hbc := 110, limit := 4, warning := 0, slip := slip, fade := false }

/-- A stream in this state, with this end sequence and both blocks of a draw at `pos` in its ring, meets the hypotheses on a real draw. -/
def RealDraw (st : StreamState) (endSeq : Option Word) (slip : Slip) (pos : Nat) : Prop :=
  ∃ (x : Stream) (p : Nat) (q : Word) (b0 b1 : Block),
    1 ≤ p ∧ p ≤ 47 ∧ ((drawing slip).slip = .steady ∨ (drawing slip).slip = .repeatAt p ∨ (drawing slip).slip = .dropAt p) ∧
    (drawing slip).fade = false ∧ x.state = st ∧ x.origin = some (0, 0) ∧ q = 0 + BitVec.ofNat 32 (pos / 48) ∧ x.ePlay = some q ∧
    x.endSeq = endSeq ∧ x.servedTo = none ∧ x.conceal.fadeInDue = false ∧ x.conceal.fadeIn = none ∧ x.depth ∈ [16, 32, 64, 128, 256] ∧
    0 < x.depth ∧ x.ring.length = x.depth ∧ x.slotAt q = .filled b0 ∧ b0.seq = q ∧ x.slotAt (q + 1) = .filled b1 ∧ b1.seq = q + 1

/-- No slip, a REPEAT at the first place and a DROP at the last, from the start and from the end of a block, in every state and with
every end sequence. -/
theorem real_draws (st : StreamState) (endSeq : Option Word) :
    ∀ slip ∈ [Slip.steady, .repeatAt 1, .dropAt 47], ∀ pos ∈ [4800, 4847], RealDraw st endSeq slip pos := by
  intro slip hs pos hp
  have hq : (100 : Word) = 0 + BitVec.ofNat 32 (pos / 48) := by
    simp only [List.mem_cons, List.not_mem_nil, or_false] at hp
    rcases hp with rfl | rfl <;> rfl
  have rest (p : Nat) (h1 : 1 ≤ p) (h2 : p ≤ 47) (h3 : slip = .steady ∨ slip = .repeatAt p ∨ slip = .dropAt p) :
      RealDraw st endSeq slip pos :=
    ⟨{ fed with state := st, endSeq := endSeq }, p, 100, blockOf 100, blockOf 101, h1, h2, h3, rfl, rfl, rfl, hq, rfl, rfl, rfl, rfl, rfl,
      (by decide : 16 ∈ [16, 32, 64, 128, 256]), (by decide : 0 < 16), rfl, by simp [Stream.slotAt, fed, drawnAt, member], rfl,
      by simp [Stream.slotAt, fed, drawnAt, member], rfl⟩
  simp only [List.mem_cons, List.not_mem_nil, or_false] at hs
  rcases hs with rfl | rfl | rfl
  · exact rest 1 (by decide) (by decide) (.inl rfl)
  · exact rest 1 (by decide) (by decide) (.inr (.inl rfl))
  · exact rest 47 (by decide) (by decide) (.inr (.inr rfl))

/-- A draw of two real blocks in each state, before the end block, into it and at it; a member in PRIMED whose first block stands in its ring, read before its origin and across it; a run of two FILLED slots. -/
theorem witness_RealSamplesFollowTheSlipMapping :
    (∀ st ∈ [StreamState.primed, .playing, .draining], ∀ endSeq ∈ [none, some (101 : Word), some 102],
      (∀ z, endSeq = some z → Machine.sdiff 100 z ≤ 0 ∧ Machine.sdiff (100 + 1) z ≤ 0) ∧
      ∀ slip ∈ [Slip.steady, .repeatAt 1, .dropAt 47], ∀ pos ∈ [4800, 4847], RealDraw st endSeq slip pos) ∧
    (∀ slip ∈ [Slip.steady, .repeatAt 1, .dropAt 47], ∀ pos ∈ [4800, 4847], RealDraw .draining (some 100) slip pos) ∧
    (∃ (x : Stream) (b : Block) (m : Nat), x.state = .primed ∧ x.servedTo = none ∧ 1 ≤ m ∧ m ≤ 47 ∧ -(48 : Int) + 48 ≤ 0 ∧
      x.origin = some (100, 4800) ∧ x.ePlay = some 100 ∧ x.endSeq = none ∧ x.slotAt 100 = .filled b ∧ b.seq = 100 ∧
      x.conceal.fadeInDue = false ∧ x.conceal.fadeIn = none ∧ x.headroomArmed = true ∧ x.ring.length = x.depth ∧ 0 < x.depth) ∧
    (∃ x : Stream, x.origin = some (0, 0) ∧ x.ePlay = some 100 ∧ 2 ≤ x.depth ∧
      (∀ j, j < 2 → ∃ b, x.slotAt (100 + BitVec.ofNat 32 j) = .filled b ∧ b.seq = 100 + BitVec.ofNat 32 j) ∧
      ¬∃ b, x.slotAt (100 + BitVec.ofNat 32 2) = .filled b ∧ b.seq = 100 + BitVec.ofNat 32 2) ∧
    (∃ x : Stream, x.origin = some (0, 0) ∧ x.ePlay = some 100 ∧ x.servedTo = some 4820 ∧ x.endSeq = some 101 ∧
      x.place 4799 = none ∧ x.place 4819 = none ∧ x.place 4820 = some (100, 20) ∧ x.place 4895 = some (101, 47) ∧ x.place 4896 = none) ∧
    (∀ armed : Bool, ∃ x : Stream, x.state = .playing ∧ x.headroomArmed = armed ∧ x.headroom 4800 = 96 ∧
      (96 : Int) < (3 : Nat) * 48 ∧ ((2 : Nat) : Int) * 48 ≤ 96) ∧ ∃ x : Stream, x.state ≠ .playing := by
  refine ⟨fun st _ endSeq he => ⟨fun z hz => ?_, real_draws st endSeq⟩, real_draws _ _, ⟨{ fed with state := .primed, origin := some (100, 4800) }, blockOf 100, 47, rfl, rfl, by decide, by decide, by decide, rfl, rfl,
      rfl, rfl, rfl, rfl, rfl, rfl, rfl, (by decide : 0 < 16)⟩,
    ⟨fed, rfl, rfl, (by decide : 2 ≤ 16), fun j hj => ?_, ?_⟩,
    ⟨{ fed with servedTo := some 4820, endSeq := some 101 }, rfl, rfl, rfl, rfl, by decide, by decide, by decide, by decide, by decide⟩,
    fun armed => ⟨{ fed with headroomArmed := armed }, rfl, rfl, by cases armed <;> decide +kernel, by decide, by decide⟩, Stream.closed, by decide⟩
  · obtain rfl : endSeq = some z := hz
    simp only [List.mem_cons, List.not_mem_nil, or_false, reduceCtorEq, false_or, Option.some.injEq] at he
    rcases he with rfl | rfl <;> decide
  · interval_cases j
    · exact ⟨blockOf 100, rfl, rfl⟩
    · exact ⟨blockOf 101, rfl, rfl⟩
  · rintro ⟨b, h, -⟩
    exact absurd (show (Slot.empty : Slot) = .filled b from h) (by simp)

/-- The last real block of a member. -/
def lastBlock (q : Word) : LastReal := { seq := q, sourceTime := q * 48, samples := List.replicate 48 [0x010100] }

/-- A member with a run of missing blocks behind it, whose next slot is EMPTY. -/
def starved (state : StreamState) (run : Word) (last : Option LastReal) (endSeq : Option Word) : Stream :=
  { drawnAt 0 100 with
    state := state, endSeq := endSeq, conceal := { Conceal.initial with missingRun := run, lastReal := last } }

/-- A member within a missing block, with the next block in its ring. -/
def halfway (fadeOut : Option Word) : Stream :=
  { drawnAt 0 100 with
    ring := ((List.replicate 16 Slot.empty).set 4 (.concealed 100)).set 5 (.filled (blockOf 101))
    conceal := { Conceal.initial with fadeInDue := true, fadeOut := fadeOut, lastReal := some (lastBlock 99) } }

/-- Every drawn state below the outage limit and at it, after the block just before, another and none, with no end sequence, at the
end block and before it; then a draw from within a block, real and then missing, and concealed (as the copy of a real block, and as
silence) and then real. -/
theorem witness_MissingBlockIsConcealed :
    (∀ st ∈ [StreamState.primed, .playing, .outage, .draining], ∀ run ∈ [(2 : Word), 3], ∀ last ∈ [none, some (lastBlock 99), some (lastBlock 98)],
      ∀ endSeq ∈ [none, some (100 : Word), some 101], ∃ (x : Stream) (q : Word),
      x.state = st ∧ x.conceal.missingRun = run ∧ x.conceal.lastReal = last ∧ x.conceal.missingRun.toNat + 1 < 2 ^ 32 ∧ x.endSeq = endSeq ∧
      x.headroomArmed = true ∧ x.origin = some (0, 0) ∧ q = 0 + BitVec.ofNat 32 100 ∧ x.ePlay = some q ∧ x.servedTo = none ∧
      0 < x.depth ∧ x.ring.length = x.depth ∧ x.slotAt q = .empty ∧ x.conceal.fadeOut = none ∧
      ∀ e, x.endSeq = some e → Machine.sdiff q e ≤ 0) ∧
    (∃ (x : Stream) (q : Word) (b : Block), x.headroomArmed = true ∧ x.state = .playing ∧ x.origin = some (0, 0) ∧
      q = 0 + BitVec.ofNat 32 100 ∧ x.ePlay = some q ∧ x.servedTo = none ∧ x.endSeq = none ∧ x.depth ∈ [16, 32, 64, 128, 256] ∧
      x.ring.length = x.depth ∧ x.slotAt q = .filled b ∧ b.seq = q ∧ x.slotAt (q + 1) = .empty ∧ x.conceal.fadeInDue = false ∧
      x.conceal.fadeIn = none) ∧
    (∀ fadeOut : Option Word, ∃ (x : Stream) (q : Word) (b : Block) (l : LastReal), x.headroomArmed = true ∧ x.state = .playing ∧
      x.origin = some (0, 0) ∧ q = 0 + BitVec.ofNat 32 100 ∧ x.ePlay = some q ∧ x.servedTo = none ∧ x.endSeq = none ∧
      x.depth ∈ [16, 32, 64, 128, 256] ∧ x.ring.length = x.depth ∧ x.slotAt q = .concealed q ∧ x.slotAt (q + 1) = .filled b ∧
      b.seq = q + 1 ∧ x.conceal.fadeInDue = true ∧ x.conceal.fadeOut = fadeOut ∧ x.conceal.lastReal = some l) ∧
    ∀ slip, (drawing slip).fade = false ∧ (drawing slip).warning = 0 ∧ (drawing slip).limit = 4 := by
  refine ⟨fun st _ run hr last _ endSeq he => ⟨starved st run last endSeq, 100, rfl, rfl, rfl, ?_, rfl, rfl, rfl, rfl, rfl, rfl,
      (by decide : 0 < 16), rfl, by simp [Stream.slotAt, starved, drawnAt, member], rfl, fun e h => ?_⟩,
    ⟨{ drawnAt 0 100 with ring := (List.replicate 16 Slot.empty).set 4 (.filled (blockOf 100)) }, 100, blockOf 100, rfl, rfl, rfl, rfl, rfl,
      rfl, rfl, by decide, rfl, rfl, rfl, rfl, rfl, rfl⟩,
    fun fadeOut => ⟨halfway fadeOut, 100, blockOf 101, lastBlock 99, rfl, rfl, rfl, rfl, rfl, rfl, rfl,
      (by decide : 16 ∈ [16, 32, 64, 128, 256]), rfl, by simp [Stream.slotAt, halfway, drawnAt, member],
      by simp [Stream.slotAt, halfway, drawnAt, member], rfl, rfl, rfl, rfl⟩,
    fun _ => ⟨rfl, rfl, rfl⟩⟩
  · simp only [List.mem_cons, List.not_mem_nil, or_false] at hr
    rcases hr with rfl | rfl <;> simp [starved]
  · obtain rfl : endSeq = some e := h
    simp only [List.mem_cons, List.not_mem_nil, or_false, reduceCtorEq, false_or, Option.some.injEq] at he
    rcases he with rfl | rfl <;> decide

/-- PLAYING, OUTAGE and DRAINING, with no end sequence, at the end block and before it, with a resume record and with none. -/
theorem witness_FirstRealBlockFadesIn :
    ∀ st ∈ [StreamState.playing, .outage, .draining], ∀ endSeq ∈ [none, some (100 : Word), some 101], ∀ resume : Option Resume,
      (st = .outage → resume.isSome = true) → ∃ (x : Stream) (q : Word) (b : Block) (r : Resume), x.state = st ∧ x.headroomArmed = true ∧
      x.origin = some (0, 0) ∧ q = 0 + BitVec.ofNat 32 100 ∧ x.ePlay = some q ∧ x.servedTo = none ∧ 0 < x.depth ∧
      x.ring.length = x.depth ∧ x.slotAt q = .filled b ∧ b.seq = q ∧ x.conceal.fadeInDue = true ∧ x.endSeq = endSeq ∧
      (∀ e, x.endSeq = some e → Machine.sdiff q e ≤ 0) ∧ x.resume = resume ∧ (x.state = .outage → x.resume = some r) := by
  intro st _ endSeq h resume hr
  refine ⟨{ fed with
      state := st, endSeq := endSeq, conceal := { Conceal.initial with fadeInDue := true }
      resume := resume },
    100, blockOf 100, resume.getD ⟨none, 0, 5⟩, rfl, rfl, rfl, rfl, rfl, rfl, (by decide : 0 < 16), rfl, by simp [Stream.slotAt, fed, drawnAt, member], rfl, rfl, rfl,
    fun e he => ?_, rfl, fun ho => ?_⟩
  · obtain rfl : endSeq = some e := he
    simp only [List.mem_cons, List.not_mem_nil, or_false, reduceCtorEq, false_or, Option.some.injEq] at h
    rcases h with rfl | rfl <;> decide
  · obtain ⟨r, rfl⟩ := Option.isSome_iff_exists.mp (hr ho)
    rfl

/-! ## Witnesses: output map, return feeds, signals, meters -/

/-- Every kind of source, with a field at its limit and one above it. -/
theorem witness_MapRequestsEditTheStagedCopies :
    (∀ kind p1 p2 : Byte, ∃ (s : State) (k : Fin 64) (gain : Half) (mute : Byte),
      s.Next 0x40 ([byteOf k.val, kind, p1, p2] ++ be16 gain.toNat ++ [mute]) ∧ mute.toNat ≤ 1) ∧
    ((31 : Byte).toNat = (31 : Fin 32).val ∧ (7 : Byte).toNat = (7 : Fin 8).val ∧ (1 : Byte).toNat = (1 : Fin 2).val ∧
      (15 : Byte).toNat = (15 : Fin 16).val) ∧
    (∀ k kind p1 p2 mute : Byte, ∃ (s : State) (gain : Half), s.Next 0x40 ([k, kind, p1, p2] ++ be16 gain.toNat ++ [mute])) ∧
    (∃ s : State, s.Next 0x41 []) ∧ (∀ b : Byte, ∃ s : State, s.Next 0x42 [b]) ∧
    ∀ first count clear : Byte, ∃ s : State, s.Next 0x43 [first, count, clear] :=
  ⟨fun _ _ _ => ⟨_, 63, 65535, 1, asked_next State.reset _ _, by decide⟩, by decide, fun _ _ _ _ _ => ⟨_, 0, asked_next State.reset _ _⟩,
    reset_asked _ _, fun _ => reset_asked _ _, fun _ _ _ => reset_asked _ _⟩

/-- Each kind of source, with a commit that applies and with none. -/
theorem witness_OutputBlockIsFormedThroughTheMap :
    ∀ (commit pending : Bool) (old new : MapCopy), ∃ s : State, s.resetLow = false ∧ s.MembershipOk ∧ s.output.commit = commit ∧
      (s.mapEntry 63).pending = pending ∧ (s.mapEntry 63).active = old ∧ (s.mapEntry 63).staged = new ∧
      (s.stream 0).state.drawn = true ∧ (s.group (s.stream 0).group).anchored = true := by
  intro commit pending old new
  have h := linked_membership (drawnAt 0 100) anchored (by decide) rfl rfl
  exact ⟨State.setMapEntry { linked (drawnAt 0 100) anchored with output := { OutputUnit.reset with commit := commit } } 63
      { active := old, staged := new, pending := pending, clipping := false, clips := 0 },
    rfl, ⟨h.1, h.2, h.3⟩, rfl, by simp, by simp, by simp, rfl, rfl⟩

/-- A feed that runs on both ports with a packing of 2. -/
def running (mode : FeedMode) (assembly : List (List Byte)) : Feed :=
  { Feed.reset with
    running := true, flowId := 4100, ports := .both, format := .l24, packing := 2, mode := mode, load := 1480, assembly := assembly
    assemblyMode := mode }

/-- STOPPED and RUNNING, with the format kept and changed, and ports gained with and without room. -/
theorem witness_ReturnSetStoresTheSettings :
    (∀ f y : Feed, ∃ s : State, s.feed 15 = f ∧ s.Next 0x50 ([byteOf 15] ++ be16 y.flowId.toNat ++
      [y.ports.code, byteOf y.channels, byteOf y.format.code, byteOf y.packing, y.mode.code] ++ beWord y.talkback ++
      [y.dimLine.elim 255 fun k => byteOf k.val] ++ be16 y.dimGain.toNat ++ be16 y.cueMask.toNat)) ∧
    (∃ (s : State) (f y : Feed), f = running .mix [] ∧ y = { f with flowId := 1, ports := .both } ∧
      (y.channels = 1 ∨ y.channels = 2) ∧ y.format ≠ .l32 ∧ y.packing ∈ [1, 2, 4] ∧ y = { f with
        flowId := y.flowId, ports := y.ports, channels := y.channels, format := y.format, packing := y.packing, mode := y.mode
        talkback := y.talkback, dimLine := y.dimLine, dimGain := y.dimGain, cueMask := y.cueMask } ∧
      ∀ p, (s.port p).transmitLoad + f.load ≤ (s.port p).transmitBudget) ∧
    (∀ b : List Byte, ∃ s : State, s.Next 0x50 b) ∧ field1 (16 :: List.replicate 16 0) 0 = 16 := by
  refine ⟨fun f y => ⟨_, ?_, asked_next (State.reset.setFeed 15 f) _ _⟩,
    ⟨State.reset, running .mix [], _, rfl, rfl, .inl rfl, by decide, by decide, rfl, fun p => by cases p <;> decide⟩,
    fun _ => reset_asked _ _, by decide⟩
  show (State.reset.setFeed 15 f).feed 15 = f
  simp

theorem witness_ReturnCoefStartStopAndQuery :
    (∃ (s : State) (r : Fin 16) (ch : Byte) (row : List Half), row.length = 32 ∧ s.Next 0x51 ([byteOf r.val, ch] ++ row.flatMap fun c => be16 c.toNat)) ∧
    (∀ clear : Byte, ∃ (s : State) (r : Fin 16), s.Next 0x54 [byteOf r.val, clear]) ∧
    (∃ (s : State) (b : Byte) (rest : List Byte), 16 ≤ b.toNat ∧ rest.length = 65 ∧ s.Next 0x51 (b :: rest)) ∧
    (∀ k ∈ [0x52, 0x53], ∃ (s : State) (b : Byte), 16 ≤ b.toNat ∧ s.Next k [b]) ∧
    (∀ k ∈ [0x52, 0x53], ∀ f : Feed, ∃ s : State, s.Next k [byteOf 15] ∧ s.feed 15 = f) ∧
    ∃ (s : State) (f : Feed), f.running = false ∧ f.flowId ≠ 0 ∧ f.ports.names .b = true ∧
      (s.port .b).transmitBudget < (s.port .b).transmitLoad + ((82 + f.packing * 48 * f.channels * f.format.bytes) * 8 + (f.packing - 1)) / f.packing := by
  refine ⟨⟨_, 15, 1, List.replicate 32 5, rfl, asked_next State.reset _ _⟩, fun _ => ⟨_, 15, asked_next State.reset _ _⟩,
    ⟨_, 16, List.replicate 65 0, by decide, rfl, asked_next State.reset _ _⟩, fun _ _ => ⟨_, 16, by decide, asked_next State.reset _ _⟩,
    fun k _ f => ⟨_, asked_next (State.reset.setFeed 15 f) k _, ?_⟩,
    { State.reset with portB := { State.reset.portB with transmitLoad := 98521 } }, { running .mix [] with running := false }, rfl, by decide, rfl, by decide⟩
  show (State.reset.setFeed 15 f).feed 15 = f
  simp

theorem running_ok (mode : FeedMode) (assembly : List (List Byte)) (h : assembly.length < 2) (hb : ∀ b ∈ assembly, b.length = 144) :
    (running mode assembly).Ok where
  channels := .inl rfl
  format := by simp [running]
  packing := .inr (.inl rfl)
  testFormat _ := rfl
  generator := by simp [running, Feed.reset]
  stopped h := by simp [running] at h
  running _ := ⟨by simp [running], show 1480 = flowLoad 2 1 .l24 by decide⟩
  unfinished := h
  assemblyFormat _ _ := rfl
  blockSizes := hb

/-- A feed whose packet takes its first block, and its last, in each mode, and one that is STOPPED; and two channels of a block. -/
theorem witness_ReturnPacketIsBuiltAndSent :
    (∃ (chans : List (List Sample)) (n c : Nat), n < 48 ∧ c < chans.length) ∧
    (∀ mode : FeedMode, ∃ (s : State) (f : Feed), s.resetLow = false ∧ f = s.feed 3 ∧ f.Ok ∧ f.running = true ∧
      f.assembly.length + 1 < f.packing ∧ f.assembly = [] ∧ f.mode = mode) ∧
    (∀ mode : FeedMode, ∃ (s : State) (f : Feed), s.resetLow = false ∧ f = s.feed 3 ∧ f.Ok ∧ f.running = true ∧
      f.assembly.length + 1 = f.packing ∧ f.assemblyMode = mode) ∧
    ∃ (s : State) (f : Feed), s.resetLow = false ∧ f = s.feed 3 ∧ f.Ok ∧ f.running = false := by
  refine ⟨⟨[List.replicate 48 1, List.replicate 48 2], 47, 1, by decide, by decide⟩,
    fun mode => ⟨State.reset.setFeed 3 (running mode []), _, rfl, rfl, ?_, ?_, ?_, ?_, ?_⟩,
    fun mode => ⟨State.reset.setFeed 3 (running mode [List.replicate 144 0]), _, rfl, rfl, ?_, ?_, ?_, ?_⟩,
    State.reset, .reset, rfl, rfl, ?_, rfl⟩
  · rw [setFeed_feed_self]
    exact running_ok mode _ (by decide) (by simp)
  · rw [setFeed_feed_self]; rfl
  · rw [setFeed_feed_self]; simp [running]
  · rw [setFeed_feed_self]; rfl
  · rw [setFeed_feed_self]; rfl
  · rw [setFeed_feed_self]
    exact running_ok mode _ (by decide) (by simp)
  · rw [setFeed_feed_self]; rfl
  · rw [setFeed_feed_self]; rfl
  · rw [setFeed_feed_self]; rfl
  · constructor <;> simp [Feed.reset]

theorem witness_MixIsTheExactSumRounded :
    (∃ d : Nat, 0 < d) ∧ (∃ (input : List Frame) (n : Nat), n < input.length) ∧ ∃ (raw : List Int) (n : Nat), n < raw.length :=
  ⟨⟨1, by decide⟩, ⟨[[5]], 0, by decide⟩, [8388608], 0, by decide⟩

theorem witness_SignalRequestsSetTheLines :
    (∀ mode st bit inv fail : Byte, ∃ (s : State) (k : Fin 16), s.Next 0x60 [byteOf k.val, mode, st, bit, inv, fail]) ∧
    ((31 : Byte).toNat = (31 : Fin 32).val ∧ (15 : Byte).toNat = (15 : Fin 16).val ∧ (2 : Byte) = FailValue.hold.code) ∧
    (∃ (s : State) (b : Byte) (rest : List Byte), rest.length = 5 ∧ s.Next 0x60 (b :: rest) ∧ 16 ≤ b.toNat) ∧
    (∃ (s : State) (mask values : Half), s.Next 0x61 (be16 mask.toNat ++ be16 values.toNat)) ∧
    ∃ (s : State) (mask : Half), s.Next 0x63 (be16 mask.toNat) :=
  ⟨fun _ _ _ _ _ => ⟨_, 15, asked_next State.reset _ _⟩, by decide, ⟨_, 16, List.replicate 5 0, rfl, asked_next State.reset _ _, by decide⟩,
    ⟨_, 0x8001, 0xFFFF, asked_next State.reset _ _⟩, _, 0x8001, asked_next State.reset _ _⟩

theorem witness_SignalQueryReportsTheRouter : ∃ s : State, s.Next 0x62 [] := reset_asked _ _

/-- A line of each mode whose stream is drawn, and a line whose stream is not; an input that changes with its mask flag set. -/
theorem witness_LinesFollowTheirStreamsAtABoundary :
    (∀ l : Line, l.stream = 0 → ∃ s : State, s.resetLow = false ∧ s.MembershipOk ∧ s.line 15 = l ∧ (s.stream l.stream).state.drawn = true ∧
      (s.group (s.stream l.stream).group).anchored = true) ∧
    (∀ l : Line, l.stream = 31 → ∃ s : State, s.resetLow = false ∧ s.MembershipOk ∧ s.line 15 = l ∧ (s.stream l.stream).state.drawn = false) ∧
    (∃ (s : State) (inp : BoundaryInput), s.resetLow = false ∧ inp.sigIn.getLsbD 15 ≠ s.signals.sampled.getLsbD 15 ∧
      s.signals.mask.getLsbD 15 = true) ∧
    (∃ x : Stream, x.origin = some (0, 0) ∧ x.slotAt 100 = .filled (blockOf 100) ∧ (blockOf 100).seq = 0 + BitVec.ofNat 32 (4800 / 48)) ∧
    ∃ x : Stream, x.origin = some (0, 0) ∧ ∀ b, x.slotAt (0 + BitVec.ofNat 32 (4800 / 48)) = .filled b → b.seq ≠ 100 := by
  have h := linked_membership (drawnAt 0 100) anchored (by decide) rfl rfl
  refine ⟨fun l hl => ⟨(linked (drawnAt 0 100) anchored).setLine 15 l, rfl, ⟨h.1, h.2, h.3⟩, by simp, by rw [hl]; rfl, by rw [hl]; rfl⟩,
    fun l hl => ⟨(linked (drawnAt 0 100) anchored).setLine 15 l, rfl, ⟨h.1, h.2, h.3⟩, by simp, by rw [hl]; rfl⟩,
    ⟨{ State.reset with signals := { SignalRouter.reset with mask := 0x8000 } }, { quiet with sigIn := 0x8000 }, rfl, by decide, by decide⟩,
    ⟨fed, rfl, rfl, rfl⟩, drawnAt 0 100, rfl, fun b h => absurd (show (Slot.empty : Slot) = .filled b from h) (by simp)⟩

theorem witness_MeterAndWatchRequests :
    (∀ n : Byte, ∃ s : State, s.Next 0x70 [n]) ∧ (∀ first count : Byte, ∃ s : State, s.Next 0x71 [first, count]) ∧
    (∀ (point measure mode pers : Byte) (low high : Word), ∃ (s : State) (k : Fin 16),
      s.Next 0x72 ([byteOf k.val, point, measure, mode] ++ beWord low ++ beWord high ++ [pers])) ∧
    ((95 : Byte).toNat = (95 : Fin 96).val ∧ (4 : Byte) = WatchMode.outside.code ∧ (1 : Byte) = Measure.mean.code) ∧
    (∃ (s : State) (b : Byte) (rest : List Byte), rest.length = 12 ∧ s.Next 0x72 (b :: rest) ∧ 16 ≤ b.toNat) ∧
    ∀ b : Byte, ∃ s : State, s.Next 0x73 [b] :=
  ⟨fun _ => reset_asked _ _, fun _ _ => reset_asked _ _, fun _ _ _ _ _ _ => ⟨_, 15, asked_next State.reset _ _⟩, by decide,
    ⟨_, 16, List.replicate 12 0, rfl, asked_next State.reset _ _, by decide⟩, fun _ => reset_asked _ _⟩

/-- Before the last block of a period and at it, with a watch in any condition. -/
theorem witness_MeterPeriodEndLatchesAndEvaluates :
    ∀ (blocks : Nat) (w : Watch), ∃ s : State, s.resetLow = false ∧ s.meters.blocks = blocks ∧ s.meters.exponent = 4 ∧ s.watch 15 = w := by
  intro blocks w
  exact ⟨State.setWatch { State.reset with meters := { MeterUnit.reset with exponent := 4, blocks := blocks } } 15 w, rfl, rfl, rfl, by simp⟩

theorem witness_CheckerFollowsTheTestSequence :
    (∃ v : BitVec 6, v ≠ 0) ∧ (∃ v : BitVec 23, v ≠ 0) ∧ (∃ (c : Checker) (n : Nat), c.sync = true ∧ 0 < n) ∧
    (∃ (c : Checker) (v : BitVec 23), c.sync = false ∧ v ≠ 0) ∧ (∃ (c : Checker) (v : Sample), c.sync = false ∧ v.getLsbD 0 = true) ∧
    (∀ m ≤ 15, ∃ (c : Checker) (v : Sample), c.sync = true ∧ v ≠ advanceTest c.lfsr ++ 0#1 ∧ c.mismatches = m) ∧
    (∀ clear : Byte, ∃ (s : State) (i : Fin 32), s.Next 0x74 [byteOf i.val, clear]) ∧
    ∃ (s : State) (b clear : Byte), 32 ≤ b.toNat ∧ s.Next 0x74 [b, clear] :=
  ⟨⟨63, by decide⟩, ⟨1, by decide⟩, ⟨{ Checker.initial with sync := true }, 1, rfl, by decide⟩, ⟨Checker.initial, 1, rfl, by decide⟩,
    ⟨Checker.initial, 1, rfl, by decide⟩, fun m _ => ⟨{ Checker.initial with sync := true, mismatches := m }, 1, rfl, by
      show (1 : Sample) ≠ advanceTest 1 ++ 0#1
      decide, rfl⟩,
    fun _ => ⟨_, 31, asked_next State.reset _ _⟩, _, 32, 0, by decide, asked_next State.reset _ _⟩

/-! ## Witnesses: invariants -/

theorem witness_QueuesKeepTheirOrder :
    (∃ s t : State, s.notices.Ok ∧ step s = .next t) ∧ ∃ s t : State, s.control.Ok ∧ step s = .next t :=
  ⟨⟨{ State.reset with notices := clips 64 }, _, clips_ok, rfl⟩, identifyAnswered, _,
    { bounded := by decide
      takenInOrder := List.pairwise_singleton _ _
      sendsOldest := by
        intro x hx _
        obtain rfl := Option.some.inj hx
        exact ⟨_, _, _, rfl, rfl, rfl⟩
      idleOnlyWhenNothingWaits := by intro h; exact absurd h (Option.some_ne_none _) }, rfl⟩

theorem group_reset_ok : Group.reset.Ok where
  inRange := by constructor <;> decide
  schedule := ⟨fun _ => ⟨rfl, rfl⟩, fun h => absurd rfl h⟩
  timeline := { unanchored := fun _ => ⟨rfl, rfl, rfl, rfl, rfl, rfl⟩, anchored := by decide, window := by intro n k h; cases h }
  account := by intro q a h; cases h

/-- A group that has slipped: one repeat since its anchor. -/
def slipped : Group :=
  { anchored with q := some 481, repeats := 1, dir := .repeating, interval := some 100, countdown := 100, window := some (0, 999) }

theorem slipped_ok : slipped.Ok where
  inRange := by constructor <;> decide
  schedule := ⟨fun h => absurd h (by decide), fun _ => ⟨100, rfl, by decide, by decide, by decide, by decide⟩⟩
  timeline := { unanchored := by decide, anchored := fun _ => ⟨rfl, rfl, rfl⟩, window := by intro n k h; cases h; decide }
  account := by intro q a _ hq ha; cases hq; cases ha; decide

theorem witness_GroupsKeepTheirAccountOfQ :
    ∃ s t : State, (∀ g, (s.group g).Ok) ∧ (s.group 0).anchored = true ∧ step s = .next t := by
  refine ⟨linked (drawnAt 0 100) slipped, _, fun g => ?_, rfl, rfl⟩
  rw [linked_group]
  split
  · exact slipped_ok
  · exact group_reset_ok

theorem witness_AccountsBalance : ∃ s t : State, s.AccountsOk ∧ s.slotsInUse = 16 ∧ step s = .next t :=
  ⟨{ linked (drawnAt 0 100) anchored with
      portA := { upPort with ingestLoad := 1424, ingestBudget := 1424 }, portB := { upPort with ingestLoad := 1424 } }, _,
    { slotSum := by decide +kernel
      slotsFit := by decide
      ports := fun p => by cases p <;> constructor <;> decide +kernel }, rfl, rfl⟩

/-- The member that plays its first block, every field in range. -/
theorem witness_StreamsKeepTheirShape : ∃ s t : State, s.StreamsOk ∧ (s.stream 0).state = .playing ∧ step s = .next t := by
  refine ⟨linked (drawnAt 0 100) anchored, _, ?_, rfl, rfl⟩
  have hm := linked_membership (drawnAt 0 100) anchored (by decide) rfl rfl
  constructor
  · intro i
    rw [linked_stream]
    split
    · constructor <;> simp [drawnAt, member, Stream.closed] <;> decide
    · constructor <;> simp [Stream.closed] <;> decide
  · exact hm
  · constructor
    · intro i
      rw [linked_stream]
      split
      · next h => subst h; rfl
      · next h => exact (by decide +kernel : ∀ i : Fin 32, i ≠ 0 → ((linked (drawnAt 0 100) anchored).flows.get (entryA i)).bound = false) i h
    · intro i
      rw [linked_stream]
      split
      · next h => subst h; rfl
      · next h => exact (by decide +kernel : ∀ i : Fin 32, i ≠ 0 → ((linked (drawnAt 0 100) anchored).flows.get (entryB i)).bound = false) i h
    · decide +kernel
  · intro i
    rw [linked_stream]
    split
    · intro _; rfl
    · intro h; cases h
  · intro g
    rw [linked_group]
    split
    · intro _
      exact ⟨0, List.mem_singleton.mpr rfl, rfl⟩
    · intro h; cases h

theorem witness_UnitsKeepTheirRanges :
    (∃ s t : State, s.clock.Ok ∧ step s = .next t) ∧ (∃ s t : State, (∀ k, (s.mapEntry k).Ok) ∧ step s = .next t) ∧
    (∃ s t : State, (∀ r, (s.feed r).Ok) ∧ step s = .next t) ∧ ∃ s t : State, s.meters.Ok ∧ step s = .next t := by
  refine ⟨⟨clocked .locking 999 0, _, ⟨by decide, fun h => absurd rfl h⟩, rfl⟩, ⟨State.reset, _, fun k => ?_, rfl⟩,
    ⟨{ State.reset with returns := { ReturnMixer.reset with feeds := Vector.replicate 16 (running .mix []) } }, _, fun r => ?_, rfl⟩,
    { State.reset with meters := { MeterUnit.reset with
        exponent := 10, blocks := 1023
        watches := Vector.replicate 16 { Watch.reset with mode := .inside, state := .tripped, persistence := 255, run := 254 } } },
    _, ⟨by decide, by decide, fun w => ?_⟩, rfl⟩
  · simp [State.mapEntry, State.reset, OutputUnit.reset, MapEntry.Ok, MapEntry.reset, Vector.get]
  · have : (State.feed { State.reset with returns := { ReturnMixer.reset with feeds := Vector.replicate 16 (running .mix []) } } r) =
        running .mix [] := by simp [State.feed, Vector.get]
    rw [this]
    exact running_ok .mix [] (by decide) (by simp)
  · simp only [Vector.get, Vector.toArray_replicate, Array.getElem_replicate]
    constructor <;> decide

end Sys2Proof.Tests
end

section
/-! SUPPORT. The media side of the part (streams, groups, flows, slots, ports, feeds) and everything that a command can do to it:
one case for each way in which it moves. The invariants of that side are derived from these cases. -/

namespace Sys2Proof.Machine

/-! ## States with the same media side -/

/-- Two states agree on the streams with their groups, flows and slots, on the ports, and on the return feeds. -/
structure State.SameMedia (s t : State) : Prop where
  streams : t.streams = s.streams
  groups : t.groups = s.groups
  flows : t.flows = s.flows
  slotsInUse : t.slotsInUse = s.slotsInUse
  portA : t.portA = s.portA
  portB : t.portB = s.portB
  feeds : t.returns.feeds = s.returns.feeds

namespace State.SameMedia

theorem refl (s : State) : s.SameMedia s := ⟨rfl, rfl, rfl, rfl, rfl, rfl, rfl⟩

theorem trans {s t u : State} (h : s.SameMedia t) (k : t.SameMedia u) : s.SameMedia u :=
  ⟨k.streams.trans h.streams, k.groups.trans h.groups, k.flows.trans h.flows, k.slotsInUse.trans h.slotsInUse,
    k.portA.trans h.portA, k.portB.trans h.portB, k.feeds.trans h.feeds⟩

theorem stream {s t : State} (h : s.SameMedia t) (i : Fin 32) : t.stream i = s.stream i := by
  simp [State.stream, h.streams]

theorem group {s t : State} (h : s.SameMedia t) (g : Fin 16) : t.group g = s.group g := by
  simp [State.group, h.groups]

theorem port {s t : State} (h : s.SameMedia t) (p : PortId) : t.port p = s.port p := by
  cases p
  · exact h.portA
  · exact h.portB

theorem answer (s : State) (body : List Byte) : s.SameMedia (s.answer body) := ⟨rfl, rfl, rfl, rfl, rfl, rfl, rfl⟩

theorem withPending (s : State) (q : List Instr) : s.SameMedia (s.withPending q) := ⟨rfl, rfl, rfl, rfl, rfl, rfl, rfl⟩

theorem post (s : State) (p : Post) : s.SameMedia (s.post p) := ⟨rfl, rfl, rfl, rfl, rfl, rfl, rfl⟩

theorem atSample (s : State) (n : Fin 48) : s.SameMedia (s.atSample n) :=
  ⟨by simp, by simp, by simp, by simp, by simp, by simp, by simp⟩

theorem setPort {s t : State} (h : s.SameMedia t) (p : PortId) (x : Port) : (s.setPort p x).SameMedia (t.setPort p x) := by
  cases p
  · exact ⟨h.streams, h.groups, h.flows, h.slotsInUse, rfl, h.portB, h.feeds⟩
  · exact ⟨h.streams, h.groups, h.flows, h.slotsInUse, h.portA, rfl, h.feeds⟩

end State.SameMedia

/-! ## The ways in which the media side moves -/

/-- The figures of a port that the accounts are about: its budgets and loads (R10). -/
def Port.account (x : Port) : Nat × Nat × Nat × Nat := (x.ingestBudget, x.transmitBudget, x.ingestLoad, x.transmitLoad)

/-- The media side that every reset leaves (R15, R16, R23, R46, R138). -/
structure State.MediaReset (t : State) : Prop where
  streams : t.streams = Vector.replicate 32 .closed
  groups : t.groups = Vector.replicate 16 .reset
  flows : t.flows = Vector.replicate 64 .unbound
  slotsInUse : t.slotsInUse = 0
  portA : ∃ c, t.portA = .reset c
  portB : ∃ c, t.portB = .reset c
  feeds : t.returns.feeds = Vector.replicate 16 .reset

/-- Everything that a command can do to the media side. -/
inductive State.MediaChange (s : State) : State → Prop
  | stands : s.MediaChange s
  /-- Power-on, RESETn and the RESET request (R182, R183, R181). -/
  | reset {t : State} (h : t.MediaReset) : s.MediaChange t
  | boundary (inp : BoundaryInput) : s.MediaChange (s.boundary inp)
  | arrival (p : PortId) (n : Fin 48) (d : List Byte) : s.MediaChange ((s.atSample n).arrival p d)
  /-- A port moves, or its counters do, with its account as it stands (R7, R12, R14). -/
  | port (p : PortId) (x : Port) (h : x.account = (s.port p).account) : s.MediaChange (s.setPort p x)
  /-- PORT_BUDGET (R13). -/
  | budget (p : PortId) (ingest transmit : Nat) (ranges : budgetInRange ingest = true ∧ budgetInRange transmit = true)
      (fits : (ingest = 0 ∨ (s.port p).ingestLoad ≤ ingest) ∧ (transmit = 0 ∨ (s.port p).transmitLoad ≤ transmit)) :
      s.MediaChange (s.setPort p { s.port p with
        ingestBudget := newBudget (s.port p).ingestBudget ingest
        transmitBudget := newBudget (s.port p).transmitBudget transmit })
  /-- STREAM_OPEN (R28). -/
  | opened (i : Fin 32) (o : OpenFields) (body : List Byte) (closed : (s.stream i).state = .closed)
      (fields : openFields body = some o) (checks : o.checks s = .ok ()) : s.MediaChange (s.openStream i o)
  /-- STREAM_START (R32). -/
  | started (i : Fin 32) (ready : (s.stream i).state = .ready) :
      s.MediaChange (s.setStream i { s.stream i with state := .acquiring })
  /-- STREAM_STOP (R33). -/
  | stopped (i : Fin 32) (isOpen : (s.stream i).state ≠ .closed) : s.MediaChange (s.stopStream i)
  /-- STREAM_CLOSE (R34). -/
  | closed (i : Fin 32) (isOpen : (s.stream i).state ≠ .closed) : s.MediaChange (s.closeStream i)
  /-- STREAM_REPAIR (R39). -/
  | repaired (i : Fin 32) (isOpen : (s.stream i).state ≠ .closed) (pair : (s.stream i).pair ≠ .single) :
      s.MediaChange (s.setStream i { s.stream i with pair := .paired, windowMismatches := 0 })
  /-- The counts of a checker cleared by TEST_QUERY (R174). -/
  | tested (i : Fin 32) : s.MediaChange (s.setStream i
      { s.stream i with checker := { (s.stream i).checker with errors := 0, gaps := 0, checked := 0 } })
  /-- GROUP_SET and GROUP_RECENTRE (R49, R59). -/
  | group (g : Fin 16) (x : Group) (members : x.members = (s.group g).members) (anchored : x.anchored = (s.group g).anchored) :
      s.MediaChange (s.setGroup g x)
  /-- A feed changes with what it charges as it stands (R140, R141, R150). -/
  | feed (r : Fin 16) (y : Feed) (h : ∀ p, y.chargeAt p = (s.feed r).chargeAt p) : s.MediaChange (s.setFeed r y)
  /-- A feed's load moves from the ports of `old` to the ports of `new` (R140, R142, R143, R144). -/
  | feedMoved (r : Fin 16) (y : Feed) (old new : PortId → Bool) (load : Nat)
      (before : ∀ p, (s.feed r).chargeAt p = if old p then load else 0) (after : ∀ p, y.chargeAt p = if new p then load else 0)
      (fits : ∀ p, (s.port p).admitsTransmit (old p) (new p) load = true) :
      s.MediaChange { s.setFeed r y with
        portA := s.portA.moveTransmit (old .a) (new .a) load
        portB := s.portB.moveTransmit (old .b) (new .b) load }

/-- `t` is reached from `s` by one of these changes, and by changes outside the media side. -/
def State.MediaMoves (s t : State) : Prop := ∃ u, s.MediaChange u ∧ u.SameMedia t

theorem State.MediaMoves.of_same {s t : State} (h : s.SameMedia t) : s.MediaMoves t := ⟨s, .stands, h⟩

theorem State.MediaMoves.of_change {s t : State} (h : s.MediaChange t) : s.MediaMoves t := ⟨t, h, .refl t⟩

theorem State.MediaMoves.then_same {s t u : State} (h : s.MediaMoves t) (k : t.SameMedia u) : s.MediaMoves u := by
  obtain ⟨v, hv, hs⟩ := h
  exact ⟨v, hv, hs.trans k⟩

theorem State.MediaMoves.posted {s t : State} (h : s.MediaMoves t) (p : Post) : s.MediaMoves (t.post p) := h.then_same (.post t p)

/-! ## Requests -/

/-- A check that a served request has passed. -/
@[simp] theorem require_bind_ok {β : Type} (c : Bool) (st : Status) (k : Unit → Except Status β) (r : β) :
    (require c st >>= k) = .ok r ↔ c = true ∧ k () = .ok r := by
  cases c
  · simp [require, bind, Except.bind]
  · simp [require, bind, Except.bind]

/-- A request's effects stay outside the media side. -/
def ServesOutsideMedia (serve : State → List Byte → Served) : Prop :=
  ∀ s body t data, serve s body = .ok (t, data) → s.SameMedia t

/-- A request's effects on the media side are among its changes. -/
def ServesMedia (serve : State → List Byte → Served) : Prop :=
  ∀ s body t data, serve s body = .ok (t, data) → s.MediaMoves t

theorem ServesOutsideMedia.servesMedia {serve : State → List Byte → Served} (h : ServesOutsideMedia serve) : ServesMedia serve :=
  fun s body t data e => .of_same (h s body t data e)

/-- The taking of a request moves the media side as its serving does. -/
theorem take_media {serve : State → List Byte → Served} (h : ServesMedia serve) (s : State) (kind : Byte) :
    s.MediaMoves (s.take kind serve) := by
  obtain e | ⟨body, e⟩ | ⟨r, t, data, -, -, -, hs, e⟩ := take_cases s kind serve
  · rw [e]; exact .of_same (.refl s)
  · rw [e]; exact .of_same (.answer s body)
  · rw [e]; exact (h s r.body t data hs).then_same (.answer t _)

theorem serveIdentify_media : ServesOutsideMedia serveIdentify := by
  rintro s body t data ⟨⟩
  exact .refl s

theorem serveReset_media : ServesOutsideMedia serveReset := by
  rintro s body t data ⟨⟩
  exact ⟨rfl, rfl, rfl, rfl, rfl, rfl, rfl⟩

theorem serveClockQuery_media (n : Fin 48) : ServesOutsideMedia fun s body => serveClockQuery (s.atSample n) body := by
  rintro s body t data ⟨⟩
  exact .atSample s n

theorem serveNoticeFetch_media : ServesOutsideMedia serveNoticeFetch := by
  intro s body t data h
  simp only [serveNoticeFetch, require_bind_ok] at h
  obtain ⟨-, ⟨⟩⟩ := h
  exact ⟨rfl, rfl, rfl, rfl, rfl, rfl, rfl⟩

theorem serveNoticeEnable_media : ServesOutsideMedia serveNoticeEnable := by
  intro s body t data h
  simp only [serveNoticeEnable, require_bind_ok] at h
  obtain ⟨-, ⟨⟩⟩ := h
  exact ⟨rfl, rfl, rfl, rfl, rfl, rfl, rfl⟩

theorem serveStreamQuery_media : ServesOutsideMedia serveStreamQuery := by
  intro s body t data h
  unfold serveStreamQuery at h
  split at h
  · cases h
  · cases h; exact .refl s

theorem serveStreamClock_media : ServesOutsideMedia serveStreamClock := by
  intro s body t data h
  unfold serveStreamClock at h
  split at h
  · cases h
  · cases h; exact .refl s

theorem serveGroupQuery_media : ServesOutsideMedia serveGroupQuery := by
  intro s body t data h
  unfold serveGroupQuery at h
  split at h
  · cases h
  · cases h; exact .refl s

theorem serveGroupClock_media : ServesOutsideMedia serveGroupClock := by
  intro s body t data h
  unfold serveGroupClock at h
  split at h
  · cases h
  · cases h; exact .refl s

theorem serveMapSet_media : ServesOutsideMedia serveMapSet := by
  intro s body t data h
  unfold serveMapSet at h
  split at h
  · cases h
  split at h
  · cases h
  simp only [require_bind_ok] at h
  obtain ⟨-, ⟨⟩⟩ := h
  exact ⟨rfl, rfl, rfl, rfl, rfl, rfl, rfl⟩

theorem serveMapCommit_media : ServesOutsideMedia serveMapCommit := by
  rintro s body t data ⟨⟩
  exact ⟨rfl, rfl, rfl, rfl, rfl, rfl, rfl⟩

theorem serveMapDiscard_media : ServesOutsideMedia serveMapDiscard := by
  intro s body t data h
  simp only [serveMapDiscard] at h
  split at h
  · cases h; exact ⟨rfl, rfl, rfl, rfl, rfl, rfl, rfl⟩
  split at h
  · cases h
  · cases h; exact ⟨rfl, rfl, rfl, rfl, rfl, rfl, rfl⟩

theorem serveMapQuery_media : ServesOutsideMedia serveMapQuery := by
  intro s body t data h
  simp only [serveMapQuery] at h
  split at h
  · cases h
  simp only [require_bind_ok] at h
  obtain ⟨-, ⟨⟩⟩ := h
  split
  · exact ⟨rfl, rfl, rfl, rfl, rfl, rfl, rfl⟩
  · exact .refl s

theorem serveSignalSet_media : ServesOutsideMedia serveSignalSet := by
  intro s body t data h
  unfold serveSignalSet at h
  split at h
  · cases h
  split at h
  · cases h
  · cases h; exact ⟨rfl, rfl, rfl, rfl, rfl, rfl, rfl⟩

theorem serveSignalOverride_media : ServesOutsideMedia serveSignalOverride := by
  rintro s body t data ⟨⟩
  exact ⟨rfl, rfl, rfl, rfl, rfl, rfl, rfl⟩

theorem serveSignalQuery_media : ServesOutsideMedia serveSignalQuery := by
  rintro s body t data ⟨⟩
  exact .refl s

theorem serveSiginMask_media : ServesOutsideMedia serveSiginMask := by
  rintro s body t data ⟨⟩
  exact ⟨rfl, rfl, rfl, rfl, rfl, rfl, rfl⟩

theorem serveMeterSet_media : ServesOutsideMedia serveMeterSet := by
  intro s body t data h
  simp only [serveMeterSet, require_bind_ok] at h
  obtain ⟨-, ⟨⟩⟩ := h
  exact ⟨rfl, rfl, rfl, rfl, rfl, rfl, rfl⟩

theorem serveMeterRead_media : ServesOutsideMedia serveMeterRead := by
  intro s body t data h
  simp only [serveMeterRead] at h
  split at h
  · cases h
  simp only [require_bind_ok] at h
  obtain ⟨-, ⟨⟩⟩ := h
  exact .refl s

theorem serveWatchSet_media : ServesOutsideMedia serveWatchSet := by
  intro s body t data h
  unfold serveWatchSet at h
  split at h
  · cases h
  split at h
  · cases h
  · cases h; exact ⟨rfl, rfl, rfl, rfl, rfl, rfl, rfl⟩

theorem serveWatchQuery_media : ServesOutsideMedia serveWatchQuery := by
  intro s body t data h
  simp only [serveWatchQuery] at h
  split at h
  · cases h; exact .refl s
  split at h
  · cases h
  · cases h; exact .refl s

/-! ## Port requests -/

theorem Port.enable_account (x : Port) (hs : Word) : (x.enable hs).account = x.account := by
  unfold Port.enable
  split
  · rfl
  · rfl
  · rfl
  · rfl

theorem servePortEnable_media (n : Fin 48) : ServesMedia fun s body => servePortEnable (s.atSample n) body := by
  intro s body t data h
  simp only [servePortEnable, require_bind_ok] at h
  obtain ⟨-, ⟨⟩⟩ := h
  refine ⟨_, .port (portOf (field1 body 0)) _ ?_, (State.SameMedia.atSample s n).setPort _ _⟩
  rw [atSample_port]
  exact Port.enable_account _ _

theorem servePortDisable_media : ServesMedia servePortDisable := by
  intro s body t data h
  simp only [servePortDisable, require_bind_ok] at h
  obtain ⟨-, ⟨⟩⟩ := h
  exact .of_change (.port _ _ rfl)

theorem servePortBudget_media : ServesMedia servePortBudget := by
  intro s body t data h
  simp only [servePortBudget, require_bind_ok, Bool.and_eq_true, Bool.or_eq_true, beq_iff_eq, decide_eq_true_eq] at h
  obtain ⟨⟨⟨-, hi⟩, ht⟩, hfit, ⟨⟩⟩ := h
  exact .of_change (.budget _ _ _ ⟨hi, ht⟩ hfit)

theorem servePortQuery_media (n : Fin 48) : ServesMedia fun s body => servePortQuery (s.atSample n) body := by
  intro s body t data h
  simp only [servePortQuery, require_bind_ok] at h
  obtain ⟨-, ⟨⟩⟩ := h
  split
  · refine ⟨_, .port (portOf (field1 body 0)) _ ?_, (State.SameMedia.atSample s n).setPort _ _⟩
    rw [atSample_port]
    rfl
  · exact .of_same (.atSample s n)

/-! ## Stream requests -/

theorem serveStreamOpen_media : ServesMedia serveStreamOpen := by
  intro s body t data h
  unfold serveStreamOpen at h
  split at h
  · cases h
  next i _ =>
  split at h
  · cases h
  next hc =>
  split at h
  · cases h
  next o ho =>
  cases hk : o.checks s with
  | error st => rw [hk] at h; cases h
  | ok u =>
    rw [hk] at h
    cases h
    exact .of_change (.opened i o body (not_not.mp hc) ho hk)

theorem serveStreamStart_media : ServesMedia serveStreamStart := by
  intro s body t data h
  unfold serveStreamStart at h
  split at h
  · cases h
  split at h
  next hr => cases h; exact .of_change (.started _ hr)
  · cases h

theorem serveStreamStop_media : ServesMedia serveStreamStop := by
  intro s body t data h
  unfold serveStreamStop at h
  split at h
  · cases h
  next i _ =>
  have stopped : (s.stream i).state ≠ .closed → s.MediaMoves (s.stopStream i) := fun ho => .of_change (.stopped i ho)
  cases hx : (s.stream i).state with
  | closed => rw [hx] at h; cases h
  | ready => rw [hx] at h; cases h; exact .of_same (.refl s)
  | acquiring | primed | playing | outage | draining | ended =>
    rw [hx] at h
    cases h
    exact stopped (by rw [hx]; decide)

theorem serveStreamClose_media : ServesMedia serveStreamClose := by
  intro s body t data h
  unfold serveStreamClose at h
  split at h
  · cases h
  split at h
  · cases h
  next ho => cases h; exact .of_change (.closed _ ho)

theorem serveStreamRepair_media : ServesMedia serveStreamRepair := by
  intro s body t data h
  unfold serveStreamRepair at h
  split at h
  · cases h
  next i _ =>
  dsimp only at h
  split at h
  · cases h
  next ho =>
  cases hp : (s.stream i).pair with
  | single => rw [hp] at h; cases h
  | paired =>
    rw [hp] at h
    cases h
    exact .of_change (.repaired i ho (by rw [hp]; decide))
  | pairFault =>
    rw [hp] at h
    cases h
    exact .of_change (.repaired i ho (by rw [hp]; decide))

theorem serveTestQuery_media : ServesMedia serveTestQuery := by
  intro s body t data h
  unfold serveTestQuery at h
  split at h
  · cases h
  simp only [require_bind_ok] at h
  obtain ⟨-, ⟨⟩⟩ := h
  split
  · exact .of_change (.tested _)
  · exact .of_same (.refl s)

/-! ## Group and feed requests -/

theorem serveGroupSet_media : ServesMedia serveGroupSet := by
  intro s body t data h
  unfold serveGroupSet at h
  split at h
  · cases h
  simp only [require_bind_ok] at h
  obtain ⟨-, -, ⟨⟩⟩ := h
  exact .of_change (.group _ _ rfl rfl)

theorem serveGroupRecentre_media : ServesMedia serveGroupRecentre := by
  intro s body t data h
  unfold serveGroupRecentre at h
  split at h
  · cases h
  split at h
  · split at h
    · cases h
    · cases h; exact .of_change (.group _ _ rfl rfl)
  · cases h

/-- The fields of a RETURN_SET leave whether the feed runs and the load that it is charged. -/
theorem Feed.withFields_charged {f y : Feed} {body : List Byte} (h : f.withFields body = some y) :
    y.running = f.running ∧ y.load = f.load := by
  unfold Feed.withFields at h
  split at h
  · dsimp only at h
    split at h
    · cases h; exact ⟨rfl, rfl⟩
    · cases h
  · cases h

theorem serveReturnSet_media : ServesMedia serveReturnSet := by
  intro s body t data h
  unfold serveReturnSet at h
  split at h
  · cases h
  next r _ =>
  dsimp only at h
  split at h
  · cases h
  next y hy =>
  obtain ⟨hrun, hload⟩ := Feed.withFields_charged hy
  simp only [require_bind_ok] at h
  obtain ⟨-, hfit, ⟨⟩⟩ := h
  cases hr : (s.feed r).running with
  | false => exact .of_change (.feed r y fun p => by simp [Feed.chargeAt, hrun, hr])
  | true =>
    rw [hr] at hfit
    simp only [Bool.not_true, Bool.false_or, Bool.and_eq_true] at hfit
    refine .of_change (.feedMoved r y (s.feed r).ports.names y.ports.names (s.feed r).load ?_ ?_ ?_)
    · intro p; simp [Feed.chargeAt, hr]
    · intro p; simp [Feed.chargeAt, hrun, hr, hload]
    · intro p
      cases p
      · exact hfit.1
      · exact hfit.2

theorem serveReturnCoef_media : ServesMedia serveReturnCoef := by
  intro s body t data h
  unfold serveReturnCoef at h
  split at h
  · cases h
  simp only [require_bind_ok] at h
  obtain ⟨-, ⟨⟩⟩ := h
  refine .of_change (.feed _ _ fun p => ?_)
  split
  · rfl
  · rfl

theorem serveReturnStart_media : ServesMedia serveReturnStart := by
  intro s body t data h
  unfold serveReturnStart at h
  split at h
  · cases h
  next r _ =>
  simp only [require_bind_ok, Bool.not_eq_true', Bool.and_eq_true] at h
  obtain ⟨hr, -, hfit, ⟨⟩⟩ := h
  refine .of_change (.feedMoved r _ (fun _ => false) (s.feed r).ports.names (s.feed r).loadFigure ?_ ?_ ?_)
  · intro p; simp [Feed.chargeAt, hr]
  · intro p; simp [Feed.chargeAt]
  · intro p
    cases p
    · exact hfit.1
    · exact hfit.2

theorem serveReturnStop_media : ServesMedia serveReturnStop := by
  intro s body t data h
  unfold serveReturnStop at h
  split at h
  · cases h
  next r _ =>
  dsimp only at h
  split at h
  next hr =>
    cases h
    refine .of_change (.feedMoved r _ (s.feed r).ports.names (fun _ => false) (s.feed r).load ?_ ?_ ?_)
    · intro p; simp [Feed.chargeAt, hr]
    · intro p; simp [Feed.chargeAt]
    · intro p; simp [Port.admitsTransmit]
  · cases h; exact .of_same (.refl s)

theorem serveReturnQuery_media : ServesMedia serveReturnQuery := by
  intro s body t data h
  unfold serveReturnQuery at h
  split at h
  · cases h
  simp only [require_bind_ok] at h
  obtain ⟨-, ⟨⟩⟩ := h
  split
  · exact .of_change (.feed _ _ fun p => rfl)
  · exact .of_same (.refl s)

/-! ## Events -/

theorem receive_media (s : State) (bytes : List Byte) : s.SameMedia (s.receive bytes) := by
  unfold State.receive
  split
  · exact .refl s
  · exact ⟨rfl, rfl, rfl, rfl, rfl, rfl, rfl⟩

theorem breakFrame_media (s : State) : s.SameMedia s.breakFrame := by
  unfold State.breakFrame
  split
  · exact .refl s
  · exact ⟨rfl, rfl, rfl, rfl, rfl, rfl, rfl⟩

theorem takeBadKind_media (s : State) : s.SameMedia s.takeBadKind := by
  unfold State.takeBadKind
  split
  · exact .refl s
  · split
    · exact .answer s _
    · exact .refl s

theorem powerOn_media (s : State) (strap ca cb : Bool) : s.MediaMoves (s.powerOn strap ca cb) :=
  .of_change (.reset ⟨rfl, rfl, rfl, rfl, ⟨ca, rfl⟩, ⟨cb, rfl⟩, rfl⟩)

theorem resetFall_media (s : State) : s.MediaMoves s.resetFall :=
  .of_change (.reset ⟨rfl, rfl, rfl, rfl, ⟨_, rfl⟩, ⟨_, rfl⟩, rfl⟩)

theorem requestReset_media (s : State) : s.MediaMoves s.requestReset :=
  .of_change (.reset ⟨rfl, rfl, rfl, rfl, ⟨_, rfl⟩, ⟨_, rfl⟩, rfl⟩)

theorem resetRelease_media (s : State) (strap : Bool) : s.SameMedia (s.resetRelease strap) := by
  unfold State.resetRelease
  split
  · exact ⟨rfl, rfl, rfl, rfl, rfl, rfl, rfl⟩
  · exact .refl s

theorem replySent_media (s : State) : s.MediaMoves s.replySent := by
  unfold State.replySent
  split
  · exact .of_same (.refl s)
  · dsimp only
    split
    · split
      · exact (requestReset_media s).then_same ⟨rfl, rfl, rfl, rfl, rfl, rfl, rfl⟩
      · exact .of_same ⟨rfl, rfl, rfl, rfl, rfl, rfl, rfl⟩
    · exact .of_same ⟨rfl, rfl, rfl, rfl, rfl, rfl, rfl⟩

theorem hrefEdge_media {n : Fin 48} {s t : State} (h : execHrefEdge n s = .next t) : s.SameMedia t := by
  unfold execHrefEdge at h
  split at h
  · cases h; exact .refl s
  · cases h; exact (State.SameMedia.atSample s n).trans ⟨rfl, rfl, rfl, rfl, rfl, rfl, rfl⟩

theorem carrierArrival_media (s : State) (p : PortId) : s.MediaMoves (s.carrierArrival p) := by
  have moved (x : Port) (h : x.account = (s.port p).account) : s.MediaMoves (s.setPort p x) := .of_change (.port p x h)
  unfold State.carrierArrival
  dsimp only
  split
  · exact .posted (moved _ (by rfl)) _
  · exact moved _ rfl
  · exact moved _ rfl
  · exact moved _ rfl

theorem carrierLoss_media (s : State) (p : PortId) : s.MediaMoves (s.carrierLoss p) := by
  have moved (x : Port) (h : x.account = (s.port p).account) : s.MediaMoves (s.setPort p x) := .of_change (.port p x h)
  unfold State.carrierLoss
  dsimp only
  split
  · exact .posted (moved _ (by rfl)) _
  · exact moved _ rfl
  · exact moved _ rfl
  · exact moved _ rfl

theorem warmUpExpiry_media (s : State) (p : PortId) : s.MediaMoves (s.warmUpExpiry p) := by
  have moved (x : Port) (h : x.account = (s.port p).account) : s.MediaMoves (s.setPort p x) := .of_change (.port p x h)
  unfold State.warmUpExpiry
  dsimp only
  split
  · split
    · exact .posted (moved _ (by rfl)) _
    · exact .posted (moved _ (by rfl)) _
  · exact .of_same (.refl s)
  · exact .of_same (.refl s)
  · exact .of_same (.refl s)

theorem boundaryWhen_media (s : State) (due : Bool) (inp : BoundaryInput) : s.MediaMoves (s.boundaryWhen due inp) := by
  unfold State.boundaryWhen
  split
  · exact .of_same (.refl s)
  · split
    · exact .of_change (.boundary inp)
    · exact .of_same (.refl s)

/-! ## Every command -/

/-- Every command moves the media side by one of its changes. -/
theorem exec_media (c : Instr) (s t : State) (h : exec c s = .next t) : s.MediaMoves t := by
  cases c with
  | powerOn strap ca cb => cases h; exact powerOn_media s strap ca cb
  | resetnFall => cases h; exact resetFall_media s
  | resetnRelease strap => cases h; exact .of_same (resetRelease_media s strap)
  | hrefEdge n => exact .of_same (hrefEdge_media h)
  | houseBlockBoundary | houseRefLocked | slip | recentre | windowEnd | pathSilent | commitApply | returnPacketBuild
  | meterPeriodEnd => cases h; exact boundaryWhen_media s _ _
  | carrierArrival p => cases h; exact carrierArrival_media s p
  | carrierLoss p => cases h; exact carrierLoss_media s p
  | warmUpExpiry p => cases h; exact warmUpExpiry_media s p
  | packetArrival p n d => cases h; exact .of_change (.arrival p n d)
  | requestArrival bytes | frameCheckFail bytes | frameOverLength bytes => cases h; exact .of_same (receive_media s bytes)
  | frameStopBitError bytes | interByteTimeout bytes =>
    cases h
    exact .of_same ((receive_media s bytes).trans (breakFrame_media _))
  | replySent => cases h; exact replySent_media s
  | badKind => cases h; exact .of_same (takeBadKind_media s)
  | identify => cases h; exact take_media serveIdentify_media.servesMedia s _
  | reset => cases h; exact take_media serveReset_media.servesMedia s _
  | clockQuery n => cases h; exact take_media (serveClockQuery_media n).servesMedia s _
  | noticeFetch => cases h; exact take_media serveNoticeFetch_media.servesMedia s _
  | noticeEnable => cases h; exact take_media serveNoticeEnable_media.servesMedia s _
  | portEnable n => cases h; exact take_media (servePortEnable_media n) s _
  | portDisable => cases h; exact take_media servePortDisable_media s _
  | portBudget => cases h; exact take_media servePortBudget_media s _
  | portQuery n => cases h; exact take_media (servePortQuery_media n) s _
  | streamOpen => cases h; exact take_media serveStreamOpen_media s _
  | streamStart => cases h; exact take_media serveStreamStart_media s _
  | streamStop => cases h; exact take_media serveStreamStop_media s _
  | streamClose => cases h; exact take_media serveStreamClose_media s _
  | streamRepair => cases h; exact take_media serveStreamRepair_media s _
  | streamQuery => cases h; exact take_media serveStreamQuery_media.servesMedia s _
  | streamClock => cases h; exact take_media serveStreamClock_media.servesMedia s _
  | groupSet => cases h; exact take_media serveGroupSet_media s _
  | groupQuery => cases h; exact take_media serveGroupQuery_media.servesMedia s _
  | groupClock => cases h; exact take_media serveGroupClock_media.servesMedia s _
  | groupRecentre => cases h; exact take_media serveGroupRecentre_media s _
  | mapSet => cases h; exact take_media serveMapSet_media.servesMedia s _
  | mapCommit => cases h; exact take_media serveMapCommit_media.servesMedia s _
  | mapDiscard => cases h; exact take_media serveMapDiscard_media.servesMedia s _
  | mapQuery => cases h; exact take_media serveMapQuery_media.servesMedia s _
  | returnSet => cases h; exact take_media serveReturnSet_media s _
  | returnCoef => cases h; exact take_media serveReturnCoef_media s _
  | returnStart => cases h; exact take_media serveReturnStart_media s _
  | returnStop => cases h; exact take_media serveReturnStop_media s _
  | returnQuery => cases h; exact take_media serveReturnQuery_media s _
  | signalSet => cases h; exact take_media serveSignalSet_media.servesMedia s _
  | signalOverride => cases h; exact take_media serveSignalOverride_media.servesMedia s _
  | signalQuery => cases h; exact take_media serveSignalQuery_media.servesMedia s _
  | siginMask => cases h; exact take_media serveSiginMask_media.servesMedia s _
  | meterSet => cases h; exact take_media serveMeterSet_media.servesMedia s _
  | meterRead => cases h; exact take_media serveMeterRead_media.servesMedia s _
  | watchSet => cases h; exact take_media serveWatchSet_media.servesMedia s _
  | watchQuery => cases h; exact take_media serveWatchQuery_media.servesMedia s _
  | testQuery => cases h; exact take_media serveTestQuery_media s _

/-- Every step moves the media side by one of its changes. -/
theorem step_media {s t : State} (h : step s = .next t) : ∃ u, s.SameMedia u ∧ u.MediaMoves t := by
  unfold step at h
  split at h
  · cases h; exact ⟨s, .refl s, .of_same (.refl s)⟩
  · exact ⟨_, .withPending s _, exec_media _ _ _ h⟩

end Sys2Proof.Machine
end

section
/-! SUPPORT. What the draws, the ingest and the windows do to a stream record: it keeps what its admission declared and goes on in
its timeline. -/

namespace Sys2Proof.Machine

/-! ## What a record keeps -/

/-- What the admission of a stream fixes (R25, R28). -/
structure Admission where
  group : Fin 16
  flowA : Option Flow
  flowB : Option Flow
  channels : Nat
  format : SampleFormat
  packing : Nat
  depth : Nat
  test : Bool
  load : Nat

/-- What the admission of a stream fixed in its record. -/
def Stream.admission (x : Stream) : Admission :=
  { group := x.group, flowA := x.flowA, flowB := x.flowB, channels := x.channels, format := x.format, packing := x.packing
    depth := x.depth, test := x.test, load := x.load }

/-- A record keeps its admission: it is neither opened nor closed, and declares the same. -/
structure Stream.SameAdmission (x y : Stream) : Prop where
  admission : y.admission = x.admission
  closed : y.state = .closed ↔ x.state = .closed

namespace Stream.SameAdmission

theorem refl (x : Stream) : x.SameAdmission x := ⟨rfl, Iff.rfl⟩

theorem trans {x y z : Stream} (h : x.SameAdmission y) (k : y.SameAdmission z) : x.SameAdmission z :=
  ⟨k.admission.trans h.admission, k.closed.trans h.closed⟩

variable {x y : Stream} (h : x.SameAdmission y)
include h

theorem group : y.group = x.group := congrArg Admission.group h.admission
theorem flowA : y.flowA = x.flowA := congrArg Admission.flowA h.admission
theorem flowB : y.flowB = x.flowB := congrArg Admission.flowB h.admission
theorem channels : y.channels = x.channels := congrArg Admission.channels h.admission
theorem format : y.format = x.format := congrArg Admission.format h.admission
theorem packing : y.packing = x.packing := congrArg Admission.packing h.admission
theorem depth : y.depth = x.depth := congrArg Admission.depth h.admission
theorem load : y.load = x.load := congrArg Admission.load h.admission

end Stream.SameAdmission

/-- A state follows another in one timeline: neither opens nor closes the stream, both hold the timeline or neither does, and no
state begins to be drawn. -/
structure StreamState.LeadsTo (a b : StreamState) : Prop where
  closed : b = .closed ↔ a = .closed
  holds : b.holdsTimeline = a.holdsTimeline
  drawn : b.drawn = true → a.drawn = true

theorem StreamState.LeadsTo.refl (a : StreamState) : a.LeadsTo a := ⟨Iff.rfl, rfl, id⟩

theorem StreamState.LeadsTo.trans {a b c : StreamState} (h : a.LeadsTo b) (k : b.LeadsTo c) : a.LeadsTo c :=
  ⟨k.closed.trans h.closed, k.holds.trans h.holds, h.drawn ∘ k.drawn⟩

/-- A drawn state leads to every state that holds the timeline. -/
theorem StreamState.LeadsTo.of_drawn {a b : StreamState} (ha : a.drawn = true) (hb : b.holdsTimeline = true) : a.LeadsTo b := by
  constructor
  · cases a <;> cases b <;> simp_all [StreamState.drawn, StreamState.holdsTimeline]
  · cases a <;> simp_all [StreamState.drawn, StreamState.holdsTimeline]
  · exact fun _ => ha

theorem StreamState.holdsTimeline_of_drawn {a : StreamState} (h : a.drawn = true) : a.holdsTimeline = true := by
  cases a <;> simp_all [StreamState.drawn, StreamState.holdsTimeline]

theorem StreamState.ne_closed_of_holds {a : StreamState} (h : a.holdsTimeline = true) : a ≠ .closed := by
  rintro rfl
  cases h

/-- A record goes on in its timeline, or outside one as before: what the draws, the ingest and the windows keep of it. -/
structure Stream.Continues (x y : Stream) : Prop where
  admission : y.admission = x.admission
  state : x.state.LeadsTo y.state
  pair : y.pair = x.pair
  mismatches : y.windowMismatches ≤ x.windowMismatches
  breaks : y.breaks ≤ x.breaks
  ring : y.ring.length = x.ring.length
  origin : y.origin = x.origin
  ePlay : x.ePlay.isSome = x.state.holdsTimeline → y.ePlay.isSome = y.state.holdsTimeline
  earlyRun : x.earlyRun ≤ 7 → y.earlyRun ≤ 7

namespace Stream.Continues

theorem refl (x : Stream) : x.Continues x := ⟨rfl, .refl _, rfl, le_rfl, le_rfl, rfl, rfl, id, id⟩

theorem trans {x y z : Stream} (h : x.Continues y) (k : y.Continues z) : x.Continues z :=
  ⟨k.admission.trans h.admission, h.state.trans k.state, k.pair.trans h.pair, k.mismatches.trans h.mismatches,
    k.breaks.trans h.breaks, k.ring.trans h.ring, k.origin.trans h.origin, k.ePlay ∘ h.ePlay, k.earlyRun ∘ h.earlyRun⟩

theorem sameAdmission {x y : Stream} (h : x.Continues y) : x.SameAdmission y := ⟨h.admission, h.state.closed⟩

/-- The fields that `Continues` does not speak of may change, and the state where it leads. -/
theorem rest {x : Stream} {st : StreamState} (h : x.state.LeadsTo st) {endSeq : Option Word} {resume : Option Resume}
    {watchA watchB : PathWatch} {counters : StreamCounters} {servedTo : Option Int} {armed : Bool} {conceal : Conceal}
    {clock : StreamClock} {checker : Checker} : x.Continues
      { x with
        state := st, endSeq := endSeq, resume := resume, watchA := watchA, watchB := watchB, counters := counters
        servedTo := servedTo, headroomArmed := armed, conceal := conceal, clock := clock, checker := checker } :=
  ⟨rfl, h, rfl, le_rfl, le_rfl, rfl, rfl, fun e => e.trans h.holds.symm, id⟩

end Stream.Continues

theorem setSlot_continues (x : Stream) (q : Word) (y : Slot) : x.Continues (x.setSlot q y) :=
  ⟨rfl, .refl _, rfl, le_rfl, le_rfl, List.length_set, rfl, id, id⟩

/-! ## The draw -/

theorem resumeState_leadsTo (x : Stream) : x.state.LeadsTo x.resumeState := by
  unfold Stream.resumeState
  split
  next h => rw [h]; split <;> exact .of_drawn rfl rfl
  · exact .refl _

theorem serveFilled_continues (a : DrawAcc) (i : Fin 32) (b : Block) (n : Nat) : a.x.Continues (a.serveFilled i b n).x :=
  (Stream.Continues.rest (resumeState_leadsTo a.x)).trans (setSlot_continues _ _ _)

theorem serveConcealed_continues (a : DrawAcc) (q : Word) (n : Nat) : a.x.Continues (a.serveConcealed q n).x :=
  .rest (.refl _)

theorem declareMissing_continues (x : Stream) (q : Word) : x.Continues (x.declareMissing q) :=
  (setSlot_continues x q _).trans (.rest (.refl _))

theorem serveMissing_continues (a : DrawAcc) (i : Fin 32) (hbc : Word) (limit : Nat) (q : Word) (n : Nat) :
    a.x.Continues (a.serveMissing i hbc limit q n).x := by
  have declared := declareMissing_continues a.x q
  unfold DrawAcc.serveMissing
  dsimp only
  split
  · split
    next h =>
      have entered : (a.x.declareMissing q).state.LeadsTo .outage := by rw [h]; exact .of_drawn rfl rfl
      exact declared.trans (.rest entered)
    next h =>
      have ended : (a.x.declareMissing q).state.LeadsTo .ended := by rw [h]; exact .of_drawn rfl rfl
      exact declared.trans (.rest ended)
    · exact declared.trans (serveConcealed_continues { a with x := a.x.declareMissing q } q n)
  · exact declared.trans (serveConcealed_continues { a with x := a.x.declareMissing q } q n)

theorem serve_continues (a : DrawAcc) (i : Fin 32) (hbc : Word) (limit : Nat) (pos : Int) :
    a.x.Continues (a.serve i hbc limit pos).x := by
  unfold DrawAcc.serve
  split
  · exact .refl _
  split
  · exact .refl _
  split
  · split
    · exact serveFilled_continues _ _ _ _
    · exact serveMissing_continues _ _ _ _ _ _
  · split
    · exact serveConcealed_continues _ _ _
    · exact serveMissing_continues _ _ _ _ _ _
  · exact serveMissing_continues _ _ _ _ _ _

theorem omitted_continues (a : DrawAcc) (pos : Int) : a.x.Continues (a.omitted pos).x := by
  unfold DrawAcc.omitted
  split
  · exact .refl _
  split
  · exact .refl _
  split
  · split
    · split
      · exact .rest (.refl _)
      · exact .refl _
    · split
      · exact .rest (.refl _)
      · exact .refl _
    · exact .refl _
  · exact .refl _

theorem drawStep_continues (ctx : DrawContext) (i : Fin 32) (pos : Int) (a : DrawAcc) (k : Nat) :
    a.x.Continues (DrawAcc.step ctx i pos a k).x := by
  unfold DrawAcc.step
  split
  · exact omitted_continues _ _
  · exact serve_continues _ _ _ _ _

theorem drawSteps_continues (ctx : DrawContext) (i : Fin 32) (pos : Int) (ks : List Nat) (a : DrawAcc) :
    a.x.Continues (ks.foldl (DrawAcc.step ctx i pos) a).x := by
  induction ks generalizing a with
  | nil => exact .refl _
  | cons k ks ih => exact (drawStep_continues ctx i pos a k).trans (ih _)

theorem visit_continues (x : Stream) (ctx : DrawContext) (i : Fin 32) (pos : Int) : x.Continues (x.visit ctx i pos).x :=
  drawSteps_continues ctx i pos _ { x := x, posts := [], out := [], completed := [], firstArrival := none, halted := false }

/-- A stream that holds its timeline keeps an E_play, whatever it is set to. -/
theorem setEPlay_continues {x : Stream} (h : x.state.holdsTimeline = true) (q : Word) : x.Continues { x with ePlay := some q } :=
  ⟨rfl, .refl _, rfl, le_rfl, le_rfl, rfl, rfl, fun _ => h.symm, id⟩

theorem release_continues {x : Stream} (h : x.state.holdsTimeline = true) (qs : List Word) : x.Continues (x.release qs) := by
  unfold Stream.release
  induction qs generalizing x with
  | nil => exact .refl _
  | cons q qs ih =>
    have released := (setSlot_continues x q .empty).trans (setEPlay_continues (x := x.setSlot q .empty) h (q + 1))
    exact released.trans (ih h)

theorem afterDraw_continues (x : Stream) (i : Fin 32) (hbc : Word) (last : Int) (completed : List Word) (first : Option Word) :
    x.Continues (x.afterDraw i hbc last completed first).1 := by
  unfold Stream.afterDraw
  split
  next h =>
    split
    · exact .rest (by rw [h]; exact .of_drawn rfl rfl)
    · exact .refl _
  next h =>
    split
    · exact .rest (by rw [h]; exact .of_drawn rfl rfl)
    · exact .refl _
  · exact .refl _

theorem headroomTest_continues (x : Stream) (i : Fin 32) (warning : Nat) (next : Int) :
    x.Continues (x.headroomTest i warning next).1 := by
  unfold Stream.headroomTest
  split
  · dsimp only
    split
    · exact .rest (.refl _)
    · split
      · exact .rest (.refl _)
      · exact .refl _
  · exact .refl _

/-- The draw of a stream that holds its timeline. -/
theorem draw_continues {x : Stream} (h : x.state.holdsTimeline = true) (ctx : DrawContext) (i : Fin 32) (pos : Int) :
    x.Continues (x.draw ctx i pos).1 := by
  have visited := visit_continues x ctx i pos
  have released := release_continues (visited.state.holds.trans h) (x.visit ctx i pos).completed
  exact (((visited.trans released).trans (afterDraw_continues _ i ctx.hbc _ _ _)).trans (.rest (.refl _))).trans
    (headroomTest_continues _ i ctx.warning _)

/-! ## A recentre -/

theorem passOver_continues {x : Stream} (h : x.state.holdsTimeline = true) (hi : Word) : x.Continues (x.passOver hi) := by
  unfold Stream.passOver
  dsimp only
  split
  · exact ⟨rfl, .refl _, rfl, le_rfl, le_rfl, List.length_map _, rfl, fun _ => h.symm, id⟩
  · exact .refl _

/-- A stream that a recentre passes the end of is drawn. -/
theorem drawn_of_endPassed {x : Stream} {pos : Int} (h : x.endPassed pos = true) : x.state.drawn = true := by
  unfold Stream.endPassed at h
  split at h
  next hs => rw [hs]; rfl
  next hs => rw [hs]; rfl
  · cases h

theorem recentreForward_continues {x : Stream} (h : x.state.holdsTimeline = true) (i : Fin 32) (stop adj : Int) :
    x.Continues (x.recentreForward i stop adj).1 := by
  unfold Stream.recentreForward
  dsimp only
  split
  next he =>
    have passed := passOver_continues h (x.endSeq.getD 0 + 1)
    have drawn : (x.passOver (x.endSeq.getD 0 + 1)).state.drawn = true := by
      unfold Stream.passOver
      dsimp only
      split <;> exact drawn_of_endPassed he
    exact passed.trans (.rest (.of_drawn drawn rfl))
  · split
    · exact .rest (.refl _)
    · exact (passOver_continues h _).trans (.rest (.refl _))

theorem recentre_continues {x : Stream} (h : x.state.holdsTimeline = true) (i : Fin 32) (stop adj : Int) :
    x.Continues (x.recentre i stop adj).1 := by
  unfold Stream.recentre
  split
  · exact .refl _
  split
  · exact recentreForward_continues h i stop adj
  · exact .rest (.refl _)

theorem watchBoundary_continues (before x : Stream) : x.Continues (Stream.watchBoundary before x) := by
  unfold Stream.watchBoundary
  split
  · exact .rest (.refl _)
  · exact .refl _

/-! ## The ingest -/

theorem deliver_continues (x : Stream) (i : Fin 32) (p : PathId) : x.Continues (x.deliver i p).1 := by
  cases p
  · exact .rest (.refl _)
  · exact .rest (.refl _)

theorem recordEnd_continues (x : Stream) (o : Offer) : x.Continues (x.recordEnd o) := by
  unfold Stream.recordEnd
  split
  · refine .rest ?_
    split
    next h => rw [h]; exact .of_drawn rfl rfl
    next h => rw [h]; exact .of_drawn rfl rfl
    · exact .refl _
  · exact .refl _

/-- The consecutive EARLY count set to a value that it may have, and the counters to any. -/
theorem setEarlyRun_continues (x : Stream) (c : StreamCounters) {n : Nat} (h : n ≤ 7) :
    x.Continues { x with counters := c, earlyRun := n } :=
  ⟨rfl, .refl _, rfl, le_rfl, le_rfl, rfl, rfl, id, fun _ => h⟩

theorem accept_continues (a : Ingest) (i : Fin 32) (p : PathId) (o : Offer) : a.x.Continues (a.accept i p o).x := by
  have counted := setEarlyRun_continues a.x (a.x.counters.firstCopy p) (Nat.zero_le 7)
  exact (((counted.trans (.rest (.refl _))).trans (setSlot_continues _ _ _)).trans (recordEnd_continues _ o)).trans
    (deliver_continues _ i p)

theorem offer_continues (i : Fin 32) (p : PathId) (a : Ingest) (o : Offer) : a.x.Continues (Ingest.offer i p a o).x := by
  unfold Ingest.offer
  dsimp only
  split
  · exact setEarlyRun_continues _ _ (Nat.zero_le 7)
  · exact setEarlyRun_continues _ _ (Nat.zero_le 7)
  · split
    next h => exact setEarlyRun_continues _ _ h
    · exact .rest (.refl _)
  · exact (setEarlyRun_continues _ _ (Nat.zero_le 7)).trans (deliver_continues _ i p)
  · exact accept_continues a i p o

theorem offers_continues (i : Fin 32) (p : PathId) (os : List Offer) (a : Ingest) :
    a.x.Continues (os.foldl (Ingest.offer i p) a).x := by
  induction os generalizing a with
  | nil => exact .refl _
  | cons o os ih => exact (offer_continues i p a o).trans (ih _)

theorem ingest_continues (x : Stream) (i : Fin 32) (p : PathId) (os : List Offer) : x.Continues (x.ingest i p os).x :=
  offers_continues i p os { x := x, posts := [], cues := [], accepted := false, resync := none }

/-! ## Records that stay in order -/

/-- A record goes on, and stays in order if it was. -/
structure Stream.Stands (x y : Stream) : Prop where
  admission : y.admission = x.admission
  state : x.state.LeadsTo y.state
  ok : x.Ok → y.Ok

namespace Stream.Stands

theorem refl (x : Stream) : x.Stands x := ⟨rfl, .refl _, id⟩

theorem trans {x y z : Stream} (h : x.Stands y) (k : y.Stands z) : x.Stands z :=
  ⟨k.admission.trans h.admission, h.state.trans k.state, k.ok ∘ h.ok⟩

theorem sameAdmission {x y : Stream} (h : x.Stands y) : x.SameAdmission y := ⟨h.admission, h.state.closed⟩

end Stream.Stands

/-- An open record that goes on stays in order. -/
theorem Stream.Continues.ok {x y : Stream} (h : x.Continues y) (hx : x.Ok) (isOpen : x.state ≠ .closed) : y.Ok where
  closed e := absurd (h.state.closed.mp e) isOpen
  channels _ := by rw [h.sameAdmission.channels]; exact hx.channels isOpen
  packing _ := by rw [h.sameAdmission.packing]; exact hx.packing isOpen
  depth _ := by rw [h.sameAdmission.depth]; exact hx.depth isOpen
  payload _ := by
    rw [h.sameAdmission.packing, h.sameAdmission.channels, h.sameAdmission.format]
    exact hx.payload isOpen
  load _ := by
    rw [h.sameAdmission.packing, h.sameAdmission.channels, h.sameAdmission.format, h.sameAdmission.load]
    exact hx.load isOpen
  ring := by rw [h.ring, h.sameAdmission.depth, hx.ring]
  flowA _ := by rw [h.sameAdmission.flowA]; exact hx.flowA isOpen
  flowB := by rw [h.sameAdmission.flowB, h.pair]; exact hx.flowB
  origin := by rw [h.origin, h.state.holds]; exact hx.origin
  ePlay := by rw [h.ePlay (Bool.eq_iff_iff.mpr hx.ePlay)]
  earlyRun := h.earlyRun hx.earlyRun
  breaks := h.breaks.trans hx.breaks
  mismatches := ⟨h.mismatches.trans hx.mismatches.1, fun e => h.mismatches.trans (hx.mismatches.2 (h.pair ▸ e))⟩

theorem Stream.Continues.stands {x y : Stream} (h : x.Continues y) (isOpen : x.state ≠ .closed) : x.Stands y :=
  ⟨h.admission, h.state, fun hx => h.ok hx isOpen⟩

/-- A record that goes on stays in order when the change leaves a CLOSED one as it is. -/
theorem Stream.Continues.stands_of_closed {x y : Stream} (h : x.Continues y) (hc : x = .closed → y = .closed) : x.Stands y where
  admission := h.admission
  state := h.state
  ok hx := by
    by_cases hs : x.state = .closed
    · have e := hx.closed hs
      rw [hc e, ← e]
      exact hx
    · exact h.ok hx hs

/-- A change of the clock state, and a window pair mismatch count that stays or clears, when they leave a CLOSED record as it is. -/
theorem Stream.Stands.window (x : Stream) {c : StreamClock} {n : Nat} (hn : n ≤ x.windowMismatches)
    (hc : x.clock = .cleared → c = .cleared) : x.Stands { x with clock := c, windowMismatches := n } := by
  have continued : x.Continues { x with clock := c, windowMismatches := n } := ⟨rfl, .refl _, rfl, hn, le_rfl, rfl, rfl, id, id⟩
  refine continued.stands_of_closed fun e => ?_
  subst e
  rw [hc rfl, Nat.le_zero.mp hn]
  rfl

/-! ## All streams -/

/-- Every stream keeps its admission. -/
def State.SameAdmissions (s t : State) : Prop := ∀ i, (s.stream i).SameAdmission (t.stream i)

/-- Every stream goes on in order. -/
def State.Stands (s t : State) : Prop := ∀ i, (s.stream i).Stands (t.stream i)

theorem State.SameAdmissions.trans {s t u : State} (h : s.SameAdmissions t) (k : t.SameAdmissions u) : s.SameAdmissions u :=
  fun i => (h i).trans (k i)

theorem State.SameAdmissions.of_streams {s t : State} (h : t.streams = s.streams) : s.SameAdmissions t := fun i => by
  rw [show t.stream i = s.stream i by simp [State.stream, h]]
  exact .refl _

theorem State.SameAdmissions.setStream {s : State} {i : Fin 32} {y : Stream} (h : (s.stream i).SameAdmission y) :
    s.SameAdmissions (s.setStream i y) := fun j => by
  by_cases e : j = i
  · subst e; rw [setStream_stream_self]; exact h
  · rw [setStream_stream_ne _ _ e]; exact .refl _

theorem State.Stands.refl (s : State) : s.Stands s := fun _ => .refl _

theorem State.Stands.trans {s t u : State} (h : s.Stands t) (k : t.Stands u) : s.Stands u := fun i => (h i).trans (k i)

theorem State.Stands.sameAdmissions {s t : State} (h : s.Stands t) : s.SameAdmissions t := fun i => (h i).sameAdmission

theorem State.Stands.of_streams {s t : State} (h : t.streams = s.streams) : s.Stands t := fun i => by
  rw [show t.stream i = s.stream i by simp [State.stream, h]]
  exact .refl _

theorem State.Stands.setStream {s : State} {i : Fin 32} {y : Stream} (h : (s.stream i).Stands y) : s.Stands (s.setStream i y) :=
  fun j => by
    by_cases e : j = i
    · subst e; rw [setStream_stream_self]; exact h
    · rw [setStream_stream_ne _ _ e]; exact .refl _

/-- A member's record, or another's, after a change of a group's members. -/
theorem mapMembers_stream (s : State) (g : Fin 16) (f : Stream → Stream) (i : Fin 32) :
    (s.mapMembers g f).stream i = if (s.group g).members.contains i then f (s.stream i) else s.stream i := by
  simp [State.mapMembers]

theorem State.Stands.mapMembers (s : State) (g : Fin 16) {f : Stream → Stream} (h : ∀ x : Stream, x.Stands (f x)) :
    s.Stands (s.mapMembers g f) := fun i => by
  rw [mapMembers_stream]
  split
  · exact h _
  · exact .refl _

/-! ## The boundary -/

theorem drawMember_stands (ctx : DrawContext) (q : Word) (a : State × List (Fin 32 × Drawn)) (i : Fin 32) :
    a.1.Stands (drawMember ctx q a i).1 := by
  unfold drawMember
  dsimp only
  split
  next h =>
    have holds := StreamState.holdsTimeline_of_drawn h
    exact .setStream ((draw_continues holds _ _ _).stands (StreamState.ne_closed_of_holds holds))
  · exact .refl _

theorem drawMembers_stands (ctx : DrawContext) (q : Word) (is : List (Fin 32)) (a : State × List (Fin 32 × Drawn)) :
    a.1.Stands (is.foldl (drawMember ctx q) a).1 := by
  induction is generalizing a with
  | nil => exact .refl _
  | cons i is ih => exact (drawMember_stands ctx q a i).trans (ih _)

theorem recentreMember_stands (ctx : DrawContext) (q : Word) (adj : Int) (s : State) (i : Fin 32) :
    s.Stands (recentreMember ctx q adj s i) := by
  unfold recentreMember
  dsimp only
  split
  next h =>
    have holds := StreamState.holdsTimeline_of_drawn h
    exact .setStream ((recentre_continues holds _ _ _).stands (StreamState.ne_closed_of_holds holds))
  · exact .refl _

theorem recentreMembers_stands (ctx : DrawContext) (q : Word) (adj : Int) (is : List (Fin 32)) (s : State) :
    s.Stands (is.foldl (recentreMember ctx q adj) s) := by
  induction is generalizing s with
  | nil => exact .refl _
  | cons i is ih => exact (recentreMember_stands ctx q adj s i).trans (ih _)

theorem recentreGroup_stands (s : State) (g : Fin 16) (x : Group) : s.Stands (s.recentreGroup g x) := by
  unfold State.recentreGroup
  split
  · exact .refl _
  · exact recentreMembers_stands _ _ _ _ s

theorem windowEnd_stands (s : State) (g : Fin 16) (n : Word) : s.Stands (s.windowEnd g n) := by
  have rolled : s.Stands (s.mapMembers g fun m => { m with clock := m.clock.roll, windowMismatches := 0 }) :=
    .mapMembers s g fun x => .window x (Nat.zero_le _) (fun e => by rw [e]; rfl)
  exact rolled

theorem advanceWindow_stands (s : State) (g : Fin 16) : s.Stands (s.advanceWindow g) := by
  unfold State.advanceWindow
  dsimp only
  split
  · exact .of_streams rfl
  · split
    · exact .of_streams rfl
    · exact windowEnd_stands s g _

theorem groupBoundary_stands (s : State) (g : Fin 16) : s.Stands (s.groupBoundary g).1 := by
  unfold State.groupBoundary
  dsimp only
  split
  · have drawn : s.Stands (s.drawGroup g).1 := drawMembers_stands _ _ _ (s, [])
    have recentred := drawn.trans (recentreGroup_stands ((s.drawGroup g).1.setGroup g (s.group g).slipDecision.1) g (s.group g))
    refine recentred.trans (State.Stands.trans ?_ (advanceWindow_stands _ g))
    exact .of_streams rfl
  · exact .refl _

theorem groupsFold_stands (gs : List (Fin 16)) (a : State × List (Fin 32 × Drawn)) :
    a.1.Stands (gs.foldl (fun a g => ((a.1.groupBoundary g).1, a.2 ++ (a.1.groupBoundary g).2)) a).1 := by
  induction gs generalizing a with
  | nil => exact .refl _
  | cons g gs ih => exact (groupBoundary_stands a.1 g).trans (ih ((a.1.groupBoundary g).1, a.2 ++ (a.1.groupBoundary g).2))

/-- A path watch leaves a CLOSED record as it is: it is not watched. -/
theorem watchBoundary_stands {before x : Stream} (h : before.Stands x) : before.Stands (Stream.watchBoundary before x) := by
  by_cases hw : before.state.pathWatched = true
  · have isOpen : before.state ≠ .closed := by
      intro e
      rw [e] at hw
      cases hw
    exact h.trans ((watchBoundary_continues before x).stands fun e => isOpen (h.state.closed.mp e))
  · simpa [Stream.watchBoundary, hw] using h

/-- Every stream goes on in order through a boundary. -/
theorem boundary_stands (s : State) (inp : BoundaryInput) : s.Stands (s.boundary inp) := fun i => by
  rw [boundary_stream]
  have before : (s.beforeDraws inp).stream i = s.stream i := by rw [beforeDraws_eq]; rfl
  have staged : ((s.beforeDraws inp).stream i).Stands ((s.beforeDraws inp).groupsBoundary.1.stream i) :=
    groupsFold_stands _ (s.beforeDraws inp, []) i
  rw [before] at staged
  exact watchBoundary_stands staged

end Sys2Proof.Machine
end

section
/-! SUPPORT. The slot pool and the port loads (R10, R29, R31, R144): what each change of the media side does to the sums of what is
charged. -/

namespace Sys2Proof.Machine

/-! ## Sums over a file of records -/

/-- The sum over a file of records, record by record. -/
theorem sum_toList {α : Type} {n : Nat} (v : Vector α n) (f : α → Nat) : (v.toList.map f).sum = ∑ i, f (v.get i) := by
  have e : v.toList = List.ofFn v.get := by
    apply List.ext_getElem
    · simp
    · intro k h1 h2
      simp [Vector.get]
  rw [e, List.map_ofFn, List.sum_ofFn]
  rfl

/-- A sum in which one term is replaced. -/
theorem sum_replaced {n : Nat} {f g : Fin n → Nat} (i : Fin n) (h : ∀ j, j ≠ i → g j = f j) :
    ∑ j, g j + f i = ∑ j, f j + g i := by
  have rest : ∑ j ∈ Finset.univ.erase i, g j = ∑ j ∈ Finset.univ.erase i, f j :=
    Finset.sum_congr rfl fun j hj => h j (Finset.ne_of_mem_erase hj)
  have hg := Finset.add_sum_erase Finset.univ g (Finset.mem_univ i)
  have hf := Finset.add_sum_erase Finset.univ f (Finset.mem_univ i)
  omega

theorem sum_slotsHeld (s : State) : (s.streams.toList.map Stream.slotsHeld).sum = ∑ i, (s.stream i).slotsHeld := sum_toList _ _

theorem sum_streamCharges (s : State) (p : PortId) :
    (s.streams.toList.map (·.chargeAt p)).sum = ∑ i, (s.stream i).chargeAt p := sum_toList _ _

theorem sum_feedCharges (s : State) (p : PortId) :
    (s.returns.feeds.toList.map (·.chargeAt p)).sum = ∑ r, (s.feed r).chargeAt p := sum_toList _ _

theorem Stream.SameAdmission.slotsHeld {x y : Stream} (h : x.SameAdmission y) : y.slotsHeld = x.slotsHeld := by
  simp only [Stream.slotsHeld, h.closed, h.depth]

theorem Stream.SameAdmission.chargeAt {x y : Stream} (h : x.SameAdmission y) (p : PortId) : y.chargeAt p = x.chargeAt p := by
  simp only [Stream.chargeAt, h.closed, h.load, h.flowA, h.flowB]

/-! ## States with the same accounts -/

/-- Every charge and every figure of the accounts stands, and so does the Flow Table. -/
structure State.KeepsAccounts (s t : State) : Prop where
  streams : s.SameAdmissions t
  flows : t.flows = s.flows
  slotsInUse : t.slotsInUse = s.slotsInUse
  ports : ∀ p, (t.port p).account = (s.port p).account
  feeds : ∀ r p, (t.feed r).chargeAt p = (s.feed r).chargeAt p

namespace State.KeepsAccounts

theorem trans {s t u : State} (h : s.KeepsAccounts t) (k : t.KeepsAccounts u) : s.KeepsAccounts u :=
  ⟨h.streams.trans k.streams, k.flows.trans h.flows, k.slotsInUse.trans h.slotsInUse, fun p => (k.ports p).trans (h.ports p),
    fun r p => (k.feeds r p).trans (h.feeds r p)⟩

/-- A change that leaves everything but the streams in place. -/
theorem of_streams {s t : State} (h : s.SameAdmissions t) (hf : t.flows = s.flows) (hs : t.slotsInUse = s.slotsInUse)
    (ha : t.portA = s.portA) (hb : t.portB = s.portB) (hr : t.returns = s.returns) : s.KeepsAccounts t where
  streams := h
  flows := hf
  slotsInUse := hs
  ports p := by
    cases p
    · exact congrArg Port.account ha
    · exact congrArg Port.account hb
  feeds r p := by simp only [State.feed, hr]

theorem of_sameMedia {s t : State} (h : s.SameMedia t) : s.KeepsAccounts t where
  streams := .of_streams h.streams
  flows := h.flows
  slotsInUse := h.slotsInUse
  ports p := by rw [h.port]
  feeds r p := by simp only [State.feed, h.feeds]

theorem refl (s : State) : s.KeepsAccounts s := of_sameMedia (.refl s)

theorem setStream {s : State} {i : Fin 32} {y : Stream} (h : (s.stream i).SameAdmission y) : s.KeepsAccounts (s.setStream i y) :=
  of_streams (.setStream h) rfl rfl rfl rfl rfl

theorem setGroup (s : State) (g : Fin 16) (x : Group) : s.KeepsAccounts (s.setGroup g x) :=
  of_streams (.of_streams rfl) rfl rfl rfl rfl rfl

theorem setPort {s : State} {p : PortId} {x : Port} (h : x.account = (s.port p).account) : s.KeepsAccounts (s.setPort p x) where
  streams := .of_streams (by simp)
  flows := by simp
  slotsInUse := by simp
  ports q := by
    by_cases e : q = p
    · subst e; rw [setPort_port_self]; exact h
    · rw [setPort_port_ne _ _ e]
  feeds r q := by rw [setPort_feed]

end State.KeepsAccounts

theorem State.KeepsAccounts.posted {s t : State} (h : s.KeepsAccounts t) (p : Post) : s.KeepsAccounts (t.post p) :=
  h.trans (.of_sameMedia (.post t p))

/-- A state whose accounts all stand balances if it did. -/
theorem State.AccountsOk.of_keeps {s t : State} (h : s.AccountsOk) (k : s.KeepsAccounts t) : t.AccountsOk where
  slotSum := by
    rw [k.slotsInUse, h.slotSum, sum_slotsHeld, sum_slotsHeld]
    exact Finset.sum_congr rfl fun i _ => (k.streams i).slotsHeld.symm
  slotsFit := k.slotsInUse ▸ h.slotsFit
  ports p := by
    obtain ⟨hib, htb, hil, htl⟩ : (t.port p).ingestBudget = (s.port p).ingestBudget ∧
        (t.port p).transmitBudget = (s.port p).transmitBudget ∧ (t.port p).ingestLoad = (s.port p).ingestLoad ∧
        (t.port p).transmitLoad = (s.port p).transmitLoad := by
      simpa [Port.account] using k.ports p
    have a := h.ports p
    refine ⟨?_, ?_, ?_, ?_, ?_, ?_⟩
    · rw [hil, a.ingestSum, sum_streamCharges, sum_streamCharges]
      exact Finset.sum_congr rfl fun i _ => ((k.streams i).chargeAt p).symm
    · rw [htl, a.transmitSum, sum_feedCharges, sum_feedCharges]
      exact Finset.sum_congr rfl fun r _ => (k.feeds r p).symm
    · rw [hil, hib]; exact a.ingestFits
    · rw [htl, htb]; exact a.transmitFits
    · rw [hib]; exact a.ingestBudget
    · rw [htb]; exact a.transmitBudget

/-! ## Timelines and packets -/

theorem leaveTimeline_sameAdmission {x : Stream} {st : StreamState} (hx : x.state ≠ .closed) (hst : st ≠ .closed) :
    x.SameAdmission (x.leaveTimeline st) := ⟨rfl, iff_of_false hst hx⟩

theorem StreamState.ne_closed_of_relocks {a : StreamState} (h : a.relocks = true) : a ≠ .closed := by
  rintro rfl
  cases h

theorem anchor_stands (s : State) (g : Fin 16) (at_ st : Word) : s.Stands (s.anchor g at_ st) :=
  State.Stands.mapMembers s g fun x => .window x le_rfl fun _ => rfl

theorem unanchor_stands (s : State) (g : Fin 16) : s.Stands (s.unanchor g) :=
  State.Stands.mapMembers s g fun x => .window x (Nat.zero_le _) fun e => by rw [e]; rfl

theorem unanchorIfLeft_stands (s : State) (g : Fin 16) : s.Stands (s.unanchorIfLeft g) := by
  unfold State.unanchorIfLeft
  split
  · exact unanchor_stands s g
  · exact .refl s

theorem anchor_keeps (s : State) (g : Fin 16) (at_ st : Word) : s.KeepsAccounts (s.anchor g at_ st) :=
  .of_streams (anchor_stands s g at_ st).sameAdmissions rfl rfl rfl rfl rfl

theorem unanchor_keeps (s : State) (g : Fin 16) : s.KeepsAccounts (s.unanchor g) :=
  .of_streams (unanchor_stands s g).sameAdmissions rfl rfl rfl rfl rfl

theorem unanchorIfLeft_keeps (s : State) (g : Fin 16) : s.KeepsAccounts (s.unanchorIfLeft g) := by
  unfold State.unanchorIfLeft
  split
  · exact unanchor_keeps s g
  · exact .refl s

theorem relock_keeps (s : State) (g : Fin 16) (cause : Fin 32) : s.KeepsAccounts (s.relock g cause) := by
  have left : s.KeepsAccounts (s.mapMembers g fun x => if x.state.relocks then x.leaveTimeline .acquiring else x) := by
    refine .of_streams (fun i => ?_) rfl rfl rfl rfl rfl
    rw [mapMembers_stream]
    split
    · split
      next h => exact leaveTimeline_sameAdmission (StreamState.ne_closed_of_relocks h) (by decide)
      · exact .refl _
    · exact .refl _
  exact (left.trans (unanchor_keeps _ g)).posted _

theorem earlyResync_keeps {s : State} {i : Fin 32} (h : (s.stream i).state ≠ .closed) (detail : Int) :
    s.KeepsAccounts (s.earlyResync i detail) := by
  have left : s.KeepsAccounts (s.setStream i ((s.stream i).leaveTimeline .acquiring)) :=
    .setStream (leaveTimeline_sameAdmission h (by decide))
  exact (left.posted _).trans (unanchorIfLeft_keeps _ _)

theorem stopped_sameAdmission {x : Stream} (h : x.state ≠ .closed) :
    x.SameAdmission { x.leaveTimeline .ready with windowMismatches := 0, clock := x.clock.stop } :=
  ⟨rfl, iff_of_false (by decide : StreamState.ready ≠ .closed) h⟩

theorem stopStream_keeps {s : State} {i : Fin 32} (h : (s.stream i).state ≠ .closed) : s.KeepsAccounts (s.stopStream i) :=
  (State.KeepsAccounts.setStream (stopped_sameAdmission h)).trans (unanchorIfLeft_keeps _ _)

theorem transit_keeps (s : State) (i : Fin 32) (sourceTime : Word) : s.KeepsAccounts (s.transit i sourceTime) :=
  .setStream ⟨rfl, Iff.rfl⟩

theorem classifyPacket_keeps {s : State} {i : Fin 32} {a : Ingest} (h : (s.stream i).SameAdmission a.x) :
    s.KeepsAccounts (s.classifyPacket i a) :=
  .of_streams (State.SameAdmissions.setStream h) rfl rfl rfl rfl rfl

theorem prime_sameAdmission {x : Stream} (h : x.state ≠ .closed) (p : Packet) (q hbc : Word) : x.SameAdmission (x.prime p q hbc) :=
  ⟨rfl, iff_of_false (by decide : StreamState.primed ≠ .closed) h⟩

/-- The state in which a first packet finds its group: anchored by the packet when it was not (R66, stage 2). -/
def State.anchoredFor (s : State) (i : Fin 32) (p : Packet) : State :=
  if (s.group (s.stream i).group).anchored then s else s.anchor (s.stream i).group s.hs p.sourceTime

/-- The state after a first packet's stages 1 to 5 and its transit (R66, R85). -/
def State.primedBy (s : State) (i : Fin 32) (p : Packet) : State :=
  ((s.anchoredFor i p).setStream i (((s.anchoredFor i p).stream i).prime p
    (((s.anchoredFor i p).group (s.stream i).group).q.getD 0) s.clock.hbc)).transit i p.sourceTime

theorem firstPacket_eq (s : State) (i : Fin 32) (path : PathId) (p : Packet) :
    s.firstPacket i path p = (s.primedBy i p).classifyPacket i
      (((s.primedBy i p).stream i).ingest i path (p.offers (p.seq.zeroExtend 32) s.clock.hbc)) := rfl

theorem anchoredFor_stands (s : State) (i : Fin 32) (p : Packet) : s.Stands (s.anchoredFor i p) := by
  unfold State.anchoredFor
  split
  · exact .refl s
  · exact anchor_stands s _ _ _

theorem anchoredFor_keeps (s : State) (i : Fin 32) (p : Packet) : s.KeepsAccounts (s.anchoredFor i p) := by
  unfold State.anchoredFor
  split
  · exact .refl s
  · exact anchor_keeps s _ _ _

theorem primedBy_keeps {s : State} {i : Fin 32} (h : (s.stream i).state ≠ .closed) (p : Packet) :
    s.KeepsAccounts (s.primedBy i p) := by
  have anchored := anchoredFor_keeps s i p
  have isOpen := mt (anchored.streams i).closed.mp h
  exact (anchored.trans (.setStream (prime_sameAdmission isOpen p _ _))).trans (transit_keeps _ i _)

theorem firstPacket_keeps {s : State} {i : Fin 32} (h : (s.stream i).state ≠ .closed) (path : PathId) (p : Packet) :
    s.KeepsAccounts (s.firstPacket i path p) := by
  rw [firstPacket_eq]
  exact (primedBy_keeps h p).trans (classifyPacket_keeps (ingest_continues _ i path _).sameAdmission)

theorem rejectA_keeps (s : State) (i : Fin 32) : s.KeepsAccounts (s.rejectA i) := by
  unfold State.rejectA
  dsimp only
  have counted (c : StreamCounters) (n : Nat) :
      s.KeepsAccounts (s.setStream i { s.stream i with counters := c, breaks := n }) := .setStream ⟨rfl, Iff.rfl⟩
  split
  · exact counted _ _
  · exact (counted _ _).trans (relock_keeps _ _ _)

theorem rejectB_keeps (s : State) (i : Fin 32) : s.KeepsAccounts (s.rejectB i) := by
  unfold State.rejectB
  dsimp only
  split
  · split
    · exact .setStream ⟨rfl, Iff.rfl⟩
    · refine .posted (.setStream ?_) _
      exact ⟨rfl, Iff.rfl⟩
  · exact .setStream ⟨rfl, Iff.rfl⟩

/-- The record whose blocks a packet on the timeline brings: the break count of a path A packet is 0 (R65). -/
def Stream.onPath (x : Stream) : PathId → Stream
  | .a => { x with breaks := 0 }
  | .b => x

theorem onPath_continues (x : Stream) (path : PathId) : x.Continues (x.onPath path) := by
  cases path
  · exact ⟨rfl, .refl _, rfl, le_rfl, Nat.zero_le _, rfl, rfl, id, id⟩
  · exact .refl x

/-- What a packet's blocks leave of the record of its stream. -/
def State.ingestOf (s : State) (i : Fin 32) (path : PathId) (p : Packet) : Ingest :=
  ((s.stream i).onPath path).ingest i path (p.offers (extendSeq ((s.stream i).ePlay.getD 0) p.seq) s.clock.hbc)

theorem ingestOf_continues (s : State) (i : Fin 32) (path : PathId) (p : Packet) :
    (s.stream i).Continues (s.ingestOf i path p).x :=
  (onPath_continues _ path).trans (ingest_continues _ i path _)

/-- The state after a packet on the timeline, before an early resync (R64, R85). -/
def State.ingested (s : State) (i : Fin 32) (path : PathId) (p : Packet) : State :=
  if (s.ingestOf i path p).accepted then (s.classifyPacket i (s.ingestOf i path p)).transit i p.sourceTime
  else s.classifyPacket i (s.ingestOf i path p)

/-- Everything that a packet of a stream with a timeline can do. -/
theorem laterPacket_cases (s : State) (i : Fin 32) (path : PathId) (p : Packet) :
    s.laterPacket i path p = s.ingested i path p ∨ (∃ d, s.laterPacket i path p = (s.ingested i path p).earlyResync i d) ∨
    (path = .a ∧ s.laterPacket i path p = s.rejectA i) ∨ (path = .b ∧ s.laterPacket i path p = s.rejectB i) := by
  by_cases h : onTimeline ((s.stream i).origin.getD (0, 0)) (extendSeq ((s.stream i).ePlay.getD 0) p.seq) p.sourceTime = true
  · have e : s.laterPacket i path p = match (s.ingestOf i path p).resync with
        | some d => (s.ingested i path p).earlyResync i d
        | none => s.ingested i path p := by
      unfold State.laterPacket
      dsimp only
      rw [if_pos h]
      cases path <;> rfl
    cases hr : (s.ingestOf i path p).resync with
    | none => exact .inl (by rw [e, hr])
    | some d => exact .inr (.inl ⟨d, by rw [e, hr]⟩)
  · cases path
    · exact .inr (.inr (.inl ⟨rfl, if_neg h⟩))
    · exact .inr (.inr (.inr ⟨rfl, if_neg h⟩))

theorem ingested_keeps (s : State) (i : Fin 32) (path : PathId) (p : Packet) : s.KeepsAccounts (s.ingested i path p) := by
  have classified := classifyPacket_keeps (ingestOf_continues s i path p).sameAdmission
  unfold State.ingested
  split
  · exact classified.trans (transit_keeps _ i _)
  · exact classified

theorem laterPacket_keeps {s : State} {i : Fin 32} (h : (s.stream i).state ≠ .closed) (path : PathId) (p : Packet) :
    s.KeepsAccounts (s.laterPacket i path p) := by
  have classified := ingested_keeps s i path p
  obtain e | ⟨d, e⟩ | ⟨-, e⟩ | ⟨-, e⟩ := laterPacket_cases s i path p
  · rw [e]; exact classified
  · rw [e]; exact classified.trans (earlyResync_keeps (mt (classified.streams i).closed.mp h) d)
  · rw [e]; exact rejectA_keeps s i
  · rw [e]; exact rejectB_keeps s i

/-- Everything that steps 3 to 7 of the ingest order can do to a packet of a bound flow (R18 to R21). -/
theorem ingestStream_cases (s : State) (port : PortId) (i : Fin 32) (path : PathId) (p : Packet) :
    s.ingestStream port i path p = s.setPort port { s.port port with notStarted := (s.port port).notStarted + 1 } ∨
    ((s.stream i).state ≠ .closed ∧ ∃ c : StreamCounters,
      s.ingestStream port i path p = s.setStream i { s.stream i with counters := c }) ∨
    ((s.stream i).state = .acquiring ∧ s.ingestStream port i path p = s.firstPacket i path p) ∨
    ((s.stream i).state.drawn = true ∧ s.ingestStream port i path p = s.laterPacket i path p) := by
  unfold State.ingestStream
  dsimp only
  split
  · exact .inl rfl
  · exact .inl rfl
  · exact .inl rfl
  all_goals
    next hs =>
      rw [hs]
      split
      · exact .inr (.inl ⟨by decide, _, rfl⟩)
      · split
        · simp [StreamState.drawn]
        · exact .inr (.inl ⟨by decide, _, rfl⟩)

theorem ingestStream_keeps (s : State) (port : PortId) (i : Fin 32) (path : PathId) (p : Packet) :
    s.KeepsAccounts (s.ingestStream port i path p) := by
  obtain e | ⟨-, c, e⟩ | ⟨hs, e⟩ | ⟨hs, e⟩ := ingestStream_cases s port i path p
  · rw [e]; exact .setPort rfl
  · rw [e]; exact .setStream ⟨rfl, Iff.rfl⟩
  · rw [e]; exact firstPacket_keeps (by rw [hs]; decide) path p
  · rw [e]; exact laterPacket_keeps (StreamState.ne_closed_of_holds (StreamState.holdsTimeline_of_drawn hs)) path p

/-- Everything that the ingest order can do to a datagram: a port counts its drop, or it passes to a stream (R4, R17, R18). -/
theorem ingestDatagram_cases (s : State) (port : PortId) (d : List Byte) :
    (∃ x : Port, x.account = (s.port port).account ∧ s.ingestDatagram port d = s.setPort port x) ∨
    ∃ i path p, s.ingestDatagram port d = s.ingestStream port i path p := by
  unfold State.ingestDatagram
  dsimp only
  split
  · refine .inl ⟨_, ?_, rfl⟩; rfl
  · refine .inl ⟨_, ?_, rfl⟩; rfl
  · split
    · refine .inl ⟨_, ?_, rfl⟩; rfl
    · exact .inr ⟨_, _, _, rfl⟩

theorem ingestDatagram_keeps (s : State) (port : PortId) (d : List Byte) : s.KeepsAccounts (s.ingestDatagram port d) := by
  obtain ⟨x, hx, e⟩ | ⟨i, path, p, e⟩ := ingestDatagram_cases s port d
  · rw [e]; exact .setPort hx
  · rw [e]; exact ingestStream_keeps s port i path p

theorem arrival_keeps (s : State) (port : PortId) (d : List Byte) : s.KeepsAccounts (s.arrival port d) := by
  unfold State.arrival
  dsimp only
  split
  · refine State.KeepsAccounts.trans (.setPort ?_) (ingestDatagram_keeps _ port d)
    rfl
  · exact .refl s

/-! ## The boundary -/

/-- A boundary leaves whether a feed runs, its ports and the load that it is charged. -/
theorem Feed.boundary_charged (f : Feed) (hbc : Word) (input : List Frame) (sampled : Half) (upA upB : Bool) :
    (f.boundary hbc input sampled upA upB).running = f.running ∧ (f.boundary hbc input sampled upA upB).ports = f.ports ∧
      (f.boundary hbc input sampled upA upB).load = f.load := by
  have begun : (f.beginBlock hbc).running = f.running ∧ (f.beginBlock hbc).ports = f.ports ∧ (f.beginBlock hbc).load = f.load := by
    unfold Feed.beginBlock
    split
    · exact ⟨rfl, rfl, rfl⟩
    · exact ⟨rfl, rfl, rfl⟩
  have formed : (f.assembled hbc input sampled).running = f.running ∧ (f.assembled hbc input sampled).ports = f.ports ∧
      (f.assembled hbc input sampled).load = f.load := by
    unfold Feed.assembled Feed.formBlock
    split
    · exact begun
    · exact begun
  unfold Feed.boundary
  split
  · dsimp only
    split
    · exact formed
    · exact formed
  · exact ⟨rfl, rfl, rfl⟩

theorem boundary_keeps (s : State) (inp : BoundaryInput) : s.KeepsAccounts (s.boundary inp) := by
  obtain ⟨qs, e⟩ := boundary_parts s inp
  refine ⟨(boundary_stands s inp).sameAdmissions, by rw [e], by rw [e], fun p => ?_, fun r p => ?_⟩
  · rw [e]; cases p <;> rfl
  · have fed : (s.boundary inp).feed r = (s.feed r).boundary (s.clock.hbc + 1) (captureInput inp.tdm) inp.sigIn
        (s.portA.state == .up) (s.portB.state == .up) := by
      rw [e]
      simp [State.feed, ReturnMixer.boundary]
    obtain ⟨hrun, hports, hload⟩ := Feed.boundary_charged (s.feed r) (s.clock.hbc + 1) (captureInput inp.tdm) inp.sigIn
      (s.portA.state == .up) (s.portB.state == .up)
    simp only [fed, Feed.chargeAt, hrun, hports, hload]

end Sys2Proof.Machine
end

section
/-! SUPPORT. The admission and the close of a stream, port budgets and feed loads: what each leaves of the accounts; and O58. -/

namespace Sys2Proof.Machine

/-! ## STREAM_OPEN -/

@[simp] theorem require_ok (c : Bool) (st : Status) : require c st = .ok () ↔ c = true := by
  cases c <;> simp [require]

/-- A STREAM_OPEN passes the checks 3 to 8 exactly when each of them holds (R27). -/
theorem checks_ok (o : OpenFields) (s : State) : o.checks s = .ok () ↔
    payloadBytes o.packing o.channels o.format ≤ 1440 ∧ (s.group o.group).members.length < 8 ∧
    depthHolds o.depth (s.group o.group).hold = true ∧
    (s.flowHeld o.flowA || o.flowB.any s.flowHeld || o.flowB == some o.flowA) = false ∧
    s.slotsInUse + o.depth ≤ 4096 ∧ s.portA.admits (o.chargeOn .a) = true ∧ s.portB.admits (o.chargeOn .b) = true := by
  simp only [OpenFields.checks, require_bind_ok, require_ok, decide_eq_true_eq, Bool.not_eq_true', Bool.and_eq_true,
    Config.maxPayload, Config.slotPool]

@[simp] theorem openStream_stream_self (s : State) (i : Fin 32) (o : OpenFields) : (s.openStream i o).stream i = o.record :=
  setStream_stream_self s i _

theorem openStream_stream_ne (s : State) {i j : Fin 32} (o : OpenFields) (h : j ≠ i) :
    (s.openStream i o).stream j = s.stream j := setStream_stream_ne s _ h

theorem openStream_port (s : State) (i : Fin 32) (o : OpenFields) (p : PortId) :
    (s.openStream i o).port p = (s.port p).chargeIngest (o.chargeOn p) := by
  cases p <;> rfl

theorem record_chargeAt (o : OpenFields) (p : PortId) : o.record.chargeAt p = o.chargeOn p :=
  if_neg (by decide : StreamState.ready ≠ .closed)

theorem record_slotsHeld (o : OpenFields) : o.record.slotsHeld = o.depth := if_neg (by decide : StreamState.ready ≠ .closed)

theorem Stream.slotsHeld_closed {x : Stream} (h : x.state = .closed) : x.slotsHeld = 0 := if_pos h

theorem Stream.chargeAt_closed {x : Stream} (h : x.state = .closed) (p : PortId) : x.chargeAt p = 0 := if_pos h

/-- A port that admits a charge has room for it, whether the charge is 0 or not (R27, check 8). -/
theorem Port.admits_fits {x : Port} {n : Nat} (h : x.admits n = true) (hx : x.ingestLoad ≤ x.ingestBudget) :
    x.ingestLoad + n ≤ x.ingestBudget := by
  simp only [Port.admits, Bool.or_eq_true, beq_iff_eq, decide_eq_true_eq] at h
  omega

/-- STREAM_OPEN charges the slots and the loads that its checks found room for. -/
theorem openStream_accounts {s : State} (h : s.AccountsOk) {i : Fin 32} {o : OpenFields} (hc : (s.stream i).state = .closed)
    (hk : o.checks s = .ok ()) : (s.openStream i o).AccountsOk := by
  obtain ⟨-, -, -, -, hslots, hadmitA, hadmitB⟩ := (checks_ok o s).mp hk
  refine ⟨?_, hslots, fun p => ?_⟩
  · have sum := sum_replaced (f := fun j => (s.stream j).slotsHeld) (g := fun j => ((s.openStream i o).stream j).slotsHeld) i
      fun j hj => by rw [openStream_stream_ne s o hj]
    rw [openStream_stream_self, record_slotsHeld, Stream.slotsHeld_closed hc] at sum
    have slots : (s.openStream i o).slotsInUse = s.slotsInUse + o.depth := rfl
    rw [slots, h.slotSum, sum_slotsHeld, sum_slotsHeld]
    exact sum.symm.trans (Nat.add_zero _)
  · have a := h.ports p
    have admitted : (s.port p).admits (o.chargeOn p) = true := by
      cases p
      · exact hadmitA
      · exact hadmitB
    have sum := sum_replaced (f := fun j => (s.stream j).chargeAt p) (g := fun j => ((s.openStream i o).stream j).chargeAt p) i
      fun j hj => by rw [openStream_stream_ne s o hj]
    rw [openStream_stream_self, record_chargeAt, Stream.chargeAt_closed hc] at sum
    have charged := openStream_port s i o p
    refine ⟨?_, ?_, ?_, ?_, ?_, ?_⟩
    · rw [charged, Port.chargeIngest, a.ingestSum, sum_streamCharges, sum_streamCharges]
      exact sum.symm.trans (Nat.add_zero _)
    · rw [charged]; exact a.transmitSum
    · rw [charged]; exact Port.admits_fits admitted a.ingestFits
    · rw [charged]; exact a.transmitFits
    · rw [charged]; exact a.ingestBudget
    · rw [charged]; exact a.transmitBudget

/-! ## STREAM_CLOSE -/

/-- The streams and groups that a STREAM_CLOSE leaves, before the group's drift and rate settle (R34, R47, R53). -/
def State.departed (s : State) (i : Fin 32) : State :=
  ((s.setStream i .closed).setGroup (s.stream i).group ((s.group (s.stream i).group).removeMember i)).unanchorIfLeft
    (s.stream i).group

theorem departed_stands (s : State) (i : Fin 32) : (s.setStream i .closed).Stands (s.departed i) :=
  State.Stands.trans (t := (s.setStream i .closed).setGroup (s.stream i).group ((s.group (s.stream i).group).removeMember i))
    (.of_streams rfl) (unanchorIfLeft_stands _ _)

theorem closeStream_stream_ne (s : State) {i j : Fin 32} (h : j ≠ i) : (s.stream j).Stands ((s.closeStream i).stream j) := by
  have e := departed_stands s i j
  rwa [setStream_stream_ne _ _ h] at e

theorem closeStream_state_self (s : State) (i : Fin 32) : ((s.closeStream i).stream i).state = .closed := by
  have e := departed_stands s i i
  rw [setStream_stream_self] at e
  exact e.state.closed.mpr rfl

theorem closeStream_port (s : State) (i : Fin 32) (p : PortId) : (s.closeStream i).port p =
    (s.port p).releaseIngest (chargeOn p (s.stream i).load (s.stream i).flowA (s.stream i).flowB) := by
  cases p <;> rfl

theorem closeStream_feed (s : State) (i : Fin 32) (r : Fin 16) : (s.closeStream i).feed r = s.feed r := by
  have e : (s.departed i).returns = s.returns := by
    unfold State.departed State.unanchorIfLeft
    split
    · rfl
    · rfl
  exact congrArg (fun r' => r'.feeds.get r) e

/-- STREAM_CLOSE releases exactly what its stream was charged. -/
theorem closeStream_accounts {s : State} (h : s.AccountsOk) {i : Fin 32} (ho : (s.stream i).state ≠ .closed) :
    (s.closeStream i).AccountsOk := by
  have slots : (s.closeStream i).slotsInUse = s.slotsInUse - (s.stream i).slotsHeld := by
    rw [Stream.slotsHeld, if_neg ho]; rfl
  refine ⟨?_, ?_, fun p => ?_⟩
  · have sum := sum_replaced (f := fun j => (s.stream j).slotsHeld) (g := fun j => ((s.closeStream i).stream j).slotsHeld) i
      fun j hj => (closeStream_stream_ne s hj).sameAdmission.slotsHeld
    rw [Stream.slotsHeld_closed (closeStream_state_self s i)] at sum
    rw [slots, h.slotSum, sum_slotsHeld, sum_slotsHeld]
    exact (Nat.eq_sub_of_add_eq (sum.trans (Nat.add_zero _))).symm
  · rw [slots]
    exact (Nat.sub_le _ _).trans h.slotsFit
  · have a := h.ports p
    have port := closeStream_port s i p
    have released : ((s.closeStream i).port p).ingestLoad = (s.port p).ingestLoad - (s.stream i).chargeAt p := by
      rw [port, Stream.chargeAt, if_neg ho]; rfl
    have sum := sum_replaced (f := fun j => (s.stream j).chargeAt p) (g := fun j => ((s.closeStream i).stream j).chargeAt p) i
      fun j hj => (closeStream_stream_ne s hj).sameAdmission.chargeAt p
    rw [Stream.chargeAt_closed (closeStream_state_self s i)] at sum
    refine ⟨?_, ?_, ?_, ?_, ?_, ?_⟩
    · rw [released, a.ingestSum, sum_streamCharges, sum_streamCharges]
      exact (Nat.eq_sub_of_add_eq (sum.trans (Nat.add_zero _))).symm
    · rw [port]
      refine a.transmitSum.trans ?_
      rw [sum_feedCharges, sum_feedCharges]
      exact Finset.sum_congr rfl fun r _ => by rw [closeStream_feed]
    · rw [released, port]
      exact (Nat.sub_le _ _).trans a.ingestFits
    · rw [port]; exact a.transmitFits
    · rw [port]; exact a.ingestBudget
    · rw [port]; exact a.transmitBudget

/-! ## Ports and feeds -/

theorem State.AccountsOk.port {s : State} (h : s.AccountsOk) {p : PortId} {x : Port} (hi : x.ingestLoad = (s.port p).ingestLoad)
    (ht : x.transmitLoad = (s.port p).transmitLoad) (hib : x.ingestLoad ≤ x.ingestBudget) (htb : x.transmitLoad ≤ x.transmitBudget)
    (hir : 1000 ≤ x.ingestBudget ∧ x.ingestBudget ≤ 950000) (htr : 1000 ≤ x.transmitBudget ∧ x.transmitBudget ≤ 950000) :
    (s.setPort p x).AccountsOk where
  slotSum := by simpa using h.slotSum
  slotsFit := by simpa using h.slotsFit
  ports q := by
    by_cases e : q = p
    · subst e
      refine ⟨?_, ?_, ?_, ?_, ?_, ?_⟩ <;> rw [setPort_port_self]
      · rw [hi, setPort_streams]; exact (h.ports q).ingestSum
      · rw [ht, setPort_returns]; exact (h.ports q).transmitSum
      · exact hib
      · exact htb
      · exact hir
      · exact htr
    · have a := h.ports q
      have other : (s.setPort p x).port q = s.port q := setPort_port_ne s x e
      refine ⟨?_, ?_, ?_, ?_, ?_, ?_⟩ <;> rw [other]
      · rw [setPort_streams]; exact a.ingestSum
      · rw [setPort_returns]; exact a.transmitSum
      · exact a.ingestFits
      · exact a.transmitFits
      · exact a.ingestBudget
      · exact a.transmitBudget

/-- A budget after a PORT_BUDGET that passed its checks: in range and not below the load that stands (R13). -/
theorem newBudget_ok {old load n : Nat} (hr : budgetInRange n = true) (hf : n = 0 ∨ load ≤ n) (ho : load ≤ old)
    (hor : 1000 ≤ old ∧ old ≤ 950000) : load ≤ newBudget old n ∧ 1000 ≤ newBudget old n ∧ newBudget old n ≤ 950000 := by
  simp only [budgetInRange, Bool.or_eq_true, beq_iff_eq, Bool.and_eq_true, decide_eq_true_eq] at hr
  unfold newBudget
  split
  · exact ⟨ho, hor⟩
  · omega

/-- The load of a port that gives up and takes a feed's charge, which stood in its load, moves as the charge does (R140, R144). -/
theorem moveTransmit_load (x : Port) (old new : Bool) {load : Nat} (h : (if old then load else 0) ≤ x.transmitLoad) :
    (x.moveTransmit old new load).transmitLoad + (if old then load else 0) = x.transmitLoad + if new then load else 0 := by
  cases old <;> cases new <;> simp [Port.moveTransmit] at h ⊢
  omega

theorem moveTransmit_fits {x : Port} {old new : Bool} {load : Nat} (h : x.admitsTransmit old new load = true)
    (hx : x.transmitLoad ≤ x.transmitBudget) : (x.moveTransmit old new load).transmitLoad ≤ x.transmitBudget := by
  cases old <;> cases new <;> simp [Port.moveTransmit, Port.admitsTransmit] at h ⊢ <;> omega

/-- A feed's charge moves between ports, each port's load with it. -/
theorem feedMoved_accounts {s : State} (h : s.AccountsOk) {r : Fin 16} {y : Feed} {old new : PortId → Bool} {load : Nat}
    (before : ∀ p, (s.feed r).chargeAt p = if old p then load else 0) (after : ∀ p, y.chargeAt p = if new p then load else 0)
    (fits : ∀ p, (s.port p).admitsTransmit (old p) (new p) load = true) :
    State.AccountsOk { s.setFeed r y with
      portA := s.portA.moveTransmit (old .a) (new .a) load
      portB := s.portB.moveTransmit (old .b) (new .b) load } := by
  refine ⟨h.slotSum, h.slotsFit, fun p => ?_⟩
  have a := h.ports p
  have port : State.port { s.setFeed r y with
      portA := s.portA.moveTransmit (old .a) (new .a) load
      portB := s.portB.moveTransmit (old .b) (new .b) load } p = (s.port p).moveTransmit (old p) (new p) load := by
    cases p <;> rfl
  have sum := sum_replaced (f := fun k => (s.feed k).chargeAt p) (g := fun k => ((s.setFeed r y).feed k).chargeAt p) r
    fun k hk => by rw [setFeed_feed_ne s y hk]
  rw [setFeed_feed_self, before, after] at sum
  have loads : (s.port p).transmitLoad = ∑ k, (s.feed k).chargeAt p := a.transmitSum.trans (sum_feedCharges s p)
  have charged : (if old p then load else 0) ≤ (s.port p).transmitLoad := by
    rw [loads, ← before p]
    exact Finset.single_le_sum (f := fun k => (s.feed k).chargeAt p) (fun _ _ => Nat.zero_le _) (Finset.mem_univ r)
  have moved := moveTransmit_load (s.port p) (old p) (new p) charged
  refine ⟨?_, ?_, ?_, ?_, ?_, ?_⟩ <;> rw [port]
  · exact a.ingestSum
  · rw [sum_feedCharges]
    refine Nat.add_right_cancel (m := if old p then load else 0) (moved.trans ?_)
    rw [loads]
    exact sum.symm
  · exact a.ingestFits
  · exact moveTransmit_fits (fits p) a.transmitFits
  · exact a.ingestBudget
  · exact a.transmitBudget

/-- What every reset leaves balances: nothing is open and nothing runs. -/
theorem MediaReset.accounts {t : State} (h : t.MediaReset) : t.AccountsOk := by
  obtain ⟨ca, ha⟩ := h.portA
  obtain ⟨cb, hb⟩ := h.portB
  have noSlots : (t.streams.toList.map Stream.slotsHeld).sum = 0 := by
    rw [sum_toList, h.streams]
    exact Finset.sum_eq_zero fun i _ => by rw [replicate_get]; rfl
  have noCharge (p : PortId) : (t.streams.toList.map (·.chargeAt p)).sum = 0 := by
    rw [sum_toList, h.streams]
    exact Finset.sum_eq_zero fun i _ => by rw [replicate_get]; rfl
  have noFeed (p : PortId) : (t.returns.feeds.toList.map (·.chargeAt p)).sum = 0 := by
    rw [sum_toList, h.feeds]
    exact Finset.sum_eq_zero fun r _ => by rw [replicate_get]; rfl
  have port (p : PortId) : ∃ c, t.port p = .reset c := by
    cases p
    · exact ⟨ca, ha⟩
    · exact ⟨cb, hb⟩
  refine ⟨by rw [noSlots, h.slotsInUse], by rw [h.slotsInUse]; decide, fun p => ?_⟩
  obtain ⟨c, hp⟩ := port p
  constructor <;> rw [hp]
  · rw [noCharge]; rfl
  · rw [noFeed]; rfl
  · exact Nat.zero_le _
  · exact Nat.zero_le _
  · simp [Port.reset]
  · simp [Port.reset]

/-! ## Every step -/

/-- Every change of the media side keeps the accounts. -/
theorem MediaChange.accounts {s t : State} (c : s.MediaChange t) (h : s.AccountsOk) : t.AccountsOk := by
  cases c with
  | stands => exact h
  | reset hr => exact MediaReset.accounts hr
  | boundary inp => exact h.of_keeps (boundary_keeps s inp)
  | arrival p n d => exact h.of_keeps (.trans (.of_sameMedia (.atSample s n)) (arrival_keeps _ p d))
  | port p x hx => exact h.of_keeps (.setPort hx)
  | budget p ingest transmit ranges fits =>
    have a := h.ports p
    obtain ⟨hi, hir⟩ := newBudget_ok ranges.1 fits.1 a.ingestFits a.ingestBudget
    obtain ⟨ht, htr⟩ := newBudget_ok ranges.2 fits.2 a.transmitFits a.transmitBudget
    exact h.port rfl rfl hi ht hir htr
  | opened i o body hc _ hk => exact openStream_accounts h hc hk
  | started i hr =>
    exact h.of_keeps (.setStream ⟨rfl, iff_of_false (by decide : StreamState.acquiring ≠ .closed) (by rw [hr]; decide)⟩)
  | stopped i ho => exact h.of_keeps (stopStream_keeps ho)
  | closed i ho => exact closeStream_accounts h ho
  | repaired i _ _ => exact h.of_keeps (.setStream ⟨rfl, Iff.rfl⟩)
  | tested i => exact h.of_keeps (.setStream ⟨rfl, Iff.rfl⟩)
  | group g x _ _ => exact h.of_keeps (.setGroup s g x)
  | feed r y hy =>
    refine h.of_keeps ⟨.of_streams rfl, rfl, rfl, fun p => by rw [setFeed_port], fun k p => ?_⟩
    by_cases e : k = r
    · subst e; rw [setFeed_feed_self]; exact hy p
    · rw [setFeed_feed_ne s y e]
  | feedMoved r y old new load before after fits => exact feedMoved_accounts h before after fits

/-- Settles O58, by the ways in which a step moves the media side. -/
theorem accountsBalance : Obligations.AccountsBalance := by
  intro s t h hstep
  obtain ⟨u, hu, v, hv, ht⟩ := step_media hstep
  exact (MediaChange.accounts hv (h.of_keeps (.of_sameMedia hu))).of_keeps (.of_sameMedia ht)

end Sys2Proof.Machine
end

section
/-! SUPPORT. The streams with their groups, flows and timelines (R16, R23, R47, R53, R67) through every change of the media side; and
O59. -/

namespace Sys2Proof.Machine

/-! ## Timelines, with the groups that may still have to be unanchored -/

/-- The streams with their groups and timelines, where only the groups of `settled` need a member that holds the timeline: between
the leaving of a member and its group's unanchoring (R53). -/
structure State.TimelinesOk (s : State) (settled : Fin 16 → Prop) : Prop where
  streams : ∀ i, (s.stream i).Ok
  membership : s.MembershipOk
  anchored : ∀ i, (s.stream i).state.drawn = true → (s.group (s.stream i).group).anchored = true
  held : ∀ g, settled g → (s.group g).anchored = true → ∃ i ∈ (s.group g).members, (s.stream i).state.holdsTimeline = true

theorem State.StreamsOk.timelines {s : State} (h : s.StreamsOk) : s.TimelinesOk fun _ => True :=
  ⟨h.streams, h.membership, h.anchored, fun g _ => h.held g⟩

theorem State.TimelinesOk.streamsOk {s : State} (h : s.TimelinesOk fun _ => True) (hf : s.FlowTableOk) : s.StreamsOk :=
  ⟨h.streams, h.membership, hf, h.anchored, fun g => h.held g trivial⟩

/-- Two states agree on who is a member of each group and on which groups are ANCHORED. -/
structure State.SameGroups (s t : State) : Prop where
  members : ∀ g, (t.group g).members = (s.group g).members
  anchored : ∀ g, (t.group g).anchored = (s.group g).anchored

theorem State.SameGroups.of_groups {s t : State} (h : t.groups = s.groups) : s.SameGroups t := by
  constructor <;> intro g <;> simp only [State.group, h]

theorem State.SameGroups.setGroup {s : State} {g : Fin 16} {x : Group} (hm : x.members = (s.group g).members)
    (ha : x.anchored = (s.group g).anchored) : s.SameGroups (s.setGroup g x) := by
  constructor
  · intro j
    by_cases e : j = g
    · subst e; rw [setGroup_group_self, hm]
    · rw [setGroup_group_ne _ _ e]
  · intro j
    by_cases e : j = g
    · subst e; rw [setGroup_group_self, ha]
    · rw [setGroup_group_ne _ _ e]

/-- Membership follows the admissions and the lists. -/
theorem State.MembershipOk.of_same {s t : State} (h : s.MembershipOk) (hm : ∀ g, (t.group g).members = (s.group g).members)
    (ha : s.SameAdmissions t) : t.MembershipOk where
  listed g i := by rw [hm, h.listed, ne_eq, ne_eq, (ha i).closed, (ha i).group]
  atMostEight g := by rw [hm]; exact h.atMostEight g
  noRepeat g := by rw [hm]; exact h.noRepeat g

/-- The Flow Table agrees with the same declared flows. -/
theorem State.FlowTableOk.of_same {s t : State} (h : s.FlowTableOk) (hf : t.flows = s.flows) (ha : s.SameAdmissions t) :
    t.FlowTableOk where
  pathA i := by rw [hf, (ha i).flowA]; exact h.pathA i
  pathB i := by rw [hf, (ha i).flowB]; exact h.pathB i
  distinct := by rw [hf]; exact h.distinct

/-- Timelines where every stream goes on in order and the groups stand. -/
theorem State.TimelinesOk.of_stands {s t : State} {settled : Fin 16 → Prop} (h : s.TimelinesOk settled) (hs : s.Stands t)
    (hg : s.SameGroups t) : t.TimelinesOk settled where
  streams i := (hs i).ok (h.streams i)
  membership := h.membership.of_same hg.members hs.sameAdmissions
  anchored i hd := by
    rw [hg.anchored, (hs i).sameAdmission.group]
    exact h.anchored i ((hs i).state.drawn hd)
  held g hp ha := by
    rw [hg.anchored] at ha
    obtain ⟨i, hi, hh⟩ := h.held g hp ha
    exact ⟨i, by rw [hg.members]; exact hi, by rw [(hs i).state.holds]; exact hh⟩

theorem State.StreamsOk.of_stands {s t : State} (h : s.StreamsOk) (hs : s.Stands t) (hg : s.SameGroups t) (hf : t.flows = s.flows) :
    t.StreamsOk :=
  (h.timelines.of_stands hs hg).streamsOk (h.flowTable.of_same hf hs.sameAdmissions)

theorem State.StreamsOk.of_eq {s t : State} (h : s.StreamsOk) (hs : t.streams = s.streams) (hg : t.groups = s.groups)
    (hf : t.flows = s.flows) : t.StreamsOk :=
  h.of_stands (.of_streams hs) (.of_groups hg) hf

/-- A member's group lists it. -/
theorem State.MembershipOk.mem {s : State} (h : s.MembershipOk) {i : Fin 32} (ho : (s.stream i).state ≠ .closed) :
    i ∈ (s.group (s.stream i).group).members := (h.listed _ i).mpr ⟨ho, rfl⟩

/-! ## Unanchoring -/

theorem unanchor_group_self (s : State) (g : Fin 16) : (s.unanchor g).group g = (s.group g).unanchor := setGroup_group_self _ _ _

theorem unanchor_group_ne (s : State) {g j : Fin 16} (h : j ≠ g) : (s.unanchor g).group j = s.group j := setGroup_group_ne _ _ h

theorem unanchor_members (s : State) (g j : Fin 16) : ((s.unanchor g).group j).members = (s.group j).members := by
  by_cases e : j = g
  · subst e; rw [unanchor_group_self]; rfl
  · rw [unanchor_group_ne _ e]

/-- A group none of whose members is drawn may be unanchored. -/
theorem unanchor_timelines {s : State} {g : Fin 16} (h : s.TimelinesOk (· ≠ g))
    (hd : ∀ i, (s.stream i).group = g → (s.stream i).state.drawn = false) : (s.unanchor g).TimelinesOk fun _ => True where
  streams i := (unanchor_stands s g i).ok (h.streams i)
  membership := h.membership.of_same (unanchor_members s g) (unanchor_stands s g).sameAdmissions
  anchored i hi := by
    have drawn := (unanchor_stands s g i).state.drawn hi
    rw [(unanchor_stands s g i).sameAdmission.group]
    have other : (s.stream i).group ≠ g := fun e => by rw [hd i e] at drawn; cases drawn
    rw [unanchor_group_ne _ other]
    exact h.anchored i drawn
  held j _ ha := by
    by_cases e : j = g
    · subst e
      rw [unanchor_group_self] at ha
      cases ha
    · rw [unanchor_group_ne _ e] at ha ⊢
      obtain ⟨i, hi, hh⟩ := h.held j e ha
      exact ⟨i, hi, by rw [(unanchor_stands s g i).state.holds]; exact hh⟩

/-- A group that may have lost the last holder of its timeline, once it has been looked at (R53). -/
theorem unanchorIfLeft_timelines {s : State} {g : Fin 16} (h : s.TimelinesOk (· ≠ g)) :
    (s.unanchorIfLeft g).TimelinesOk fun _ => True := by
  unfold State.unanchorIfLeft
  split
  next hc =>
    simp only [Bool.and_eq_true, Bool.not_eq_true', List.any_eq_false] at hc
    refine unanchor_timelines h fun i hi => ?_
    by_contra hd
    have drawn : (s.stream i).state.drawn = true := by simpa using hd
    have holds := StreamState.holdsTimeline_of_drawn drawn
    have member := h.membership.mem (StreamState.ne_closed_of_holds holds)
    rw [hi] at member
    exact hc.2 i member holds
  next hc =>
    refine ⟨h.streams, h.membership, h.anchored, fun j _ ha => ?_⟩
    by_cases e : j = g
    · subst e
      by_contra hn
      refine hc ?_
      simp only [Bool.and_eq_true, Bool.not_eq_true', List.any_eq_false]
      exact ⟨ha, fun i hi hh => hn ⟨i, hi, hh⟩⟩
    · exact h.held j e ha

/-! ## Leaving a timeline -/

/-- A record that leaves its timeline for READY or ACQUIRING is in order, whatever its break count was. -/
theorem leaveTimeline_ok {x y : Stream} (h : x.Ok) (ho : x.state ≠ .closed) {st : StreamState} (hst : st = .ready ∨ st = .acquiring)
    (hy : ∃ (c : StreamCounters) (n : Nat), y = { x with counters := c, breaks := n }) : (y.leaveTimeline st).Ok := by
  obtain ⟨c, n, rfl⟩ := hy
  have outside : st ≠ .closed ∧ st.holdsTimeline = false := by
    obtain rfl | rfl := hst
    · exact ⟨by decide, rfl⟩
    · exact ⟨by decide, rfl⟩
  constructor
  case closed => exact fun e => absurd e outside.1
  case channels => exact fun _ => h.channels ho
  case packing => exact fun _ => h.packing ho
  case depth => exact fun _ => h.depth ho
  case payload => exact fun _ => h.payload ho
  case load => exact fun _ => h.load ho
  case ring => exact List.length_replicate
  case flowA => exact fun _ => h.flowA ho
  case flowB => exact h.flowB
  case origin => exact iff_of_false (by simp [Stream.leaveTimeline]) (by simp [Stream.leaveTimeline, outside.2])
  case ePlay => exact iff_of_false (by simp [Stream.leaveTimeline]) (by simp [Stream.leaveTimeline, outside.2])
  case earlyRun => exact Nat.zero_le 7
  case breaks => exact Nat.zero_le 3
  case mismatches => exact h.mismatches

/-- A stream leaves its timeline: its group is then to be looked at. -/
theorem setStream_left {s : State} {i : Fin 32} {y : Stream} (h : s.TimelinesOk fun _ => True) (hy : (s.stream i).SameAdmission y)
    (hok : y.Ok) (hd : y.state.drawn = false) : (s.setStream i y).TimelinesOk (· ≠ (s.stream i).group) where
  streams j := by
    by_cases e : j = i
    · subst e; rw [setStream_stream_self]; exact hok
    · rw [setStream_stream_ne _ _ e]; exact h.streams j
  membership := h.membership.of_same (fun _ => rfl) (.setStream hy)
  anchored j hj := by
    by_cases e : j = i
    · subst e; rw [setStream_stream_self, hd] at hj; cases hj
    · rw [setStream_stream_ne _ _ e] at hj ⊢; exact h.anchored j hj
  held g hg ha := by
    obtain ⟨j, hj, hh⟩ := h.held g trivial ha
    have other : j ≠ i := by
      rintro rfl
      exact hg ((h.membership.listed g j).mp hj).2.symm
    exact ⟨j, hj, by rw [setStream_stream_ne _ _ other]; exact hh⟩

theorem stopStream_ok {s : State} (h : s.StreamsOk) {i : Fin 32} (ho : (s.stream i).state ≠ .closed) : (s.stopStream i).StreamsOk := by
  have ready : ({ (s.stream i).leaveTimeline .ready with windowMismatches := 0, clock := (s.stream i).clock.stop } : Stream).Ok :=
    { leaveTimeline_ok (h.streams i) ho (.inl rfl) ⟨(s.stream i).counters, (s.stream i).breaks, rfl⟩ with
      closed := fun e => absurd e (by decide : StreamState.ready ≠ .closed)
      mismatches := ⟨Nat.zero_le 4, fun _ => Nat.zero_le 3⟩ }
  have left := setStream_left h.timelines (stopped_sameAdmission ho) ready rfl
  have kept := stopStream_keeps ho
  exact (unanchorIfLeft_timelines left).streamsOk (h.flowTable.of_same kept.flows kept.streams)

theorem earlyResync_ok {s : State} (h : s.StreamsOk) {i : Fin 32} (ho : (s.stream i).state ≠ .closed) (d : Int) :
    (s.earlyResync i d).StreamsOk := by
  have left := setStream_left h.timelines (leaveTimeline_sameAdmission ho (by decide))
    (leaveTimeline_ok (h.streams i) ho (.inr rfl) ⟨(s.stream i).counters, (s.stream i).breaks, rfl⟩) rfl
  have posted : (((s.setStream i ((s.stream i).leaveTimeline .acquiring)).post
      { kind := .earlyResync, subject := i.val, detail := d })).TimelinesOk (· ≠ (s.stream i).group) :=
    left.of_stands (.of_streams rfl) (.of_groups rfl)
  have kept := earlyResync_keeps ho d
  exact (unanchorIfLeft_timelines posted).streamsOk (h.flowTable.of_same kept.flows kept.streams)

/-! ## A relock -/

/-- The record that a relock leaves of a member (R56). -/
def Stream.relocked (x : Stream) : Stream := if x.state.relocks then x.leaveTimeline .acquiring else x

theorem relocks_of_drawn {a : StreamState} (h : a.drawn = true) : a.relocks = true := by
  cases a <;> simp_all [StreamState.drawn, StreamState.relocks]

theorem relocked_not_drawn (x : Stream) : x.relocked.state.drawn = false := by
  unfold Stream.relocked
  split
  · rfl
  next h =>
    by_contra hd
    exact h (relocks_of_drawn (by simpa using hd))

theorem relocked_sameAdmission (x : Stream) : x.SameAdmission x.relocked := by
  unfold Stream.relocked
  split
  next h => exact leaveTimeline_sameAdmission (StreamState.ne_closed_of_relocks h) (by decide)
  · exact .refl x

theorem relocked_ok {x : Stream} (h : x.Ok) : x.relocked.Ok := by
  unfold Stream.relocked
  split
  next hr => exact leaveTimeline_ok h (StreamState.ne_closed_of_relocks hr) (.inr rfl) ⟨x.counters, x.breaks, rfl⟩
  · exact h

theorem relocked_of_closed {x : Stream} (h : x.state = .closed) : x.relocked = x := by
  simp [Stream.relocked, h, StreamState.relocks]

/-- After a relock of its group no stream of the group is drawn. -/
theorem relocked_idle {u : State} {g : Fin 16} (hm : u.MembershipOk) (j : Fin 32)
    (hj : ((u.mapMembers g Stream.relocked).stream j).group = g) : ((u.mapMembers g Stream.relocked).stream j).state.drawn = false := by
  rw [mapMembers_stream] at hj ⊢
  split
  · exact relocked_not_drawn _
  next hn =>
    rw [if_neg hn] at hj
    by_contra hd
    have isOpen := StreamState.ne_closed_of_holds (StreamState.holdsTimeline_of_drawn (by simpa using hd))
    exact hn (by simpa using (hm.listed g j).mpr ⟨isOpen, hj⟩)

/-- The members of a group that relocks leave their timelines; one of them, the cause, may stand at one break too many before
(R56, R65). -/
theorem relocked_timelines {u : State} {g : Fin 16} (hm : u.MembershipOk) (hok : ∀ j, (u.stream j).relocked.Ok)
    (hother : ∀ j, (u.stream j).group ≠ g → (u.stream j).Ok)
    (hanch : ∀ j, (u.stream j).state.drawn = true → (u.group (u.stream j).group).anchored = true)
    (hheld : ∀ k, k ≠ g → (u.group k).anchored = true → ∃ i ∈ (u.group k).members, (u.stream i).state.holdsTimeline = true) :
    (u.mapMembers g Stream.relocked).TimelinesOk (· ≠ g) where
  streams j := by
    rw [mapMembers_stream]
    split
    · exact hok j
    next hn =>
      by_cases e : (u.stream j).state = .closed
      · rw [← relocked_of_closed e]; exact hok j
      · exact hother j fun hg => hn (by simpa using (hm.listed g j).mpr ⟨e, hg⟩)
  membership := hm.of_same (fun k => congrArg Group.members (mapMembers_group u g k _)) fun j => by
    rw [mapMembers_stream]
    split
    · exact relocked_sameAdmission _
    · exact .refl _
  anchored j hj := by
    rw [mapMembers_group]
    rw [mapMembers_stream] at hj ⊢
    split
    next hn =>
      rw [if_pos hn, relocked_not_drawn] at hj
      cases hj
    next hn =>
      rw [if_neg hn] at hj
      exact hanch j hj
  held k hk ha := by
    rw [mapMembers_group] at ha ⊢
    obtain ⟨i, hi, hh⟩ := hheld k hk ha
    have other : i ∉ (u.group g).members := fun hg =>
      hk (((hm.listed k i).mp hi).2.symm.trans ((hm.listed g i).mp hg).2)
    exact ⟨i, hi, by rw [mapMembers_stream, if_neg (by simpa using other)]; exact hh⟩

/-- A relock of a group, caused by a member that is then at one break too many (R56, R65). -/
theorem relock_ok {s : State} {cause : Fin 32} (h : s.StreamsOk) (hr : (s.stream cause).state.relocks = true) (c : StreamCounters)
    (n : Nat) :
    ((s.setStream cause { s.stream cause with counters := c, breaks := n }).relock (s.stream cause).group cause).StreamsOk := by
  have counted : (s.stream cause).SameAdmission { s.stream cause with counters := c, breaks := n } := ⟨rfl, Iff.rfl⟩
  generalize hu : s.setStream cause { s.stream cause with counters := c, breaks := n } = u
  have same : s.SameAdmissions u := hu ▸ .setStream counted
  have self : u.stream cause = { s.stream cause with counters := c, breaks := n } := by rw [← hu, setStream_stream_self]
  have other {j : Fin 32} (e : j ≠ cause) : u.stream j = s.stream j := by rw [← hu, setStream_stream_ne _ _ e]
  have state (j : Fin 32) : (u.stream j).state = (s.stream j).state := by
    by_cases e : j = cause
    · rw [e, self]
    · rw [other e]
  have group (k : Fin 16) : u.group k = s.group k := by rw [← hu]; rfl
  have members := h.membership.of_same (t := u) (fun k => by rw [group]) same
  have left : (u.mapMembers (s.stream cause).group Stream.relocked).TimelinesOk (· ≠ (s.stream cause).group) := by
    refine relocked_timelines members (fun j => ?_) (fun j hj => ?_) (fun j hj => ?_) fun k _ ha => ?_
    · by_cases e : j = cause
      · rw [e, self, Stream.relocked, if_pos hr]
        exact leaveTimeline_ok (h.streams cause) (StreamState.ne_closed_of_relocks hr) (.inr rfl) ⟨c, n, rfl⟩
      · rw [other e]; exact relocked_ok (h.streams j)
    · have e : j ≠ cause := fun e => hj (by rw [e, self])
      rw [other e]; exact h.streams j
    · rw [(same j).group, group]
      exact h.anchored j (state j ▸ hj)
    · rw [group] at ha ⊢
      obtain ⟨i, hi, hh⟩ := h.held k ha
      exact ⟨i, hi, by rw [state]; exact hh⟩
  have kept := (State.KeepsAccounts.setStream counted).trans (relock_keeps _ (s.stream cause).group cause)
  rw [hu] at kept
  exact ((unanchor_timelines left (relocked_idle members)).of_stands (t := u.relock (s.stream cause).group cause)
    (.of_streams rfl) (.of_groups rfl)).streamsOk
    (h.flowTable.of_same kept.flows kept.streams)

/-! ## Packets -/

theorem setStream_ok {s : State} (h : s.StreamsOk) {i : Fin 32} {y : Stream} (hy : (s.stream i).Stands y) : (s.setStream i y).StreamsOk :=
  h.of_stands (.setStream hy) (.of_groups rfl) rfl

theorem ne_closed_of_drawn {x : Stream} (h : x.state.drawn = true) : x.state ≠ .closed :=
  StreamState.ne_closed_of_holds (StreamState.holdsTimeline_of_drawn h)

theorem rejectA_ok {s : State} (h : s.StreamsOk) {i : Fin 32} (hd : (s.stream i).state.drawn = true) : (s.rejectA i).StreamsOk := by
  unfold State.rejectA
  dsimp only
  split
  next hb =>
    have isOpen := ne_closed_of_drawn hd
    exact setStream_ok h ⟨rfl, .refl _, fun hx => { hx with closed := fun e => absurd e isOpen, breaks := Nat.lt_succ_iff.mp hb }⟩
  · exact relock_ok h (relocks_of_drawn hd) _ _

theorem rejectB_ok {s : State} (h : s.StreamsOk) {i : Fin 32} (ho : (s.stream i).state ≠ .closed) : (s.rejectB i).StreamsOk := by
  unfold State.rejectB
  dsimp only
  split
  next hp =>
    have notSingle : (s.stream i).pair ≠ .single := by rw [hp.1]; decide
    have bound : (s.stream i).windowMismatches ≤ 3 := (h.streams i).mismatches.2 hp.1
    split
    next hm =>
      exact setStream_ok h ⟨rfl, .refl _, fun hx => { hx with
        closed := fun e => absurd e ho
        mismatches := ⟨by dsimp only; omega, fun _ => by dsimp only; omega⟩ }⟩
    · have faulted : (s.stream i).Stands
          { s.stream i with
            counters := { (s.stream i).counters with
              timelineRejects := (s.stream i).counters.timelineRejects + 1
              pairMismatches := (s.stream i).counters.pairMismatches + 1 }
            windowMismatches := (s.stream i).windowMismatches + 1, pair := .pairFault } :=
        ⟨rfl, .refl _, fun hx => { hx with
          closed := fun e => absurd e ho
          flowB := iff_of_true (hx.flowB.mpr notSingle) (by decide : PairState.pairFault ≠ .single)
          mismatches := ⟨by dsimp only; omega, fun e => by cases e⟩ }⟩
      exact (setStream_ok h faulted).of_eq rfl rfl rfl
  · exact setStream_ok h (Stream.Continues.stands (.rest (.refl _)) ho)

theorem transit_stands {s : State} {i : Fin 32} (ho : (s.stream i).state ≠ .closed) (sourceTime : Word) :
    s.Stands (s.transit i sourceTime) := .setStream (Stream.Continues.stands (.rest (.refl _)) ho)

theorem classifyPacket_stands {s : State} {i : Fin 32} {a : Ingest} (h : (s.stream i).Stands a.x) : s.Stands (s.classifyPacket i a) :=
  State.Stands.trans (.setStream h) (.of_streams rfl)

theorem ingested_stands {s : State} {i : Fin 32} (ho : (s.stream i).state ≠ .closed) (path : PathId) (p : Packet) :
    s.Stands (s.ingested i path p) := by
  have classified := classifyPacket_stands ((ingestOf_continues s i path p).stands ho)
  unfold State.ingested
  split
  · exact classified.trans (transit_stands (mt (classified i).state.closed.mp ho) _)
  · exact classified

theorem ingested_ok {s : State} (h : s.StreamsOk) {i : Fin 32} (ho : (s.stream i).state ≠ .closed) (path : PathId) (p : Packet) :
    (s.ingested i path p).StreamsOk := by
  have groups : (s.ingested i path p).groups = s.groups := by
    unfold State.ingested
    split
    · rfl
    · rfl
  exact h.of_stands (ingested_stands ho path p) (.of_groups groups) (ingested_keeps s i path p).flows

theorem laterPacket_ok {s : State} (h : s.StreamsOk) {i : Fin 32} (hd : (s.stream i).state.drawn = true) (path : PathId) (p : Packet) :
    (s.laterPacket i path p).StreamsOk := by
  have isOpen := ne_closed_of_drawn hd
  have ingested := ingested_ok h isOpen path p
  obtain e | ⟨d, e⟩ | ⟨-, e⟩ | ⟨-, e⟩ := laterPacket_cases s i path p
  · rw [e]; exact ingested
  · rw [e]; exact earlyResync_ok ingested (mt (ingested_stands isOpen path p i).state.closed.mp isOpen) d
  · rw [e]; exact rejectA_ok h hd
  · rw [e]; exact rejectB_ok h isOpen

/-! ## The first packet -/

theorem prime_ok {x : Stream} (h : x.Ok) (ho : x.state ≠ .closed) (p : Packet) (q hbc : Word) : (x.prime p q hbc).Ok where
  closed e := absurd e (by decide : StreamState.primed ≠ .closed)
  channels _ := h.channels ho
  packing _ := h.packing ho
  depth _ := h.depth ho
  payload _ := h.payload ho
  load _ := h.load ho
  ring := h.ring
  flowA _ := h.flowA ho
  flowB := h.flowB
  origin := iff_of_true rfl rfl
  ePlay := iff_of_true rfl rfl
  earlyRun := Nat.zero_le 7
  breaks := Nat.zero_le 3
  mismatches := h.mismatches

theorem anchoredFor_group_self (s : State) (i : Fin 32) (p : Packet) :
    ((s.anchoredFor i p).group (s.stream i).group).anchored = true ∧
    ((s.anchoredFor i p).group (s.stream i).group).members = (s.group (s.stream i).group).members := by
  unfold State.anchoredFor
  split
  next h => exact ⟨h, rfl⟩
  · simp only [State.anchor, setGroup_group_self]
    exact ⟨rfl, rfl⟩

theorem anchoredFor_group_ne (s : State) {i : Fin 32} (p : Packet) {g : Fin 16} (h : g ≠ (s.stream i).group) :
    (s.anchoredFor i p).group g = s.group g := by
  unfold State.anchoredFor
  split
  · rfl
  · exact setGroup_group_ne _ _ h

theorem firstPacket_groups (s : State) (i : Fin 32) (path : PathId) (p : Packet) :
    (s.firstPacket i path p).groups = (s.anchoredFor i p).groups := by
  rw [firstPacket_eq]
  rfl

/-- The record of another stream after a first packet: at most its clock state is emptied, by the anchoring. -/
theorem firstPacket_stream_ne (s : State) {i j : Fin 32} (path : PathId) (p : Packet) (h : j ≠ i) :
    (s.firstPacket i path p).stream j = (s.anchoredFor i p).stream j := by
  simp only [firstPacket_eq, State.classifyPacket, State.primedBy, State.transit]
  exact (setStream_stream_ne _ _ h).trans ((setStream_stream_ne _ _ h).trans (setStream_stream_ne _ _ h))

/-- The record of the stream that a first packet reaches goes on from its priming. -/
theorem firstPacket_stream_self (s : State) (i : Fin 32) (path : PathId) (p : Packet) : ∃ q hbc,
    (((s.anchoredFor i p).stream i).prime p q hbc).Continues ((s.firstPacket i path p).stream i) := by
  refine ⟨((s.anchoredFor i p).group (s.stream i).group).q.getD 0, s.clock.hbc, ?_⟩
  have primed : (((s.anchoredFor i p).stream i).prime p (((s.anchoredFor i p).group (s.stream i).group).q.getD 0)
      s.clock.hbc).Continues ((s.primedBy i p).stream i) := by
    simp only [State.primedBy, State.transit, setStream_stream_self]
    exact .rest (.refl _)
  have ingested : (s.firstPacket i path p).stream i =
      (((s.primedBy i p).stream i).ingest i path (p.offers (p.seq.zeroExtend 32) s.clock.hbc)).x := by
    rw [firstPacket_eq]
    exact setStream_stream_self _ _ _
  rw [ingested]
  exact primed.trans (ingest_continues _ i path _)

theorem firstPacket_ok {s : State} (h : s.StreamsOk) {i : Fin 32} (ho : (s.stream i).state ≠ .closed) (path : PathId) (p : Packet) :
    (s.firstPacket i path p).StreamsOk := by
  have kept := firstPacket_keeps ho path p
  have stands := anchoredFor_stands s i p
  obtain ⟨anchored, members⟩ := anchoredFor_group_self s i p
  obtain ⟨q, hbc, primed⟩ := firstPacket_stream_self s i path p
  have group (g : Fin 16) : (s.firstPacket i path p).group g = (s.anchoredFor i p).group g := by
    simp only [State.group, firstPacket_groups]
  have listed (g : Fin 16) : ((s.firstPacket i path p).group g).members = (s.group g).members := by
    rw [group]
    by_cases e : g = (s.stream i).group
    · rw [e]; exact members
    · rw [anchoredFor_group_ne s p e]
  have holds : ((s.firstPacket i path p).stream i).state.holdsTimeline = true := primed.state.holds.trans rfl
  refine ⟨fun j => ?_, h.membership.of_same listed kept.streams, h.flowTable.of_same kept.flows kept.streams, fun j hj => ?_,
    fun g ha => ?_⟩
  · by_cases e : j = i
    · subst e
      exact primed.ok (prime_ok ((stands j).ok (h.streams j)) (mt (stands j).state.closed.mp ho) p _ _) (by decide :
        StreamState.primed ≠ .closed)
    · rw [firstPacket_stream_ne s path p e]
      exact (stands j).ok (h.streams j)
  · rw [(kept.streams j).group, group]
    by_cases e : (s.stream j).group = (s.stream i).group
    · rw [e]; exact anchored
    · rw [anchoredFor_group_ne s p e]
      have other : j ≠ i := fun e' => e (by rw [e'])
      rw [firstPacket_stream_ne s path p other] at hj
      exact h.anchored j ((stands j).state.drawn hj)
  · rw [listed]
    by_cases e : g = (s.stream i).group
    · subst e
      exact ⟨i, h.membership.mem ho, holds⟩
    · rw [group, anchoredFor_group_ne s p e] at ha
      obtain ⟨j, hj, hh⟩ := h.held g ha
      have other : j ≠ i := by
        rintro rfl
        exact e ((h.membership.listed g j).mp hj).2.symm
      exact ⟨j, hj, by rw [firstPacket_stream_ne s path p other, (stands j).state.holds]; exact hh⟩

theorem ingestStream_ok {s : State} (h : s.StreamsOk) (port : PortId) (i : Fin 32) (path : PathId) (p : Packet) :
    (s.ingestStream port i path p).StreamsOk := by
  obtain e | ⟨ho, c, e⟩ | ⟨hs, e⟩ | ⟨hs, e⟩ := ingestStream_cases s port i path p
  · rw [e]; exact h.of_eq (by simp) (by simp) (by simp)
  · rw [e]; exact setStream_ok h (Stream.Continues.stands (.rest (.refl _)) ho)
  · rw [e]; exact firstPacket_ok h (by rw [hs]; decide) path p
  · rw [e]; exact laterPacket_ok h hs path p

theorem setPort_ok {s : State} (h : s.StreamsOk) (p : PortId) (x : Port) : (s.setPort p x).StreamsOk :=
  h.of_eq (by simp) (by simp) (by simp)

theorem arrival_ok {s : State} (h : s.StreamsOk) (port : PortId) (d : List Byte) : (s.arrival port d).StreamsOk := by
  unfold State.arrival
  dsimp only
  split
  · have counted := setPort_ok h port { s.port port with received := (s.port port).received + 1 }
    obtain ⟨x, -, e⟩ | ⟨i, path, p, e⟩ := ingestDatagram_cases
      (s.setPort port { s.port port with received := (s.port port).received + 1 }) port d
    · rw [e]; exact setPort_ok counted port x
    · rw [e]; exact ingestStream_ok counted port i path p
  · exact h

/-! ## The boundary -/

/-- A boundary keeps who is a member of a group, and that it is ANCHORED. -/
theorem afterBoundary_same (g : Group) (mins : List (Fin 32 × Option Word)) :
    (g.afterBoundary mins).members = g.members ∧ (g.afterBoundary mins).anchored = g.anchored := by
  have decided : g.slipDecision.1.members = g.members ∧ g.slipDecision.1.anchored = g.anchored := by
    unfold Group.slipDecision
    split
    · exact ⟨rfl, rfl⟩
    · split <;> exact ⟨rfl, rfl⟩
    · split <;> exact ⟨rfl, rfl⟩
  have slipped (x : Group) (v : Slip) : (x.applySlip v).members = x.members ∧ (x.applySlip v).anchored = x.anchored := by
    cases v <;> exact ⟨rfl, rfl⟩
  have staged : g.afterStage4.members = g.members ∧ g.afterStage4.anchored = g.anchored := by
    unfold Group.afterStage4
    rw [(slipped _ _).1, (slipped _ _).2]
    split
    · exact decided
    · exact decided
  unfold Group.afterBoundary
  split
  · exact staged
  · split
    · exact staged
    · exact staged

theorem boundary_sameGroups (s : State) (inp : BoundaryInput) : s.SameGroups (s.boundary inp) := by
  have same (g : Fin 16) : ((s.boundary inp).group g).members = (s.group g).members ∧
      ((s.boundary inp).group g).anchored = (s.group g).anchored := by
    by_cases ha : (s.group g).anchored = true
    · obtain ⟨mins, e⟩ := boundary_group_anchored s inp g ha
      rw [e]
      exact afterBoundary_same _ _
    · rw [boundary_group_unanchored s inp g (by simpa using ha)]
      exact ⟨rfl, rfl⟩
  exact ⟨fun g => (same g).1, fun g => (same g).2⟩

/-! ## The Flow Table -/

/-- An entry holds a flow exactly when it is bound to it. -/
theorem holds_iff (e : FlowEntry) (f : Flow) : e.holds f = true ↔ e = .bind f := by
  obtain ⟨bound, port, flowId⟩ := e
  simp [FlowEntry.holds, FlowEntry.bind, and_assoc]

/-- A flow is held exactly when some entry is bound to it (R27, check 6). -/
theorem flowHeld_iff (s : State) (f : Flow) : s.flowHeld f = true ↔ ∃ j, s.flows.get j = .bind f := by
  simp only [State.flowHeld, List.any_eq_true, holds_iff]
  constructor
  · rintro ⟨e, he, rfl⟩
    obtain ⟨k, hk, e⟩ := List.getElem_of_mem he
    exact ⟨⟨k, by simpa using hk⟩, by simpa [Vector.get] using e⟩
  · rintro ⟨j, hj⟩
    exact ⟨_, by rw [← hj]; simp [Vector.get], rfl⟩

/-- No two entries are bound to one flow. -/
def FlowsDistinct (fs : Vector FlowEntry 64) : Prop := ∀ f j k, fs.get j = .bind f → fs.get k = .bind f → j = k

theorem flowsDistinct_iff (fs : Vector FlowEntry 64) : FlowsDistinct fs ↔
    ∀ j k, (fs.get j).bound = true → (fs.get k).bound = true → (fs.get j).port = (fs.get k).port →
      (fs.get j).flowId = (fs.get k).flowId → j = k := by
  constructor
  · intro h j k hj hk hp hf
    refine h ⟨(fs.get j).port, (fs.get j).flowId⟩ j k ?_ ?_
    · rw [FlowEntry.bind, ← hj]
    · rw [FlowEntry.bind, hp, hf, ← hk]
  · intro h f j k hj hk
    refine h j k ?_ ?_ ?_ ?_ <;> simp only [hj, hk, FlowEntry.bind]

/-- Binding an entry to a flow that no entry holds keeps the bound flows apart. -/
theorem FlowsDistinct.bind {fs : Vector FlowEntry 64} (h : FlowsDistinct fs) (n : Fin 64) {f : Flow}
    (hf : ∀ j, fs.get j ≠ .bind f) : FlowsDistinct (vset fs n (.bind f)) := by
  have other {f' : Flow} {j : Fin 64} (hj : (vset fs n (.bind f)).get j = .bind f') (e : j ≠ n) : fs.get j = .bind f' := by
    rwa [vset_get_ne _ _ e] at hj
  have bound {f' : Flow} (hn : (vset fs n (.bind f)).get n = .bind f') : FlowEntry.bind f' = .bind f := by
    rw [vset_get_self] at hn
    exact hn.symm
  intro f' j k hj hk
  by_cases ej : j = n <;> by_cases ek : k = n
  · rw [ej, ek]
  · exact absurd ((other hk ek).trans (bound (ej ▸ hj))) (hf k)
  · exact absurd ((other hj ej).trans (bound (ek ▸ hk))) (hf j)
  · exact h f' j k (other hj ej) (other hk ek)

/-- Unbinding an entry keeps the bound flows apart. -/
theorem FlowsDistinct.unbind {fs : Vector FlowEntry 64} (h : FlowsDistinct fs) (n : Fin 64) (e : FlowEntry) :
    FlowsDistinct (vset fs n e.unbind) := by
  have other {f : Flow} {j : Fin 64} (hj : (vset fs n e.unbind).get j = .bind f) : fs.get j = .bind f := by
    by_cases ej : j = n
    · rw [ej, vset_get_self] at hj
      exact absurd (congrArg FlowEntry.bound hj) (by simp [FlowEntry.unbind, FlowEntry.bind])
    · rwa [vset_get_ne _ _ ej] at hj
  exact fun f j k hj hk => h f j k (other hj) (other hk)

theorem entryA_ne_entryB (i j : Fin 32) : entryA i ≠ entryB j := by
  simp [entryA, entryB]
  omega

theorem entryA_inj {i j : Fin 32} : entryA i = entryA j ↔ i = j := by
  simp [entryA, Fin.ext_iff]

theorem entryB_inj {i j : Fin 32} : entryB i = entryB j ↔ i = j := by
  simp [entryB, Fin.ext_iff]

theorem bindFlows_entryA (fs : Vector FlowEntry 64) (i : Fin 32) (a : Flow) (b : Option Flow) :
    (bindFlows fs i a b).get (entryA i) = .bind a := by
  unfold bindFlows
  split
  · rw [vset_get_ne _ _ (entryA_ne_entryB i i), vset_get_self]
  · rw [vset_get_self]

theorem bindFlows_entryB (fs : Vector FlowEntry 64) (i : Fin 32) (a : Flow) (b : Option Flow) :
    (bindFlows fs i a b).get (entryB i) = b.elim (fs.get (entryB i)) .bind := by
  cases b with
  | some f => exact vset_get_self _ _ _
  | none => exact vset_get_ne _ _ (entryA_ne_entryB i i).symm

theorem bindFlows_ne (fs : Vector FlowEntry 64) {i : Fin 32} (a : Flow) (b : Option Flow) {j : Fin 64} (hA : j ≠ entryA i)
    (hB : j ≠ entryB i) : (bindFlows fs i a b).get j = fs.get j := by
  unfold bindFlows
  split
  · rw [vset_get_ne _ _ hB, vset_get_ne _ _ hA]
  · rw [vset_get_ne _ _ hA]

/-- Check 6 of STREAM_OPEN: neither flow is held, and they are not one flow (R27). -/
theorem flowsFree_iff (s : State) (a : Flow) (b : Option Flow) :
    (s.flowHeld a || b.any s.flowHeld || b == some a) = false ↔
      (∀ j, s.flows.get j ≠ .bind a) ∧ ∀ f, b = some f → (∀ j, s.flows.get j ≠ .bind f) ∧ f ≠ a := by
  have free (f : Flow) : s.flowHeld f = false ↔ ∀ j, s.flows.get j ≠ .bind f := by
    rw [← Bool.not_eq_true, flowHeld_iff, not_exists]
  cases b with
  | none => simp [free]
  | some f => simp [free, and_assoc]

/-- The bound flows stay apart when flows that are free are bound to a stream (R16, R28). -/
theorem bindFlows_distinct {s : State} (h : FlowsDistinct s.flows) (i : Fin 32) {a : Flow} {b : Option Flow}
    (hf : (s.flowHeld a || b.any s.flowHeld || b == some a) = false) : FlowsDistinct (bindFlows s.flows i a b) := by
  obtain ⟨ha, hb⟩ := (flowsFree_iff s a b).mp hf
  have boundA := h.bind (entryA i) ha
  cases b with
  | none => exact boundA
  | some f =>
    obtain ⟨free, ne⟩ := hb f rfl
    refine boundA.bind (entryB i) fun j => ?_
    by_cases e : j = entryA i
    · rw [e, vset_get_self]
      intro hbind
      obtain ⟨portA, idA⟩ := a
      obtain ⟨portB, idB⟩ := f
      simp only [FlowEntry.bind, FlowEntry.mk.injEq, true_and] at hbind
      exact ne (by rw [hbind.1, hbind.2])
    · rw [vset_get_ne _ _ e]
      exact free j

end Sys2Proof.Machine
end

section
/-! SUPPORT. The admission and the close of a stream in the invariant of streams and groups (R16, R28, R34, R47), resets, and O59. -/

namespace Sys2Proof.Machine

/-! ## STREAM_OPEN -/

/-- The fields of a STREAM_OPEN that was not refused as BAD_VALUE are in range (R26). -/
theorem openFields_ranges {body : List Byte} {o : OpenFields} (h : openFields body = some o) :
    (1 ≤ o.channels ∧ o.channels ≤ 8) ∧ (o.packing = 1 ∨ o.packing = 2 ∨ o.packing = 4) ∧ o.depth ∈ [16, 32, 64, 128, 256] := by
  unfold openFields at h
  split at h
  · dsimp only at h
    split at h
    next hr =>
      cases h
      simp only [Bool.and_eq_true, decide_eq_true_eq, List.contains_eq_mem, List.mem_cons, List.not_mem_nil, or_false] at hr ⊢
      obtain ⟨⟨⟨⟨⟨⟨⟨⟨h1, h2⟩, hk⟩, hd⟩, -⟩, -⟩, -⟩, -⟩, -⟩ := hr
      exact ⟨⟨h1, h2⟩, hk, hd⟩
    · cases h
  · cases h

/-- The record that an admitted STREAM_OPEN leaves is in order. -/
theorem record_ok {body : List Byte} {o : OpenFields} (h : openFields body = some o)
    (hp : payloadBytes o.packing o.channels o.format ≤ 1440) : o.record.Ok := by
  obtain ⟨channels, packing, depth⟩ := openFields_ranges h
  constructor
  case closed => exact fun e => absurd e (by decide : StreamState.ready ≠ .closed)
  case channels => exact fun _ => channels
  case packing => exact fun _ => packing
  case depth => exact fun _ => depth
  case payload => exact fun _ => hp
  case load => exact fun _ => rfl
  case ring => exact List.length_replicate
  case flowA => exact fun _ => rfl
  case flowB => cases hb : o.flowB <;> simp [OpenFields.record, hb]
  case origin => exact iff_of_false (by simp [OpenFields.record, Stream.closed]) (by simp [OpenFields.record, StreamState.holdsTimeline])
  case ePlay => exact iff_of_false (by simp [OpenFields.record, Stream.closed]) (by simp [OpenFields.record, StreamState.holdsTimeline])
  case earlyRun => exact Nat.zero_le 7
  case breaks => exact Nat.zero_le 3
  case mismatches => exact ⟨Nat.zero_le 4, fun _ => Nat.zero_le 3⟩

@[simp] theorem openStream_group_self (s : State) (i : Fin 32) (o : OpenFields) : (s.openStream i o).group o.group =
    { s.group o.group with members := (s.group o.group).members ++ [i] } := setGroup_group_self _ _ _

theorem openStream_group_ne (s : State) (i : Fin 32) {o : OpenFields} {g : Fin 16} (h : g ≠ o.group) :
    (s.openStream i o).group g = s.group g := setGroup_group_ne _ _ h

/-- A CLOSED stream stands in no list. -/
theorem State.MembershipOk.not_mem {s : State} (h : s.MembershipOk) {i : Fin 32} (hc : (s.stream i).state = .closed) (g : Fin 16) :
    i ∉ (s.group g).members := fun hi => ((h.listed g i).mp hi).1 hc

theorem openStream_membership {s : State} (h : s.MembershipOk) {i : Fin 32} {o : OpenFields} (hc : (s.stream i).state = .closed)
    (hl : (s.group o.group).members.length < 8) : (s.openStream i o).MembershipOk where
  listed g j := by
    by_cases ej : j = i
    · subst ej
      rw [openStream_stream_self]
      by_cases eg : g = o.group
      · rw [eg, openStream_group_self]
        exact iff_of_true (by simp) ⟨(by decide : StreamState.ready ≠ .closed), rfl⟩
      · rw [openStream_group_ne s j eg]
        exact iff_of_false (h.not_mem hc g) fun e => eg e.2.symm
    · rw [openStream_stream_ne s o ej, ← h.listed]
      by_cases eg : g = o.group
      · rw [eg, openStream_group_self]; simp [ej]
      · rw [openStream_group_ne s i eg]
  atMostEight g := by
    by_cases eg : g = o.group
    · rw [eg, openStream_group_self]; simpa using hl
    · rw [openStream_group_ne s i eg]; exact h.atMostEight g
  noRepeat g := by
    by_cases eg : g = o.group
    · rw [eg, openStream_group_self]
      exact List.Nodup.append (h.noRepeat _) (List.nodup_singleton i) (by simpa using h.not_mem hc o.group)
    · rw [openStream_group_ne s i eg]; exact h.noRepeat g

theorem openStream_flowTable {s : State} (h : s.StreamsOk) {i : Fin 32} {o : OpenFields} (hc : (s.stream i).state = .closed)
    (hf : (s.flowHeld o.flowA || o.flowB.any s.flowHeld || o.flowB == some o.flowA) = false) :
    (s.openStream i o).FlowTableOk where
  pathA j := by
    have table : (s.openStream i o).flows = bindFlows s.flows i o.flowA o.flowB := rfl
    rw [table]
    by_cases e : j = i
    · rw [e, openStream_stream_self, bindFlows_entryA]; rfl
    · rw [openStream_stream_ne s o e, bindFlows_ne _ _ _ (mt entryA_inj.mp e) (entryA_ne_entryB j i)]
      exact h.flowTable.pathA j
  pathB j := by
    have table : (s.openStream i o).flows = bindFlows s.flows i o.flowA o.flowB := rfl
    rw [table]
    by_cases e : j = i
    · rw [e, openStream_stream_self, bindFlows_entryB]
      have unbound := h.flowTable.pathB i
      rw [(h.streams i).closed hc] at unbound
      have declared : o.record.flowB = o.flowB := rfl
      rw [declared]
      cases o.flowB with
      | none => exact unbound
      | some f => rfl
    · rw [openStream_stream_ne s o e, bindFlows_ne _ _ _ (entryA_ne_entryB i j).symm (mt entryB_inj.mp e)]
      exact h.flowTable.pathB j
  distinct := (flowsDistinct_iff _).mp (bindFlows_distinct ((flowsDistinct_iff _).mpr h.flowTable.distinct) i hf)

theorem openStream_ok {s : State} (h : s.StreamsOk) {i : Fin 32} {o : OpenFields} {body : List Byte}
    (hc : (s.stream i).state = .closed) (ho : openFields body = some o) (hk : o.checks s = .ok ()) :
    (s.openStream i o).StreamsOk := by
  obtain ⟨hpay, hlen, -, hflow, -⟩ := (checks_ok o s).mp hk
  have anchored (g : Fin 16) : ((s.openStream i o).group g).anchored = (s.group g).anchored := by
    by_cases e : g = o.group
    · rw [e, openStream_group_self]
    · rw [openStream_group_ne s i e]
  refine ⟨fun j => ?_, openStream_membership h.membership hc hlen, openStream_flowTable h hc hflow, fun j hj => ?_, fun g ha => ?_⟩
  · by_cases e : j = i
    · rw [e, openStream_stream_self]; exact record_ok ho hpay
    · rw [openStream_stream_ne s o e]; exact h.streams j
  · by_cases e : j = i
    · rw [e, openStream_stream_self] at hj; cases hj
    · rw [openStream_stream_ne s o e] at hj ⊢
      rw [anchored]
      exact h.anchored j hj
  · rw [anchored] at ha
    obtain ⟨j, hj, hh⟩ := h.held g ha
    have other : j ≠ i := fun e => h.membership.not_mem hc g (e ▸ hj)
    refine ⟨j, ?_, by rw [openStream_stream_ne s o other]; exact hh⟩
    by_cases e : g = o.group
    · rw [e, openStream_group_self]
      exact List.mem_append_left _ (e ▸ hj)
    · rw [openStream_group_ne s i e]; exact hj

/-! ## STREAM_CLOSE -/

/-- The CLOSED condition is in order. -/
theorem closed_ok : Stream.closed.Ok where
  closed _ := rfl
  channels e := absurd rfl e
  packing e := absurd rfl e
  depth e := absurd rfl e
  payload e := absurd rfl e
  load e := absurd rfl e
  ring := rfl
  flowA e := absurd rfl e
  flowB := by decide
  origin := by decide
  ePlay := by decide
  earlyRun := Nat.zero_le 7
  breaks := Nat.zero_le 3
  mismatches := ⟨Nat.zero_le 4, fun _ => Nat.zero_le 3⟩

/-- The list of a group once one of its streams has left it (R47). -/
theorem mem_removeMember (g : Group) (i j : Fin 32) : j ∈ (g.removeMember i).members ↔ j ∈ g.members ∧ j ≠ i := by
  simp [Group.removeMember]

/-- A stream is closed and leaves its group's list: the group is then to be looked at. -/
theorem removed_timelines {s : State} (h : s.TimelinesOk fun _ => True) (i : Fin 32) :
    ((s.setStream i .closed).setGroup (s.stream i).group ((s.group (s.stream i).group).removeMember i)).TimelinesOk
      (· ≠ (s.stream i).group) := by
  generalize hg : (s.stream i).group = g
  have stream (j : Fin 32) : ((s.setStream i .closed).setGroup g ((s.group g).removeMember i)).stream j =
      if j = i then .closed else s.stream j := by
    rw [setGroup_stream]
    split
    next e => rw [e, setStream_stream_self]
    next e => rw [setStream_stream_ne _ _ e]
  have self : ((s.setStream i .closed).setGroup g ((s.group g).removeMember i)).group g = (s.group g).removeMember i :=
    setGroup_group_self _ _ _
  have ne {k : Fin 16} (e : k ≠ g) : ((s.setStream i .closed).setGroup g ((s.group g).removeMember i)).group k = s.group k :=
    setGroup_group_ne _ _ e
  have notListed {k : Fin 16} (e : k ≠ g) : i ∉ (s.group k).members := fun hi =>
    e (((h.membership.listed k i).mp hi).2.symm.trans hg)
  refine ⟨fun j => ?_, ⟨fun k j => ?_, fun k => ?_, fun k => ?_⟩, fun j hj => ?_, fun k hk ha => ?_⟩
  · rw [stream]
    split
    · exact closed_ok
    · exact h.streams j
  · rw [stream]
    by_cases ek : k = g
    · rw [ek, self, mem_removeMember, h.membership.listed]
      split
      next e => exact iff_of_false (fun hj => hj.2 e) fun hj => hj.1 rfl
      next e => exact and_iff_left e
    · rw [ne ek]
      split
      next e => exact iff_of_false (e ▸ notListed ek) fun hj => hj.1 rfl
      · exact h.membership.listed k j
  · by_cases ek : k = g
    · rw [ek, self]
      exact (List.length_filter_le _ _).trans (h.membership.atMostEight g)
    · rw [ne ek]; exact h.membership.atMostEight k
  · by_cases ek : k = g
    · rw [ek, self]
      exact (h.membership.noRepeat g).filter _
    · rw [ne ek]; exact h.membership.noRepeat k
  · rw [stream] at hj ⊢
    split at hj
    · cases hj
    next e =>
      rw [if_neg e]
      by_cases ek : (s.stream j).group = g
      · rw [ek, self]
        exact ek ▸ h.anchored j hj
      · rw [ne ek]; exact h.anchored j hj
  · rw [ne hk] at ha ⊢
    obtain ⟨j, hj, hh⟩ := h.held k trivial ha
    have other : j ≠ i := fun e => notListed hk (e ▸ hj)
    exact ⟨j, hj, by rw [stream, if_neg other]; exact hh⟩

theorem settleEmpty_same (g : Group) : g.settleEmpty.members = g.members ∧ g.settleEmpty.anchored = g.anchored := by
  unfold Group.settleEmpty
  split
  · exact ⟨rfl, rfl⟩
  · exact ⟨rfl, rfl⟩

theorem closeStream_groups (s : State) (i : Fin 32) : (s.departed i).SameGroups (s.closeStream i) := by
  obtain ⟨members, anchored⟩ := settleEmpty_same ((s.departed i).group (s.stream i).group)
  have settled := State.SameGroups.setGroup (g := (s.stream i).group) members anchored
  exact ⟨settled.members, settled.anchored⟩

/-- The Flow Table that a STREAM_CLOSE leaves: its stream's entries unbound (R16, R34). -/
theorem closeStream_flows (s : State) (i : Fin 32) : (s.closeStream i).flows =
    vset (vset s.flows (entryA i) (s.flows.get (entryA i)).unbind) (entryB i) (s.flows.get (entryB i)).unbind := rfl

theorem closeStream_entryA_ne (s : State) {i j : Fin 32} (h : j ≠ i) :
    (s.closeStream i).flows.get (entryA j) = s.flows.get (entryA j) := by
  rw [closeStream_flows, vset_get_ne _ _ (entryA_ne_entryB j i), vset_get_ne _ _ (mt entryA_inj.mp h)]

theorem closeStream_entryB_ne (s : State) {i j : Fin 32} (h : j ≠ i) :
    (s.closeStream i).flows.get (entryB j) = s.flows.get (entryB j) := by
  rw [closeStream_flows, vset_get_ne _ _ (mt entryB_inj.mp h), vset_get_ne _ _ (entryA_ne_entryB i j).symm]

theorem closeStream_entries_self (s : State) (i : Fin 32) : ((s.closeStream i).flows.get (entryA i)).bound = false ∧
    ((s.closeStream i).flows.get (entryB i)).bound = false := by
  rw [closeStream_flows]
  constructor
  · rw [vset_get_ne _ _ (entryA_ne_entryB i i), vset_get_self]; rfl
  · rw [vset_get_self]; rfl

theorem closeStream_ok {s : State} (h : s.StreamsOk) (i : Fin 32) : (s.closeStream i).StreamsOk := by
  have timelines : (s.closeStream i).TimelinesOk fun _ => True :=
    (unanchorIfLeft_timelines (removed_timelines h.timelines i)).of_stands (.of_streams rfl) (closeStream_groups s i)
  have closed : (s.closeStream i).stream i = .closed := (timelines.streams i).closed (closeStream_state_self s i)
  obtain ⟨unboundA, unboundB⟩ := closeStream_entries_self s i
  refine timelines.streamsOk ⟨fun j => ?_, fun j => ?_, ?_⟩
  · by_cases e : j = i
    · rw [e, closed]; exact unboundA
    · rw [closeStream_entryA_ne s e, (closeStream_stream_ne s e).sameAdmission.flowA]
      exact h.flowTable.pathA j
  · by_cases e : j = i
    · rw [e, closed]; exact unboundB
    · rw [closeStream_entryB_ne s e, (closeStream_stream_ne s e).sameAdmission.flowB]
      exact h.flowTable.pathB j
  · have distinct : FlowsDistinct s.flows := (flowsDistinct_iff _).mpr h.flowTable.distinct
    exact (flowsDistinct_iff _).mp ((distinct.unbind (entryA i) _).unbind (entryB i) _)

/-! ## Requests of one stream -/

theorem started_stands {x : Stream} (h : x.state = .ready) : x.Stands { x with state := .acquiring } := by
  have leads : x.state.LeadsTo .acquiring := by
    rw [h]
    exact ⟨by decide, rfl, by decide⟩
  exact Stream.Continues.stands (.rest leads) (by rw [h]; decide)

theorem repaired_stands {x : Stream} (ho : x.state ≠ .closed) (hp : x.pair ≠ .single) :
    x.Stands { x with pair := .paired, windowMismatches := 0 } where
  admission := rfl
  state := .refl _
  ok hx := { hx with
    closed := fun e => absurd e ho
    flowB := iff_of_true (hx.flowB.mpr hp) (by decide : PairState.paired ≠ .single)
    mismatches := ⟨Nat.zero_le 4, fun _ => Nat.zero_le 3⟩ }

theorem tested_stands (x : Stream) : x.Stands { x with checker := { x.checker with errors := 0, gaps := 0, checked := 0 } } :=
  Stream.Continues.stands_of_closed (.rest (.refl _)) fun e => by subst e; rfl

/-! ## Resets -/

/-- What every reset leaves is in order: every stream is CLOSED and every group empty. -/
theorem MediaReset.streamsOk {t : State} (h : t.MediaReset) : t.StreamsOk := by
  have stream (i : Fin 32) : t.stream i = .closed := by rw [State.stream, h.streams, replicate_get]
  have group (g : Fin 16) : t.group g = .reset := by rw [State.group, h.groups, replicate_get]
  have flow (j : Fin 64) : t.flows.get j = .unbound := by rw [h.flows, replicate_get]
  refine ⟨fun i => ?_, ⟨fun g i => ?_, fun g => ?_, fun g => ?_⟩, ⟨fun i => ?_, fun i => ?_, fun j k hj => ?_⟩, fun i hi => ?_,
    fun g hg => ?_⟩
  · rw [stream]; exact closed_ok
  · rw [stream, group]
    exact iff_of_false (List.not_mem_nil) fun e => e.1 rfl
  · rw [group]; exact Nat.zero_le 8
  · rw [group]; exact List.nodup_nil
  · rw [stream, flow]; rfl
  · rw [stream, flow]; rfl
  · rw [flow] at hj; cases hj
  · rw [stream] at hi; cases hi
  · rw [group] at hg; cases hg

/-! ## Every step -/

/-- Every change of the media side keeps the streams with their groups, flows and timelines. -/
theorem MediaChange.streamsOk {s t : State} (c : s.MediaChange t) (h : s.StreamsOk) : t.StreamsOk := by
  cases c with
  | stands => exact h
  | reset hr => exact MediaReset.streamsOk hr
  | boundary inp => exact h.of_stands (boundary_stands s inp) (boundary_sameGroups s inp) (boundary_keeps s inp).flows
  | arrival p n d => exact arrival_ok (h.of_eq (by simp) (by simp) (by simp)) p d
  | port p x _ => exact setPort_ok h p x
  | budget p _ _ _ _ => exact setPort_ok h p _
  | opened i o body hc ho hk => exact openStream_ok h hc ho hk
  | started i hr => exact setStream_ok h (started_stands hr)
  | stopped i ho => exact stopStream_ok h ho
  | closed i _ => exact closeStream_ok h i
  | repaired i ho hp => exact setStream_ok h (repaired_stands ho hp)
  | tested i => exact setStream_ok h (tested_stands _)
  | group g x hm ha => exact h.of_stands (.of_streams rfl) (.setGroup hm ha) rfl
  | feed r y _ => exact h.of_eq rfl rfl rfl
  | feedMoved r y old new load _ _ _ => exact h.of_eq rfl rfl rfl

/-- Settles O59, by the ways in which a step moves the media side. -/
theorem streamsKeepTheirShape : Obligations.StreamsKeepTheirShape := by
  intro s t h hstep
  obtain ⟨u, hu, v, hv, ht⟩ := step_media hstep
  exact (MediaChange.streamsOk hv (h.of_eq hu.streams hu.groups hu.flows)).of_eq ht.streams ht.groups ht.flows

end Sys2Proof.Machine
end

section
/-! SUPPORT. The media ports (R7 to R15) and the resets (R15, R182, R183): the port requests as they are served, and O3, O4, O19, O20
and O21. -/

namespace Sys2Proof.Machine

/-! ## Port events -/

/-- Settles O19, by the state of the port. -/
theorem carrierAndWarmUpMoveThePort : Obligations.CarrierAndWarmUpMoveThePort := by
  intro s p
  simp only [exec, execCarrierArrival, State.carrierArrival, execCarrierLoss, State.carrierLoss, execWarmUpExpiry,
    State.warmUpExpiry]
  cases (s.port p).state with
  | off => exact ⟨rfl, rfl, rfl⟩
  | warming => exact ⟨rfl, rfl, rfl⟩
  | down => exact ⟨rfl, rfl, rfl⟩
  | up => exact ⟨rfl, rfl, rfl⟩

/-! ## Checks of a request -/

@[simp] theorem require_true_bind {β : Type} (st : Status) (k : Unit → Except Status β) : (require true st >>= k) = k () := rfl

@[simp] theorem require_false_bind {β : Type} (st : Status) (k : Unit → Except Status β) : (require false st >>= k) = .error st := rfl

@[simp] theorem portOf_portNumber (p : PortId) : portOf (portNumber p) = p := by cases p <;> rfl

@[simp] theorem portNumber_ok (p : PortId) : decide (portNumber p ≤ 1) = true := by cases p <;> rfl

theorem word_eq_zero_iff (i : Word) : i = 0 ↔ i.toNat = 0 := by rw [← BitVec.toNat_inj]; rfl

/-- The port byte at the front of a request body. -/
theorem field1_port (p : PortId) (rest : List Byte) : field1 (byteOf (portNumber p) :: rest) 0 = portNumber p := by
  cases p <;> rfl

@[simp] theorem field1_cons (b : Byte) (rest : List Byte) : field1 (b :: rest) 0 = b.toNat := rfl

/-! ## The port requests as they are served -/

theorem Port.enable_off {x : Port} (h : x.state = .off) (hs : Word) : x.enable hs = { x with state := .warming, warmUpStart := hs } := by
  simp only [Port.enable, h]

/-- A port that is not in OFF is left as it is by a PORT_ENABLE (R7). -/
theorem Port.enable_of_ne {x : Port} (h : x.state ≠ .off) (hs : Word) : x.enable hs = x := by
  unfold Port.enable
  split
  next e => exact absurd e h
  · rfl
  · rfl
  · rfl

@[simp] theorem setPort_port (s : State) (p : PortId) : s.setPort p (s.port p) = s := by cases p <;> rfl

/-- The first check of every port request: the port byte is 0 or 1. -/
theorem portByte_bad {b : Byte} (h : 1 < b.toNat) (rest : List Byte) : decide (field1 (b :: rest) 0 ≤ 1) = false :=
  decide_eq_false (by rw [field1_cons]; omega)

theorem servePortEnable_good (s : State) (p : PortId) : servePortEnable s [byteOf (portNumber p)] =
    .ok (s.setPort p ((s.port p).enable s.hs), [((s.port p).enable s.hs).state.code]) := by
  simp only [servePortEnable, field1_port, portNumber_ok, require_true_bind, portOf_portNumber]
  rfl

theorem servePortEnable_bad (s : State) {b : Byte} (h : 1 < b.toNat) : servePortEnable s [b] = .error .badValue := by
  simp only [servePortEnable, portByte_bad h, require_false_bind]

theorem servePortDisable_good (s : State) (p : PortId) : servePortDisable s [byteOf (portNumber p)] =
    .ok (s.setPort p { s.port p with state := .off }, [0]) := by
  simp only [servePortDisable, field1_port, portNumber_ok, require_true_bind, portOf_portNumber]
  rfl

theorem servePortDisable_bad (s : State) {b : Byte} (h : 1 < b.toNat) : servePortDisable s [b] = .error .badValue := by
  simp only [servePortDisable, portByte_bad h, require_false_bind]

/-- The body of a PORT_BUDGET: its port byte and its two budgets (R13). -/
theorem budgetBody_fields (b : Byte) (i t : Word) : field4 ([b] ++ beWord i ++ beWord t) 1 = i.toNat ∧
    field4 ([b] ++ beWord i ++ beWord t) 5 = t.toNat := by
  constructor
  · exact field4_append [b] (beWord t) i.isLt
  · have e := field4_append ([b] ++ beWord i) [] t.isLt
    rwa [List.append_nil] at e

theorem budgetInRange_iff (i : Word) : budgetInRange i.toNat = true ↔ ¬(i ≠ 0 ∧ (i.toNat < 1000 ∨ 950000 < i.toNat)) := by
  simp only [budgetInRange, Bool.or_eq_true, beq_iff_eq, Bool.and_eq_true, decide_eq_true_eq, ne_eq, word_eq_zero_iff]
  omega

theorem budgetFits_iff (i : Word) (load : Nat) : (i.toNat == 0 || decide (load ≤ i.toNat)) = true ↔ ¬(i ≠ 0 ∧ i.toNat < load) := by
  simp only [Bool.or_eq_true, beq_iff_eq, decide_eq_true_eq, ne_eq, word_eq_zero_iff]
  omega

theorem newBudget_word (old : Nat) (i : Word) : newBudget old i.toNat = if i = 0 then old else i.toNat := by
  simp only [newBudget, word_eq_zero_iff]

theorem servePortBudget_badPort (s : State) {b : Byte} (h : 1 < b.toNat) (i t : Word) :
    servePortBudget s ([b] ++ beWord i ++ beWord t) = .error .badValue := by
  have bad : decide (field1 ([b] ++ beWord i ++ beWord t) 0 ≤ 1) = false := portByte_bad h _
  simp only [servePortBudget, bad, Bool.false_and, require_false_bind]

/-- PORT_BUDGET at a port in range: its two checks in order, and the budgets that it sets (R13). -/
theorem servePortBudget_good (s : State) (p : PortId) (i t : Word) :
    servePortBudget s ([byteOf (portNumber p)] ++ beWord i ++ beWord t) =
      if (i ≠ 0 ∧ (i.toNat < 1000 ∨ 950000 < i.toNat)) ∨ (t ≠ 0 ∧ (t.toNat < 1000 ∨ 950000 < t.toNat)) then .error .badValue
      else if (i ≠ 0 ∧ i.toNat < (s.port p).ingestLoad) ∨ (t ≠ 0 ∧ t.toNat < (s.port p).transmitLoad) then .error .noBandwidth
      else
        let y : Port := { s.port p with
          ingestBudget := if i = 0 then (s.port p).ingestBudget else i.toNat
          transmitBudget := if t = 0 then (s.port p).transmitBudget else t.toNat }
        .ok (s.setPort p y, be32 y.ingestBudget ++ be32 y.transmitBudget) := by
  have port : field1 ([byteOf (portNumber p)] ++ beWord i ++ beWord t) 0 = portNumber p := field1_port p _
  obtain ⟨hi, ht⟩ := budgetBody_fields (byteOf (portNumber p)) i t
  simp only [servePortBudget, port, portNumber_ok, hi, ht, portOf_portNumber, Bool.true_and]
  split
  next bad =>
    have refused : (budgetInRange i.toNat && budgetInRange t.toNat) = false := by
      rw [← Bool.not_eq_true, Bool.and_eq_true, budgetInRange_iff, budgetInRange_iff]
      tauto
    rw [refused, require_false_bind]
  next inRange =>
    have passed : (budgetInRange i.toNat && budgetInRange t.toNat) = true := by
      rw [Bool.and_eq_true, budgetInRange_iff, budgetInRange_iff]
      tauto
    rw [passed, require_true_bind]
    split
    next bad =>
      have refused : ((i.toNat == 0 || decide ((s.port p).ingestLoad ≤ i.toNat)) &&
          (t.toNat == 0 || decide ((s.port p).transmitLoad ≤ t.toNat))) = false := by
        rw [← Bool.not_eq_true, Bool.and_eq_true, budgetFits_iff, budgetFits_iff]
        tauto
      rw [refused, require_false_bind]
    next fits =>
      have passed : ((i.toNat == 0 || decide ((s.port p).ingestLoad ≤ i.toNat)) &&
          (t.toNat == 0 || decide ((s.port p).transmitLoad ≤ t.toNat))) = true := by
        rw [Bool.and_eq_true, budgetFits_iff, budgetFits_iff]
        tauto
      rw [passed, require_true_bind, newBudget_word, newBudget_word]
      rfl

/-- Settles O20: each request is served by its lemma above. -/
theorem portEnableDisableAndBudget : Obligations.PortEnableDisableAndBudget := by
  refine ⟨fun s n p b => ⟨fun h => ⟨_, rfl, ?_⟩, fun h => ?_, fun hb => ⟨fun h => ?_, fun h => ?_⟩⟩,
    fun s p i t b => ⟨fun h => ?_, fun h hb => ?_⟩⟩
  · simp only [exec, execPortEnable, take_of_Next _ h rfl, servePortEnable_good]
    split
    next hs => simp only [Port.enable_off hs, State.conclude]; rfl
    next hs =>
      simp only [Port.enable_of_ne hs, setPort_port, State.conclude]
      cases hc : ((s.atSample n).port p).state with
      | off => exact absurd hc hs
      | warming => rfl
      | down => rfl
      | up => rfl
  · simp only [exec, execPortDisable, take_of_Next _ h rfl, servePortDisable_good]
    rfl
  · simp only [exec, execPortEnable, take_of_Next _ h rfl, servePortEnable_bad _ hb]
    rfl
  · simp only [exec, execPortDisable, take_of_Next _ h rfl, servePortDisable_bad _ hb]
    rfl
  · simp only [exec, execPortBudget, take_of_Next _ h rfl, servePortBudget_good]
    split
    · rfl
    · split
      · rfl
      · rfl
  · simp only [exec, execPortBudget, take_of_Next _ h rfl, servePortBudget_badPort _ hb]
    rfl

/-! ## PORT_QUERY -/

theorem remainingWarmUp_eq (x : Port) (hs : Word) :
    x.remainingWarmUp hs = if x.state = .warming then max 1 ((960 - (hs - x.warmUpStart).toNat + 47) / 48) else 0 := by
  unfold Port.remainingWarmUp
  cases x.state <;> rfl

theorem servePortQuery_good (s : State) (p : PortId) {clear : Byte} (h : clear.toNat ≤ 1) :
    servePortQuery s [byteOf (portNumber p), clear] =
      .ok (if clear = 1 then s.setPort p (s.port p).clearCounters else s, (s.port p).report s.hs) := by
  have port : field1 [byteOf (portNumber p), clear] 0 = portNumber p := field1_port p _
  have flag : field1 [byteOf (portNumber p), clear] 1 = clear.toNat := rfl
  have one : clear.toNat = 1 ↔ clear = 1 := by rw [← BitVec.toNat_inj]; rfl
  simp only [servePortQuery, port, flag, one, portNumber_ok, decide_eq_true h, Bool.and_self, require_true_bind,
    portOf_portNumber]
  rfl

theorem servePortQuery_bad (s : State) {b clear : Byte} (h : 1 < b.toNat ∨ 1 < clear.toNat) :
    servePortQuery s [b, clear] = .error .badValue := by
  have refused : (decide (field1 [b, clear] 0 ≤ 1) && decide (field1 [b, clear] 1 ≤ 1)) = false := by
    have flag : field1 [b, clear] 1 = clear.toNat := rfl
    rw [field1_cons, flag, ← Bool.not_eq_true, Bool.and_eq_true, decide_eq_true_eq, decide_eq_true_eq]
    omega
  simp only [servePortQuery, refused, require_false_bind]

/-- Settles O21, by the reply's items in their order. -/
theorem portQueryReportsAndClears : Obligations.PortQueryReportsAndClears := by
  refine fun s n p clear => ⟨fun h hc => ⟨_, rfl, ?_⟩, fun b h hb => ?_⟩
  · simp only [exec, execPortQuery, take_of_Next _ h rfl, servePortQuery_good _ p hc, State.conclude, Port.report,
      remainingWarmUp_eq, List.cons_append, List.nil_append]
    congr 3
  · simp only [exec, execPortQuery, take_of_Next _ h rfl, servePortQuery_bad _ hb]
    rfl

/-! ## Resets -/

/-- The enables after any reset: every kind for the queue, and the six URGENT kinds for ALERT_N (R187). -/
theorem reset_enables : (∀ j, j < 22 → NoticeQueue.reset.queueEnable.getLsbD j = true) ∧
    ∀ j, j < 22 → (NoticeQueue.reset.alertEnable.getLsbD j = true ↔ j < 6) := by
  decide

/-- Settles O3, field by field: each file of records is one reset record throughout. -/
theorem resetValues : Obligations.ResetValues := by
  refine ⟨rfl, rfl, rfl, rfl, rfl, fun p => ?_, fun j => ?_, fun i => ?_, rfl, rfl, fun k => ?_, rfl, fun j hj => ?_, fun r => ?_,
    fun k => ?_, rfl, rfl, rfl, rfl, rfl, rfl, rfl, fun k => ?_, fun w => ?_, rfl, rfl, rfl, rfl, rfl, rfl, rfl,
    reset_enables.1, reset_enables.2, rfl⟩
  · cases p with
    | a => exact ⟨rfl, rfl, rfl, rfl, rfl, rfl, rfl, rfl, rfl, rfl⟩
    | b => exact ⟨rfl, rfl, rfl, rfl, rfl, rfl, rfl, rfl, rfl, rfl⟩
  · exact congrArg FlowEntry.bound (replicate_get _ j)
  · exact replicate_get _ i
  · have e : State.reset.mapEntry k = .reset := replicate_get _ k
    rw [e]
    exact ⟨rfl, rfl, rfl, rfl, rfl⟩
  · have channel : (List.replicate 48 (0 : Sample)).getD j 0 ++ 0#8 = (0 : Word) := by
      rw [List.getD_replicate (h := hj)]
      rfl
    simp only [State.tdmFrame, State.reset, OutputUnit.reset, silentOut, List.map_replicate, channel]
  · have e : State.reset.feed r = .reset := replicate_get _ r
    rw [e]
    exact ⟨rfl, rfl, rfl, rfl, rfl, rfl, rfl, rfl, rfl, rfl, rfl, rfl, rfl, rfl, rfl, rfl, rfl, rfl, rfl, rfl, rfl, rfl, rfl⟩
  · exact replicate_get _ k
  · exact replicate_get _ k
  · exact replicate_get _ w

/-- The reset condition is held from the fall of RESETn on, with the counts and enables of a reset (R182, R183). -/
theorem resetFall_held (s : State) : s.resetFall.HeldInReset where
  low := rfl
  time := ⟨rfl, rfl⟩
  reference := ⟨rfl, rfl, rfl⟩
  ports p := by cases p <;> rfl
  flows j := congrArg FlowEntry.bound (replicate_get _ j)
  slots := rfl
  streams i := replicate_get _ i
  groups g := replicate_get _ g
  map := ⟨fun k => replicate_get _ k, rfl⟩
  bus := rfl
  feeds r := replicate_get _ r
  lines k := replicate_get _ k
  inputs := ⟨rfl, rfl⟩
  meters := rfl
  receiver := ⟨rfl, rfl⟩
  requests := ⟨rfl, rfl, rfl, rfl⟩
  notices := ⟨rfl, rfl, rfl⟩
  enables := reset_enables

/-- Settles O4, each of the three resets by its definition. -/
theorem powerOnAndResetnResetThePart : Obligations.PowerOnAndResetnResetThePart := by
  refine ⟨fun s strap ca cb => rfl, fun s => ⟨_, rfl, resetFall_held s, rfl, rfl, rfl, rfl, rfl, fun p => ?_, rfl⟩,
    fun s strap h => ?_, fun s strap h => ?_⟩
  · cases p <;> rfl
  · simp only [exec, execResetnRelease, State.resetRelease, h, if_true]
  · simp only [exec, execResetnRelease, State.resetRelease, h, Bool.false_eq_true, if_false]

end Sys2Proof.Machine
end

section
/-! SUPPORT. The contribution packet (R1 to R6): how a datagram is judged, read and written, where its samples stand; and O22, O23
and O24. -/

namespace Sys2Proof.Machine

/-! ## The fields of the first bytes -/

/-- The packing codes 0, 1 and 2 give K = 1, 2 and 4, and no other code gives one (R1). -/
theorem packingOf_eq_some {n k : Nat} : packingOf n = some k ↔ n < 3 ∧ k = 2 ^ n := by
  match n with
  | 0 => simp [packingOf, eq_comm]
  | 1 => simp [packingOf, eq_comm]
  | 2 => simp [packingOf, eq_comm]
  | n + 3 => simp [packingOf]

theorem packingOf_eq_none {n : Nat} : packingOf n = none ↔ 3 ≤ n := by
  match n with
  | 0 => simp [packingOf]
  | 1 => simp [packingOf]
  | 2 => simp [packingOf]
  | n + 3 => simp [packingOf]

/-- The format codes 0, 1 and 2 give samples of 2, 3 and 4 bytes (R1, R2). -/
theorem formatOf_eq_some {n : Nat} {f : SampleFormat} (h : formatOf n = some f) : n < 3 ∧ f.bytes = n + 2 := by
  match n with
  | 0 => cases h; exact ⟨by decide, rfl⟩
  | 1 => cases h; exact ⟨by decide, rfl⟩
  | 2 => cases h; exact ⟨by decide, rfl⟩
  | n + 3 => simp [formatOf] at h

theorem formatOf_eq_none {n : Nat} : formatOf n = none ↔ 3 ≤ n := by
  match n with
  | 0 => simp [formatOf]
  | 1 => simp [formatOf]
  | 2 => simp [formatOf]
  | n + 3 => simp [formatOf]

@[simp] theorem formatOf_code (f : SampleFormat) : formatOf f.code = some f := by cases f <;> rfl

/-! ## The judgement of a datagram -/

theorem judge_short {d : List Byte} (h : d.length < 16) : judgeDatagram d = .malformed := by
  simp [judgeDatagram, h]

theorem packetCheckOk_iff (d : List Byte) : packetCheckOk d = true ↔ (crc16 (d.take 14 ++ d.drop 16)).toNat = field2 d 14 := by
  simp [packetCheckOk]

/-- A datagram with a header whose check differs (R4). -/
theorem judge_checkFailed {d : List Byte} (hl : 16 ≤ d.length) (h : (crc16 (d.take 14 ++ d.drop 16)).toNat ≠ field2 d 14) :
    judgeDatagram d = .checkFailed := by
  simp [judgeDatagram, Nat.not_lt.mpr hl, mt (packetCheckOk_iff d).mp h]

/-- A datagram with a header whose check matches is judged by its format and length (R5). -/
theorem judge_parsed {d : List Byte} {p : Packet} (hl : 16 ≤ d.length) (hc : (crc16 (d.take 14 ++ d.drop 16)).toNat = field2 d 14)
    (hp : parsePacket d = some p) : judgeDatagram d = .wellFormed p := by
  simp only [judgeDatagram, Nat.not_lt.mpr hl, (packetCheckOk_iff d).mpr hc, hp, if_false, if_true]

theorem judge_unparsed {d : List Byte} (hl : 16 ≤ d.length) (hc : (crc16 (d.take 14 ++ d.drop 16)).toNat = field2 d 14)
    (hp : parsePacket d = none) : judgeDatagram d = .malformed := by
  simp only [judgeDatagram, Nat.not_lt.mpr hl, (packetCheckOk_iff d).mpr hc, hp, if_false, if_true]

/-- The conditions of R5 that reject a datagram with a header. -/
theorem parsePacket_eq_none {d : List Byte} (hl : 16 ≤ d.length) : parsePacket d = none ↔
    (field1 d 0 / 16 ≠ 1 ∨ field1 d 0 / 4 % 4 = 3 ∨ field1 d 0 % 4 = 3 ∨ field1 d 1 / 16 = 0 ∨ 8 < field1 d 1 / 16 ∨
      field1 d 1 % 2 = 1 ∨ field2 d 12 ≠ 2 ^ (field1 d 0 / 4 % 4) * 48 * (field1 d 1 / 16) * (field1 d 0 % 4 + 2) ∨
      1440 < 2 ^ (field1 d 0 / 4 % 4) * 48 * (field1 d 1 / 16) * (field1 d 0 % 4 + 2) ∨ d.length - 16 ≠ field2 d 12) := by
  unfold parsePacket
  dsimp only
  cases hk : packingOf (field1 d 0 / 4 % 4) with
  | none =>
    rw [packingOf_eq_none] at hk
    exact iff_of_true rfl (by omega)
  | some k =>
    obtain ⟨hk3, rfl⟩ := packingOf_eq_some.mp hk
    cases hf : formatOf (field1 d 0 % 4) with
    | none =>
      rw [formatOf_eq_none] at hf
      exact iff_of_true rfl (by omega)
    | some f =>
      obtain ⟨hf3, hbytes⟩ := formatOf_eq_some hf
      simp only [payloadBytes, hbytes, Config.maxPayload]
      generalize 2 ^ (field1 d 0 / 4 % 4) * 48 * (field1 d 1 / 16) * (field1 d 0 % 4 + 2) = size
      split
      next hall =>
        simp only [Bool.and_eq_true, decide_eq_true_eq] at hall
        refine iff_of_false (Option.some_ne_none _) ?_
        omega
      next hall =>
        simp only [Bool.and_eq_true, decide_eq_true_eq] at hall
        refine iff_of_true rfl ?_
        omega

/-- Settles O23, by the length, the check and then the conditions of R5. -/
theorem datagramsAreJudgedByCheckThenFormat : Obligations.DatagramsAreJudgedByCheckThenFormat := by
  intro d
  by_cases hl : d.length < 16
  · rw [judge_short hl]
    exact ⟨iff_of_true rfl (.inl hl), iff_of_false (by decide) fun h => Nat.not_lt.mpr h.1 hl⟩
  have hl' : 16 ≤ d.length := Nat.not_lt.mp hl
  by_cases hc : (crc16 (d.take 14 ++ d.drop 16)).toNat = field2 d 14
  · rw [← parsePacket_eq_none hl']
    cases hp : parsePacket d with
    | none =>
      rw [judge_unparsed hl' hc hp]
      exact ⟨iff_of_true rfl (.inr ⟨hc, rfl⟩), iff_of_false (by decide) fun h => h.2 hc⟩
    | some p =>
      rw [judge_parsed hl' hc hp]
      exact ⟨iff_of_false (by simp) (by simp [hl]), iff_of_false (by simp) fun h => h.2 hc⟩
  · rw [judge_checkFailed hl' hc]
    exact ⟨iff_of_false (by decide) fun h => h.elim hl fun h => hc h.1, iff_of_true rfl ⟨hl', hc⟩⟩

/-! ## A packet written and read back -/

theorem packingOf_packingCode {k : Nat} (h : k = 1 ∨ k = 2 ∨ k = 4) : packingCode k < 3 ∧ packingOf (packingCode k) = some k := by
  obtain rfl | rfl | rfl := h <;> decide

theorem SampleFormat.code_lt (f : SampleFormat) : f.code < 3 := by cases f <;> decide

/-- The second byte of a packet: its channels in the upper half and its three flags below (R1). -/
def Packet.flagByte (p : Packet) : Nat :=
  p.channels * 16 + (if p.cuePresent then 8 else 0) + (if p.test then 4 else 0) + (if p.endFlag then 2 else 0)

theorem flagByte_reads {p : Packet} (h : p.channels ≤ 8) : p.flagByte < 256 ∧ p.flagByte / 16 = p.channels ∧ p.flagByte % 2 = 0 ∧
    (p.flagByte / 8 % 2 == 1) = p.cuePresent ∧ (p.flagByte / 4 % 2 == 1) = p.test ∧ (p.flagByte / 2 % 2 == 1) = p.endFlag := by
  unfold Packet.flagByte
  refine ⟨by split <;> split <;> split <;> omega, by split <;> split <;> split <;> omega, by split <;> split <;> split <;> omega,
    ?_, ?_, ?_⟩
  · cases p.cuePresent <;> simp <;> split <;> split <;> omega
  · cases p.test <;> simp <;> split <;> split <;> omega
  · cases p.endFlag <;> simp <;> split <;> split <;> omega

/-- The fields of a written packet, each at its place (R1, R4). -/
theorem datagram_fields (p : Packet) : field1 p.datagram 0 = (byteOf (16 + packingCode p.packing * 4 + p.format.code)).toNat ∧
    field1 p.datagram 1 = (byteOf p.flagByte).toNat ∧ field2 p.datagram 2 = p.flowId.toNat ∧ field2 p.datagram 4 = p.seq.toNat ∧
    field4 p.datagram 6 = p.sourceTime.toNat ∧ field2 p.datagram 10 = p.cue.toNat ∧
    field2 p.datagram 12 = beNat (be16 p.payload.length) ∧ p.datagram.drop 16 = p.payload ∧
    p.datagram.length = 16 + p.payload.length :=
  ⟨rfl, rfl, beNat_be16 p.flowId.isLt, beNat_be16 p.seq.isLt, beNat_be32 p.sourceTime.isLt, beNat_be16 p.cue.isLt, rfl, rfl, by
    simp [Packet.datagram, Packet.header]; omega⟩

/-- A written packet passes its check (R4). -/
theorem datagram_checks (p : Packet) : (crc16 (p.datagram.take 14 ++ p.datagram.drop 16)).toNat = field2 p.datagram 14 := by
  have covered : p.datagram.take 14 ++ p.datagram.drop 16 = p.header ++ p.payload := rfl
  have check : field2 p.datagram 14 = beNat (be16 (crc16 (p.header ++ p.payload)).toNat) := rfl
  rw [covered, check, beNat_be16 (crc16 _).isLt]

/-- A packet that the layout can carry is read back from its datagram. -/
theorem parsePacket_datagram {p : Packet} (h : p.Ok) : parsePacket p.datagram = some p := by
  obtain ⟨f0, f1, flow, seq, time, cue, size, payload, length⟩ := datagram_fields p
  obtain ⟨code, packing⟩ := packingOf_packingCode h.packing
  have format := SampleFormat.code_lt p.format
  obtain ⟨hbyte, hchan, hzero, hcue, htest, hend⟩ := flagByte_reads h.channels.2
  have hfits := h.fits
  rw [byteOf_toNat_lt (by omega)] at f0
  rw [byteOf_toNat_lt hbyte] at f1
  rw [beNat_be16 (by omega)] at size
  have hb0 : (16 + packingCode p.packing * 4 + p.format.code) / 4 % 4 = packingCode p.packing ∧
      (16 + packingCode p.packing * 4 + p.format.code) % 4 = p.format.code ∧
      (16 + packingCode p.packing * 4 + p.format.code) / 16 = 1 := by omega
  obtain ⟨h4, hm, h16⟩ := hb0
  have sized : p.payload.length = payloadBytes p.packing p.channels p.format := h.payload
  simp only [parsePacket, f0, f1, flow, seq, time, cue, size, payload, length, h4, hm, h16, packing, formatOf_code, hchan, hzero,
    hcue, htest, hend, ← sized, h.channels.1, h.channels.2, hfits, Config.maxPayload, BitVec.ofNat_toNat, BitVec.setWidth_eq,
    decide_true, Bool.and_self, if_true]

/-- Settles O22: the check passes, and the fields are read back. -/
theorem writtenPacketIsReadBack : Obligations.WrittenPacketIsReadBack := by
  intro p h
  have long : 16 ≤ p.datagram.length := by
    obtain ⟨-, -, -, -, -, -, -, -, length⟩ := datagram_fields p
    omega
  exact judge_parsed long (datagram_checks p) (parsePacket_datagram h)

/-! ## The samples of a packet -/

/-- A piece of a list that is cut into pieces of one size. -/
theorem chunks_getElem? {α : Type} (size count : Nat) (l : List α) {j : Nat} (h : j < count) :
    (chunks size count l)[j]? = some ((l.drop (j * size)).take size) := by
  induction count generalizing l j with
  | zero => exact absurd h (Nat.not_lt_zero j)
  | succ count ih =>
    cases j with
    | zero => simp [chunks]
    | succ j =>
      rw [chunks, List.getElem?_cons_succ, ih _ (Nat.lt_of_succ_lt_succ h), List.drop_drop]
      congr 3
      ring

/-- A piece of a piece. -/
theorem take_drop_take_drop {α : Type} (l : List α) {a b s t : Nat} (h : b + t ≤ s) :
    (((l.drop a).take s).drop b).take t = (l.drop (a + b)).take t := by
  rw [List.drop_take, List.take_take, List.drop_drop, min_eq_left (by omega)]

/-- Block j of a packet is made from its place in the payload (R3). -/
theorem blocks_getD (p : Packet) {j : Nat} (h : j < p.packing) : p.blocks.getD j [] =
    blockFrames p.format p.channels
      ((p.payload.drop (j * (48 * p.channels * p.format.bytes))).take (48 * p.channels * p.format.bytes)) := by
  simp [Packet.blocks, List.getD_eq_getElem?_getD, chunks_getElem? _ _ _ h]

/-- The sample of an instant and a channel is made from its place in its block (R2, R6). -/
theorem blockFrames_getD (f : SampleFormat) (channels : Nat) (bytes : List Byte) {n c : Nat} (hn : n < 48) (hc : c < channels) :
    ((blockFrames f channels bytes).getD n []).getD c 0 =
      convertSample f ((bytes.drop ((n * channels + c) * f.bytes)).take f.bytes) := by
  have within : c * f.bytes + f.bytes ≤ channels * f.bytes := by
    rw [← Nat.succ_mul]
    exact Nat.mul_le_mul_right _ hc
  have place : n * (channels * f.bytes) + c * f.bytes = (n * channels + c) * f.bytes := by ring
  simp [blockFrames, List.getD_eq_getElem?_getD, chunks_getElem? _ _ _ hn, chunks_getElem? _ _ _ hc, take_drop_take_drop _ within,
    place]

/-- Where a sample of a packet stands in its payload (R2, R3). -/
theorem blocks_sample (p : Packet) {j n c : Nat} (hj : j < p.packing) (hn : n < 48) (hc : c < p.channels) :
    ((p.blocks.getD j []).getD n []).getD c 0 =
      convertSample p.format ((p.payload.drop (((j * 48 + n) * p.channels + c) * p.format.bytes)).take p.format.bytes) := by
  have within : (n * p.channels + c) * p.format.bytes + p.format.bytes ≤ 48 * p.channels * p.format.bytes := by
    rw [← Nat.succ_mul]
    refine Nat.mul_le_mul_right _ ?_
    calc n * p.channels + c + 1 ≤ n * p.channels + p.channels := by omega
      _ = (n + 1) * p.channels := by ring
      _ ≤ 48 * p.channels := Nat.mul_le_mul_right _ hn
  have place : j * (48 * p.channels * p.format.bytes) + (n * p.channels + c) * p.format.bytes =
      ((j * 48 + n) * p.channels + c) * p.format.bytes := by ring
  rw [blocks_getD p hj, blockFrames_getD _ _ _ hn hc, take_drop_take_drop _ within, place]

/-- An integer in the sample range is held exactly. -/
theorem sampleOf_toInt {x : Int} (hl : -8388608 ≤ x) (hu : x < 8388608) : (sampleOf x).toInt = x := by
  rw [sampleOf, BitVec.toInt_ofInt]
  exact Int.bmod_eq_of_le (by norm_num; exact hl) (by norm_num; exact hu)

theorem convertSample_l16 (v : BitVec 16) : (convertSample .l16 (be16 v.toNat)).toInt = v.toInt * 256 := by
  have hl := BitVec.le_toInt v
  have hu := BitVec.toInt_lt (x := v)
  simp only [convertSample, beNat_be16 v.isLt, BitVec.ofNat_toNat, BitVec.setWidth_eq]
  exact sampleOf_toInt (by omega) (by omega)

theorem convertSample_l24 (v : BitVec 24) :
    convertSample .l24 [byteOf (v.toNat / 65536), byteOf (v.toNat / 256), byteOf v.toNat] = v := by
  have spelled : beNat [byteOf (v.toNat / 65536), byteOf (v.toNat / 256), byteOf v.toNat] = v.toNat := by
    have := v.isLt
    simp only [beNat, List.foldl_cons, List.foldl_nil, byteOf_toNat]
    omega
  simp [convertSample, spelled]

theorem convertSample_l32 (v : BitVec 32) : (convertSample .l32 (be32 v.toNat)).toInt = v.toInt.fdiv 256 := by
  have hl := BitVec.le_toInt v
  have hu := BitVec.toInt_lt (x := v)
  simp only [convertSample, beNat_be32 v.isLt, BitVec.ofNat_toNat, BitVec.setWidth_eq]
  rw [Int.fdiv_eq_ediv_of_nonneg _ (by norm_num)]
  exact sampleOf_toInt (by omega) (by omega)

/-- Settles O24. -/
theorem payloadSamplesStandInOrder : Obligations.PayloadSamplesStandInOrder :=
  ⟨fun p _ _ _ _ hj hn hc => blocks_sample p hj hn hc, convertSample_l16, convertSample_l24, convertSample_l32⟩

end Sys2Proof.Machine
end

section
/-! SUPPORT. The drops of the ingest order, in their order (R9, R11, R17 to R20). -/

namespace Sys2Proof.Machine

/-! ## The look-up of a flow (R17) -/

theorem entryOf_inj {i j : Fin 32} {p q : PathId} (h : entryOf i p = entryOf j q) : i = j ∧ p = q := by
  cases p <;> cases q
  · exact ⟨entryA_inj.mp h, rfl⟩
  · exact absurd h (entryA_ne_entryB i j)
  · exact absurd h.symm (entryA_ne_entryB j i)
  · exact ⟨entryB_inj.mp h, rfl⟩

/-- What the look-up finds is an entry bound to the flow. -/
theorem get_of_lookup {s : State} {port : PortId} {flowId : Half} {i : Fin 32} {path : PathId} (h : s.lookup port flowId = some (i, path)) :
    s.flows.get (entryOf i path) = { bound := true, port := port, flowId := flowId } := by
  obtain ⟨k, -, hk⟩ := List.exists_of_findSome?_eq_some h
  split at hk
  next ha =>
    cases hk
    exact (holds_iff _ _).mp ha
  next =>
    split at hk
    next hb =>
      cases hk
      exact (holds_iff _ _).mp hb
    · cases hk

theorem get_ne_of_lookup {s : State} {port : PortId} {flowId : Half} (h : s.lookup port flowId = none) (i : Fin 32) (path : PathId) :
    s.flows.get (entryOf i path) ≠ { bound := true, port := port, flowId := flowId } := by
  intro e
  have unheld := List.findSome?_eq_none_iff.mp h i (List.mem_finRange i)
  have held : (s.flows.get (entryOf i path)).holds { port := port, flowId := flowId } = true := (holds_iff _ _).mpr e
  cases path with
  | a => simp [show (s.flows.get (entryA i)).holds _ = true from held] at unheld
  | b =>
    rw [show (s.flows.get (entryB i)).holds _ = true from held] at unheld
    split at unheld <;> cases unheld

theorem lookup_eq_none {s : State} {port : PortId} {flowId : Half}
    (h : ∀ j, s.flows.get j ≠ { bound := true, port := port, flowId := flowId }) : s.lookup port flowId = none := by
  cases hl : s.lookup port flowId with
  | none => rfl
  | some found => exact absurd (get_of_lookup hl) (h _)

theorem State.BoundTo.lookup {s : State} {port : PortId} {flowId : Half} {i : Fin 32} {path : PathId} (h : s.BoundTo port flowId i path) :
    s.lookup port flowId = some (i, path) := by
  obtain ⟨bound, only⟩ := h
  cases hl : s.lookup port flowId with
  | none => exact absurd bound (get_ne_of_lookup hl i path)
  | some found =>
    obtain ⟨rfl, rfl⟩ := entryOf_inj (only _ (get_of_lookup hl))
    rfl

/-! ## The steps of the ingest order (R18) -/

@[simp] theorem setPort_setPort (s : State) (p : PortId) (x y : Port) : (s.setPort p x).setPort p y = s.setPort p y := by cases p <;> rfl

@[simp] theorem setPort_lookup (s : State) (p q : PortId) (x : Port) (flowId : Half) :
    (s.setPort p x).lookup q flowId = s.lookup q flowId := by simp [State.lookup]

theorem arrival_down {s : State} {port : PortId} (h : (s.port port).state ≠ .up) (d : List Byte) : s.arrival port d = s := by
  simp [State.arrival, h]

theorem arrival_up {s : State} {port : PortId} (h : (s.port port).state = .up) (d : List Byte) :
    s.arrival port d = (s.setPort port { s.port port with received := (s.port port).received + 1 }).ingestDatagram port d := by
  simp [State.arrival, h]

theorem ingest_malformed {d : List Byte} (h : judgeDatagram d = .malformed) (s : State) (port : PortId) :
    s.ingestDatagram port d = s.setPort port { s.port port with malformed := (s.port port).malformed + 1 } := by
  simp only [State.ingestDatagram, h]

theorem ingest_checkFailed {d : List Byte} (h : judgeDatagram d = .checkFailed) (s : State) (port : PortId) :
    s.ingestDatagram port d = s.setPort port { s.port port with checkErrors := (s.port port).checkErrors + 1 } := by
  simp only [State.ingestDatagram, h]

theorem ingest_unknown {d : List Byte} {p : Packet} (h : judgeDatagram d = .wellFormed p) {s : State} {port : PortId}
    (hl : s.lookup port p.flowId = none) :
    s.ingestDatagram port d = s.setPort port { s.port port with unknownFlow := (s.port port).unknownFlow + 1 } := by
  simp only [State.ingestDatagram, h, hl]

theorem ingest_found {d : List Byte} {p : Packet} (h : judgeDatagram d = .wellFormed p) {s : State} {port : PortId} {i : Fin 32}
    {path : PathId} (hl : s.lookup port p.flowId = some (i, path)) : s.ingestDatagram port d = s.ingestStream port i path p := by
  simp only [State.ingestDatagram, h, hl]

theorem ingestStream_notStarted {s : State} {i : Fin 32}
    (h : (s.stream i).state = .ready ∨ (s.stream i).state = .ended ∨ (s.stream i).state = .closed) (port : PortId) (path : PathId)
    (p : Packet) : s.ingestStream port i path p = s.setPort port { s.port port with notStarted := (s.port port).notStarted + 1 } := by
  obtain h | h | h := h <;> simp only [State.ingestStream, h]

/-- A stream that has been started and has not ended takes a packet by its pair state and its format (R19, R20). -/
theorem ingestStream_started {s : State} {i : Fin 32} (hr : (s.stream i).state ≠ .ready) (he : (s.stream i).state ≠ .ended)
    (hc : (s.stream i).state ≠ .closed) (port : PortId) (path : PathId) (p : Packet) : s.ingestStream port i path p =
      if path = .b ∧ (s.stream i).pair = .pairFault then s.setStream i { s.stream i with
        counters := { (s.stream i).counters with pairOff := (s.stream i).counters.pairOff + 1 } }
      else if (s.stream i).formatMatches p then
        if (s.stream i).state = .acquiring then s.firstPacket i path p else s.laterPacket i path p
      else s.setStream i { s.stream i with
        counters := { (s.stream i).counters with formatMismatch := (s.stream i).counters.formatMismatch + 1 } } := by
  unfold State.ingestStream
  dsimp only
  split <;> first | contradiction | rfl

theorem formatMatches_iff (x : Stream) (p : Packet) : x.formatMatches p = true ↔
    x.channels = p.channels ∧ x.format = p.format ∧ x.packing = p.packing ∧ x.test = p.test := by
  simp [Stream.formatMatches, and_assoc]

/-- Settles O25: the look-up of R17 finds the one entry that holds the flow, and each step of the ingest order ends in its one
counter. -/
theorem packetDropsAreCounted : Obligations.PacketDropsAreCounted := by
  rintro s t port n d y rfl rfl
  have arrives : exec (.packetArrival port n d) s = .next ((s.atSample n).arrival port d) := rfl
  generalize s.atSample n = t at arrives ⊢
  rw [arrives]
  refine ⟨fun down => ?_, fun up judged => ?_, fun up judged => ?_, fun p up judged unbound => ?_,
    fun p i path x up judged bound hx => ?_⟩
  · rw [arrival_down down]
  · simp [arrival_up up, ingest_malformed judged]
  · simp [arrival_up up, ingest_checkFailed judged]
  · simp [arrival_up up, ingest_unknown judged ((setPort_lookup _ _ _ _ _).trans (lookup_eq_none unbound))]
  · subst hx
    rw [arrival_up up, ingest_found judged ((setPort_lookup _ _ _ _ _).trans bound.lookup)]
    refine ⟨fun idle => ?_, fun hr he hc => ?_⟩
    · rw [ingestStream_notStarted (by simpa using idle)]
      simp
    · rw [ingestStream_started (by simpa using hr) (by simpa using he) (by simpa using hc)]
      refine ⟨fun hb hf => ?_, fun on unlike => ?_⟩
      · simp [hb, hf]
      · simp [on, mt (formatMatches_iff _ p).mp unlike]

end Sys2Proof.Machine
end

section
/-! SUPPORT. STREAM_OPEN (R25 to R30): its body, its checks in order and what an admitted stream leaves; and O29. -/

namespace Sys2Proof.Machine

/-! ## The checks 3 to 8, in order (R27) -/

theorem require_bind {β : Type} (c : Bool) (st : Status) (k : Unit → Except Status β) :
    (require c st >>= k) = if c = false then .error st else k () := by cases c <;> rfl

theorem require_eq (c : Bool) (st : Status) : require c st = if c = false then .error st else .ok () := by cases c <;> rfl

theorem flowsTaken_iff (s : State) (a : Flow) (b : Option Flow) :
    (s.flowHeld a || b.any s.flowHeld || b == some a) = true ↔
      (∃ j, s.flows.get j = .bind a) ∨ ∃ f, b = some f ∧ ((∃ j, s.flows.get j = .bind f) ∨ f = a) := by
  cases b with
  | none => simp [flowHeld_iff]
  | some f => simp [flowHeld_iff, or_assoc]

theorem Port.admits_iff (x : Port) (n : Nat) : x.admits n = true ↔ (n ≠ 0 → x.ingestLoad + n ≤ x.ingestBudget) := by
  simp only [Port.admits, Bool.or_eq_true, beq_iff_eq, decide_eq_true_eq]
  omega

/-- Check 8: each port that a given flow names has room for the stream's load. -/
theorem portsAdmit_iff (s : State) (add : PortId → Nat) : (s.portA.admits (add .a) && s.portB.admits (add .b)) = true ↔
    ∀ p, add p ≠ 0 → (s.port p).ingestLoad + add p ≤ (s.port p).ingestBudget := by
  rw [Bool.and_eq_true, Port.admits_iff, Port.admits_iff]
  exact ⟨fun h p => by cases p with | a => exact h.1 | b => exact h.2, fun h => ⟨h .a, h .b⟩⟩

theorem checks_eq (o : OpenFields) (s : State) : o.checks s =
    if 1440 < payloadBytes o.packing o.channels o.format then .error .tooLarge
    else if 8 ≤ (s.group o.group).members.length then .error .groupFull
    else if (o.depth - 2) * 48 < (s.group o.group).hold then .error .depthTooSmall
    else if (s.flowHeld o.flowA || o.flowB.any s.flowHeld || o.flowB == some o.flowA) = true then .error .flowInUse
    else if 4096 < s.slotsInUse + o.depth then .error .noSlots
    else if (s.portA.admits (o.chargeOn .a) && s.portB.admits (o.chargeOn .b)) = false then .error .noBandwidth
    else .ok () := by
  simp only [OpenFields.checks, require_bind]
  simp only [require_eq, depthHolds, decide_eq_false_iff_not, Nat.not_le, Nat.not_lt,
    Bool.not_eq_false', Config.maxPayload, Config.slotPool]

theorem chargeOn_eq (o : OpenFields) (p : PortId) : o.chargeOn p =
    (if o.flowA.port = p then o.load else 0) + o.flowB.elim 0 fun f => if f.port = p then o.load else 0 := by
  cases h : o.flowB <;> simp [OpenFields.chargeOn, chargeOn, h]

/-! ## The body (R25, R26) -/

theorem toFin?_val {n : Nat} (i : Fin n) : toFin? n i.val = some i := dif_pos i.isLt

theorem toFin?_eq_none {n k : Nat} (h : n ≤ k) : toFin? n k = none := dif_neg (Nat.not_lt.mpr h)

/-- The bytes of a STREAM_OPEN that give flow B, or do not, are in range and give it (R25). -/
theorem openBody_flowB (i : Fin 32) (o : OpenFields) (unused : Byte × Half) :
    decide (field1 (openBody i o unused) 12 ≤ 1) = true ∧
    (field1 (openBody i o unused) 12 == 0 || decide (field1 (openBody i o unused) 13 ≤ 1)) = true ∧
    (if field1 (openBody i o unused) 12 = 1 then
      some { port := portOf (field1 (openBody i o unused) 13), flowId := BitVec.ofNat 16 (field2 (openBody i o unused) 14) }
    else none) = o.flowB := by
  cases hB : o.flowB with
  | none =>
    have given : field1 (openBody i o unused) 12 = 0 := by simp only [openBody, hB]; rfl
    rw [given]
    exact ⟨rfl, rfl, rfl⟩
  | some f =>
    have given : field1 (openBody i o unused) 12 = 1 := by simp only [openBody, hB]; rfl
    have port : field1 (openBody i o unused) 13 = portNumber f.port := by simp only [openBody, hB]; exact field1_port f.port []
    have flowId : field2 (openBody i o unused) 14 = f.flowId.toNat := by
      simp only [openBody, hB]
      exact beNat_be16 f.flowId.isLt
    rw [given, port, flowId]
    exact ⟨rfl, portNumber_ok f.port, by simp⟩

/-- The body of a STREAM_OPEN is read back as the stream and the fields that it was made from. -/
theorem openFields_openBody (i : Fin 32) {o : OpenFields} (unused : Byte × Half) (hc : 1 ≤ o.channels) (hc8 : o.channels ≤ 8)
    (hk : o.packing ∈ [1, 2, 4]) (hd : o.depth ∈ [16, 32, 64, 128, 256]) :
    field1 (openBody i o unused) 0 = i.val ∧ openFields (openBody i o unused) = some o := by
  have stream : field1 (openBody i o unused) 0 = i.val := byteOf_toNat_lt (by omega)
  have group : field1 (openBody i o unused) 1 = o.group.val := byteOf_toNat_lt (by omega)
  have channels : field1 (openBody i o unused) 2 = o.channels := byteOf_toNat_lt (by omega)
  have format : field1 (openBody i o unused) 3 = o.format.code := byteOf_toNat_lt (o.format.code_lt.trans (by decide))
  have packing : field1 (openBody i o unused) 4 = o.packing := byteOf_toNat_lt (by simp at hk; omega)
  have depth : field2 (openBody i o unused) 5 = o.depth := beNat_be16 (by simp at hd; omega)
  have test : field1 (openBody i o unused) 7 = if o.test then 1 else 0 := by
    show BitVec.toNat (if o.test then 1 else 0) = _
    split <;> rfl
  have givenA : field1 (openBody i o unused) 8 = 1 := rfl
  have portA : field1 (openBody i o unused) 9 = portNumber o.flowA.port := field1_port _ []
  have idA : field2 (openBody i o unused) 10 = o.flowA.flowId.toNat := beNat_be16 o.flowA.flowId.isLt
  refine ⟨stream, ?_⟩
  unfold openFields
  rw [group, format, toFin?_val, formatOf_code, channels, packing, depth, test, givenA, portA, idA]
  obtain ⟨givenB, portB, flowB⟩ := openBody_flowB i o unused
  have ranges : decide (1 ≤ o.channels) = true ∧ decide (o.channels ≤ 8) = true ∧ [1, 2, 4].contains o.packing = true ∧
      [16, 32, 64, 128, 256].contains o.depth = true :=
    ⟨decide_eq_true hc, decide_eq_true hc8, List.contains_iff_mem.mpr hk, List.contains_iff_mem.mpr hd⟩
  have flag : decide ((if o.test then 1 else 0) ≤ 1) = true ∧ ((if o.test then 1 else 0) == 1) = o.test := by
    cases o.test <;> exact ⟨rfl, rfl⟩
  simp only [ranges, flag, givenB, portB, flowB, portNumber_ok, portOf_portNumber, beq_self_eq_true, Bool.and_self, if_true,
    BitVec.ofNat_toNat, BitVec.setWidth_eq]

/-- The fields of a STREAM_OPEN that was not refused as BAD_VALUE, as they stand in its body (R26). -/
theorem body_ranges {b : List Byte} {o : OpenFields} (h : openFields b = some o) :
    ¬(15 < field1 b 1 ∨ field1 b 2 = 0 ∨ 8 < field1 b 2 ∨ 2 < field1 b 3 ∨ field1 b 4 ∉ [1, 2, 4] ∨
      field2 b 5 ∉ [16, 32, 64, 128, 256] ∨ 1 < field1 b 7 ∨ field1 b 8 ≠ 1 ∨ 1 < field1 b 9 ∨ 1 < field1 b 12 ∨
      (field1 b 12 = 1 ∧ 1 < field1 b 13)) := by
  unfold openFields at h
  split at h
  next hg hf =>
    have group : ¬15 < field1 b 1 := fun e => by rw [toFin?_eq_none e] at hg; cases hg
    have format : ¬2 < field1 b 3 := fun e => by rw [formatOf_eq_none.mpr e] at hf; cases hf
    dsimp only at h
    split at h
    next hr =>
      simp only [Bool.and_eq_true, Bool.or_eq_true, decide_eq_true_eq, beq_iff_eq, List.contains_iff_mem] at hr
      obtain ⟨⟨⟨⟨⟨⟨⟨⟨hc1, hc8⟩, hk⟩, hd⟩, ht⟩, hA⟩, hpA⟩, hB⟩, hpB⟩ := hr
      simp only [not_or, not_not, hk, hd, true_and]
      omega
    · cases h
  · cases h

/-! ## STREAM_OPEN as it is served (R27, R28) -/

theorem serveStreamOpen_notFound (s : State) {b : List Byte} (h : 32 ≤ field1 b 0) : serveStreamOpen s b = .error .notFound := by
  simp only [serveStreamOpen, toFin?_eq_none h]

theorem serveStreamOpen_badState {s : State} {b : List Byte} {i : Fin 32} (hi : field1 b 0 = i.val) (h : (s.stream i).state ≠ .closed) :
    serveStreamOpen s b = .error .badState := by
  simp only [serveStreamOpen, hi, toFin?_val, if_pos h]

theorem serveStreamOpen_badValue {s : State} {b : List Byte} {i : Fin 32} (hi : field1 b 0 = i.val) (h : (s.stream i).state = .closed)
    (ho : openFields b = none) : serveStreamOpen s b = .error .badValue := by
  simp only [serveStreamOpen, hi, toFin?_val, h, ho, ne_eq, not_true_eq_false, if_false]

theorem serveStreamOpen_checked {s : State} {b : List Byte} {i : Fin 32} {o : OpenFields} (hi : field1 b 0 = i.val)
    (h : (s.stream i).state = .closed) (ho : openFields b = some o) : serveStreamOpen s b = (o.checks s >>= fun _ =>
      .ok (s.openStream i o, be32 o.load ++ be32 (s.openStream i o).portA.ingestLoad ++ be32 (s.openStream i o).portB.ingestLoad ++
        be32 (s.openStream i o).slotsInUse)) := by
  simp only [serveStreamOpen, hi, toFin?_val, h, ho, ne_eq, not_true_eq_false, if_false]
  rfl

theorem openBody_length (i : Fin 32) (o : OpenFields) (unused : Byte × Half) :
    bodyLength 0x20 = some (openBody i o unused).length := by
  cases hB : o.flowB <;> simp only [openBody, hB] <;> rfl

/-- A STREAM_OPEN that reaches its checks, at its turn. -/
theorem streamOpen_checked {s : State} {i : Fin 32} {o : OpenFields} {unused : Byte × Half} (hn : s.Next 0x20 (openBody i o unused))
    (hi : field1 (openBody i o unused) 0 = i.val) (ho : openFields (openBody i o unused) = some o) (h : (s.stream i).state = .closed) :
    exec .streamOpen s = .next (s.conclude (o.checks s >>= fun _ =>
      .ok (s.openStream i o, be32 o.load ++ be32 (s.openStream i o).portA.ingestLoad ++ be32 (s.openStream i o).portB.ingestLoad ++
        be32 (s.openStream i o).slotsInUse))) := by
  rw [← serveStreamOpen_checked hi h ho]
  exact congrArg _ (take_of_Next _ hn (openBody_length i o unused))

/-- Settles O29: the checks are a chain of cases, and the record, the group, the Flow Table and the accounts after an admission are
those of its own lemmas. -/
theorem streamOpenRunsItsChecksInOrder : Obligations.StreamOpenRunsItsChecksInOrder := by
  refine ⟨?_, fun s b hn hl => ⟨fun h => ?_, fun i hi => ⟨fun h => ?_, fun h bad => ?_⟩⟩⟩
  · intro s i o unused payload load add taken hn hc hc8 hk hd hpayload hload hadd htaken
    obtain rfl : payload = payloadBytes o.packing o.channels o.format := hpayload
    obtain rfl : load = o.load := hload
    obtain rfl : add = o.chargeOn := hadd.trans (funext fun p => (chargeOn_eq o p).symm)
    obtain rfl : taken = fun f => ∃ j, s.flows.get j = .bind f := htaken
    obtain ⟨hi, ho⟩ := openFields_openBody i unused hc hc8 hk hd
    refine ⟨fun h => ?_, fun h => ?_⟩
    · exact congrArg _ ((take_of_Next _ hn (openBody_length i o unused)).trans (by rw [serveStreamOpen_badState hi h]; rfl))
    have served := streamOpen_checked hn hi ho h
    rw [checks_eq] at served
    refine ⟨fun large => by rw [served, if_pos large]; rfl, fun small => ?_⟩
    rw [if_neg (Nat.not_lt.mpr small)] at served
    refine ⟨fun full => by rw [served, if_pos full]; rfl, fun free => ?_⟩
    rw [if_neg (Nat.not_le.mpr free)] at served
    refine ⟨fun shallow => by rw [served, if_pos shallow]; rfl, fun deep => ?_⟩
    rw [if_neg (Nat.not_lt.mpr deep)] at served
    refine ⟨fun held => by rw [served, if_pos ((flowsTaken_iff s _ _).mpr held)]; rfl, fun unheld => ?_⟩
    rw [if_neg (mt (flowsTaken_iff s _ _).mp unheld)] at served
    refine ⟨fun exceeds => by rw [served, if_pos exceeds]; rfl, fun fits => ?_⟩
    rw [if_neg (Nat.not_lt.mpr fits)] at served
    refine ⟨fun ⟨p, named, exceeds⟩ => ?_, fun admitted => ?_⟩
    · have refused : ¬(s.portA.admits (o.chargeOn .a) && s.portB.admits (o.chargeOn .b)) = true := fun admitted =>
        Nat.not_le.mpr exceeds ((portsAdmit_iff s o.chargeOn).mp admitted p named)
      rw [served, if_pos (Bool.not_eq_true _ ▸ refused)]
      rfl
    · rw [(portsAdmit_iff s o.chargeOn).mpr admitted] at served
      refine ⟨s.openStream i o, served, openStream_stream_self s i o, fun j hj => openStream_stream_ne s o hj, openStream_group_self s i o,
        fun g hg => openStream_group_ne s i hg, bindFlows_entryA _ _ _ _, ?_, fun j hA hB => bindFlows_ne _ _ _ hA hB, rfl,
        fun p => openStream_port s i o p, rfl⟩
      exact (bindFlows_entryB s.flows i o.flowA o.flowB).trans (by cases o.flowB <;> rfl)
  · exact congrArg _ ((take_of_Next _ hn (by rw [hl]; rfl)).trans (by rw [serveStreamOpen_notFound s h]; rfl))
  · exact congrArg _ ((take_of_Next _ hn (by rw [hl]; rfl)).trans (by rw [serveStreamOpen_badState hi h]; rfl))
  · have refused : openFields b = none := by
      cases ho : openFields b with
      | none => rfl
      | some o => exact absurd bad (body_ranges ho)
    exact congrArg _ ((take_of_Next _ hn (by rw [hl]; rfl)).trans (by rw [serveStreamOpen_badValue hi h refused]; rfl))

end Sys2Proof.Machine
end

section
/-! SUPPORT. STREAM_START, STREAM_REPAIR, STREAM_STOP and STREAM_CLOSE as they are served (R24, R32 to R34, R39), and the unanchoring
of a group that a stop or a close has left without a timeline (R53); and O30, O31 and O32. -/

namespace Sys2Proof.Machine

/-! ## A request served at its turn -/

/-- A request that is refused at its turn is answered with its status alone (R178). -/
theorem take_refused {s : State} {kind : Byte} {body : List Byte} {serve : State → List Byte → Served} {st : Status}
    (hn : s.Next kind body) (hl : bodyLength kind = some body.length) (h : serve s body = .error st) :
    (.next (s.take kind serve) : Host.Outcome State Fault Refusal) = .next (s.answer [st.code]) := by
  rw [take_of_Next serve hn hl, h]
  rfl

/-- A request that is granted at its turn has its effects and is answered with OK and its data (R178). -/
theorem take_granted {s t : State} {kind : Byte} {body data : List Byte} {serve : State → List Byte → Served}
    (hn : s.Next kind body) (hl : bodyLength kind = some body.length) (h : serve s body = .ok (t, data)) :
    (.next (s.take kind serve) : Host.Outcome State Fault Refusal) = .next (t.answer (0 :: data)) := by
  rw [take_of_Next serve hn hl, h]
  rfl

/-- A number below 256 stands in a body of one byte. -/
theorem field1_byteOf {n : Nat} (h : n < 256) : field1 [byteOf n] 0 = n := byteOf_toNat_lt h

/-- The stream that a body of one byte names (R24). -/
theorem toFin?_stream (i : Fin 32) : toFin? 32 (field1 [byteOf i.val] 0) = some i := by
  rw [field1_byteOf (by omega), toFin?_val]

/-- The group that a body of one byte names (R51, R59, R105). -/
theorem toFin?_group (i : Fin 16) : toFin? 16 (field1 [byteOf i.val] 0) = some i := by
  rw [field1_byteOf (by omega), toFin?_val]

/-- A byte at or above the number of records names none of them. -/
theorem toFin?_beyond {n : Nat} {b : Byte} (h : n ≤ b.toNat) : toFin? n (field1 [b] 0) = none := toFin?_eq_none h

/-! ## STREAM_START and STREAM_REPAIR -/

theorem serveStreamStart_eq (s : State) (i : Fin 32) : serveStreamStart s [byteOf i.val] =
    if (s.stream i).state = .ready then .ok (s.setStream i { s.stream i with state := .acquiring }, [2]) else .error .badState := by
  simp only [serveStreamStart, toFin?_stream, StreamState.code]

theorem serveStreamStart_notFound (s : State) {b : Byte} (h : 32 ≤ b.toNat) : serveStreamStart s [b] = .error .notFound := by
  simp only [serveStreamStart, toFin?_beyond h]

/-- STREAM_REPAIR leaves a stream that is neither CLOSED nor SINGLE in PAIRED, whichever of the two others it was (R39). -/
theorem serveStreamRepair_eq (s : State) (i : Fin 32) : serveStreamRepair s [byteOf i.val] =
    if (s.stream i).state = .closed ∨ (s.stream i).pair = .single then .error .badState
    else .ok (s.setStream i { s.stream i with pair := .paired, windowMismatches := 0 }, [1]) := by
  simp only [serveStreamRepair, toFin?_stream]
  by_cases hc : (s.stream i).state = .closed
  · rw [if_pos hc, if_pos (.inl hc)]
  · rw [if_neg hc]
    cases hp : (s.stream i).pair with
    | single => rw [if_pos (.inr rfl)]
    | paired =>
      have same : ({ s.stream i with pair := .paired, windowMismatches := 0 } : Stream) = { s.stream i with windowMismatches := 0 } := by
        rw [← hp]
      rw [if_neg (by simp [hc]), same]
      rfl
    | pairFault =>
      rw [if_neg (by simp [hc])]
      rfl

theorem serveStreamRepair_notFound (s : State) {b : Byte} (h : 32 ≤ b.toNat) : serveStreamRepair s [b] = .error .notFound := by
  simp only [serveStreamRepair, toFin?_beyond h]

/-- Settles O30, by what each of the two requests is served. -/
theorem streamStartAndRepair : Obligations.StreamStartAndRepair := by
  refine fun s i b => ⟨fun hn => ?_, fun hn => ?_, fun hb => ⟨fun hn => ?_, fun hn => ?_⟩⟩
  · have served := serveStreamStart_eq s i
    split
    next h => exact take_granted hn rfl (served.trans (if_pos h))
    next h => exact take_refused hn rfl (served.trans (if_neg h))
  · have served := serveStreamRepair_eq s i
    split
    next h => exact take_refused hn rfl (served.trans (if_pos h))
    next h => exact take_granted hn rfl (served.trans (if_neg h))
  · exact take_refused hn rfl (serveStreamStart_notFound s hb)
  · exact take_refused hn rfl (serveStreamRepair_notFound s hb)

/-! ## A group that may have been left without a timeline (R53) -/

/-- A group that is UNANCHORED, or has a member that holds its timeline, stands. -/
theorem unanchorIfLeft_of_held {s : State} {g : Fin 16}
    (h : (s.group g).anchored = false ∨ ∃ j ∈ (s.group g).members, (s.stream j).state.holdsTimeline = true) :
    s.unanchorIfLeft g = s := by
  refine if_neg fun hc => ?_
  simp only [Bool.and_eq_true, Bool.not_eq_true', List.any_eq_false] at hc
  obtain ha | ⟨j, hj, hh⟩ := h
  · exact absurd hc.1 (by rw [ha]; decide)
  · exact hc.2 j hj hh

/-- An ANCHORED group none of whose members holds its timeline is unanchored. -/
theorem unanchorIfLeft_of_left {s : State} {g : Fin 16} (ha : (s.group g).anchored = true)
    (h : ∀ j ∈ (s.group g).members, (s.stream j).state.holdsTimeline = false) : s.unanchorIfLeft g = s.unanchor g := by
  refine if_pos ?_
  simp only [Bool.and_eq_true, Bool.not_eq_true', List.any_eq_false]
  exact ⟨ha, fun j hj => by simp [h j hj]⟩

/-- A stream's record after the unanchoring of a group: a member loses its window minimum and its window pair mismatch count. -/
theorem unanchor_stream (s : State) (g : Fin 16) (j : Fin 32) : (s.unanchor g).stream j =
    if j ∈ (s.group g).members then { s.stream j with clock := (s.stream j).clock.drop, windowMismatches := 0 } else s.stream j := by
  have mapped := mapMembers_stream s g (fun x => { x with clock := x.clock.drop, windowMismatches := 0 }) j
  simp only [List.contains_iff_mem] at mapped
  exact mapped

/-- A record without a window minimum or window pair mismatches is left as it is by the unanchoring of a group. -/
theorem unanchor_stream_of_dropped {s : State} (g : Fin 16) {j : Fin 32} (hc : (s.stream j).clock.drop = (s.stream j).clock)
    (hm : (s.stream j).windowMismatches = 0) : (s.unanchor g).stream j = s.stream j := by
  rw [unanchor_stream, hc, ← hm, ite_self]

theorem unanchorIfLeft_stream_of_dropped {s : State} (g : Fin 16) {j : Fin 32} (hc : (s.stream j).clock.drop = (s.stream j).clock)
    (hm : (s.stream j).windowMismatches = 0) : (s.unanchorIfLeft g).stream j = s.stream j := by
  unfold State.unanchorIfLeft
  split
  · exact unanchor_stream_of_dropped g hc hm
  · rfl

theorem unanchorIfLeft_group_ne (s : State) {g h : Fin 16} (e : h ≠ g) : (s.unanchorIfLeft g).group h = s.group h := by
  unfold State.unanchorIfLeft
  split
  · exact unanchor_group_ne s e
  · rfl

/-- An unanchoring touches streams and groups alone. -/
theorem unanchorIfLeft_frame (s : State) (g : Fin 16) :
    s.unanchorIfLeft g = { s with streams := (s.unanchorIfLeft g).streams, groups := (s.unanchorIfLeft g).groups } := by
  unfold State.unanchorIfLeft
  split
  · rfl
  · rfl

/-! ## STREAM_STOP -/

/-- The record that a STREAM_STOP leaves (R33). -/
def Stream.stopped (x : Stream) : Stream := { x.leaveTimeline .ready with windowMismatches := 0, clock := x.clock.stop }

theorem stopStream_eq (s : State) (i : Fin 32) :
    s.stopStream i = (s.setStream i (s.stream i).stopped).unanchorIfLeft (s.stream i).group := rfl

theorem serveStreamStop_closed {s : State} {i : Fin 32} (h : (s.stream i).state = .closed) :
    serveStreamStop s [byteOf i.val] = .error .badState := by
  simp only [serveStreamStop, toFin?_stream, h]

theorem serveStreamStop_ready {s : State} {i : Fin 32} (h : (s.stream i).state = .ready) :
    serveStreamStop s [byteOf i.val] = .ok (s, [1]) := by
  simp only [serveStreamStop, toFin?_stream, h, StreamState.code]

theorem serveStreamStop_started {s : State} {i : Fin 32} (hc : (s.stream i).state ≠ .closed) (hr : (s.stream i).state ≠ .ready) :
    serveStreamStop s [byteOf i.val] = .ok (s.stopStream i, [1]) := by
  simp only [serveStreamStop, toFin?_stream]
  cases h : (s.stream i).state with
  | closed => exact absurd h hc
  | ready => exact absurd h hr
  | acquiring | primed | playing | outage | draining | ended => rfl

theorem stopStream_stream_self (s : State) (i : Fin 32) : (s.stopStream i).stream i = (s.stream i).stopped := by
  have self := setStream_stream_self s i (s.stream i).stopped
  rw [stopStream_eq, unanchorIfLeft_stream_of_dropped _ (by rw [self]; rfl) (by rw [self]; rfl), self]

/-- The stopped stream itself does not hold the timeline, so its group is held exactly when another member holds it. -/
theorem stopStream_of_held {s : State} {i : Fin 32} (h : (s.group (s.stream i).group).anchored = false ∨
    ∃ j ∈ (s.group (s.stream i).group).members, j ≠ i ∧ (s.stream j).state.holdsTimeline = true) :
    s.stopStream i = s.setStream i (s.stream i).stopped := by
  rw [stopStream_eq]
  refine unanchorIfLeft_of_held (h.imp_right ?_)
  rintro ⟨j, hj, hne, hh⟩
  exact ⟨j, hj, by rw [setStream_stream_ne _ _ hne]; exact hh⟩

theorem stopStream_of_left {s : State} {i : Fin 32} (ha : (s.group (s.stream i).group).anchored = true)
    (h : ∀ j ∈ (s.group (s.stream i).group).members, j ≠ i → (s.stream j).state.holdsTimeline = false) :
    s.stopStream i = (s.setStream i (s.stream i).stopped).unanchor (s.stream i).group := by
  rw [stopStream_eq]
  refine unanchorIfLeft_of_left ha fun j hj => ?_
  by_cases e : j = i
  · rw [e, setStream_stream_self]; rfl
  · rw [setStream_stream_ne _ _ e]; exact h j hj e

theorem stopStream_group_ne (s : State) (i : Fin 32) {h : Fin 16} (e : h ≠ (s.stream i).group) :
    (s.stopStream i).group h = s.group h := unanchorIfLeft_group_ne _ e

theorem stopStream_frame (s : State) (i : Fin 32) :
    s.stopStream i = { s with streams := (s.stopStream i).streams, groups := (s.stopStream i).groups } :=
  unanchorIfLeft_frame (s.setStream i (s.stream i).stopped) (s.stream i).group

/-- Settles O31: the stream's own record first, then the group and its other members by whether one of them holds the timeline. -/
theorem streamStopEmptiesTheRing : Obligations.StreamStopEmptiesTheRing := by
  rintro s i x g hn rfl rfl
  refine ⟨fun h => take_refused hn rfl (serveStreamStop_closed h),
    fun h => take_granted hn rfl (serveStreamStop_ready h), fun hc hr => ?_⟩
  refine ⟨s.stopStream i, take_granted hn rfl (serveStreamStop_started hc hr), stopStream_stream_self s i,
    fun held => ?_, fun ha left => ?_, fun h e => stopStream_group_ne s i e, stopStream_frame s i⟩
  · rw [stopStream_of_held held]
    exact ⟨rfl, fun j e => setStream_stream_ne s _ e⟩
  · rw [stopStream_of_left ha left]
    refine ⟨unanchor_group_self _ _, fun j e => ?_⟩
    rw [unanchor_stream, setStream_stream_ne s _ e]
    rfl

/-! ## STREAM_CLOSE -/

theorem serveStreamClose_closed {s : State} {i : Fin 32} (h : (s.stream i).state = .closed) :
    serveStreamClose s [byteOf i.val] = .error .badState := by
  simp only [serveStreamClose, toFin?_stream, if_pos h]

theorem serveStreamClose_open {s : State} {i : Fin 32} (h : (s.stream i).state ≠ .closed) :
    serveStreamClose s [byteOf i.val] = .ok (s.closeStream i, be32 (s.closeStream i).slotsInUse ++
      be32 (s.closeStream i).portA.ingestLoad ++ be32 (s.closeStream i).portB.ingestLoad) := by
  simp only [serveStreamClose, toFin?_stream, if_neg h]

/-- The state in which a STREAM_CLOSE looks at the group: the stream is CLOSED and has left its list (R34, R47). -/
def State.leftList (s : State) (i : Fin 32) : State :=
  (s.setStream i .closed).setGroup (s.stream i).group ((s.group (s.stream i).group).removeMember i)

theorem departed_eq (s : State) (i : Fin 32) : s.departed i = (s.leftList i).unanchorIfLeft (s.stream i).group := rfl

theorem leftList_group_self (s : State) (i : Fin 32) :
    (s.leftList i).group (s.stream i).group = (s.group (s.stream i).group).removeMember i := setGroup_group_self _ _ _

theorem leftList_group_ne (s : State) (i : Fin 32) {h : Fin 16} (e : h ≠ (s.stream i).group) : (s.leftList i).group h = s.group h :=
  setGroup_group_ne _ _ e

theorem leftList_stream_self (s : State) (i : Fin 32) : (s.leftList i).stream i = .closed := setStream_stream_self s i _

theorem leftList_stream_ne (s : State) {i j : Fin 32} (e : j ≠ i) : (s.leftList i).stream j = s.stream j := setStream_stream_ne s _ e

theorem closeStream_stream (s : State) (i j : Fin 32) : (s.closeStream i).stream j = (s.departed i).stream j := rfl

theorem closeStream_group_self (s : State) (i : Fin 32) :
    (s.closeStream i).group (s.stream i).group = ((s.departed i).group (s.stream i).group).settleEmpty := setGroup_group_self _ _ _

theorem closeStream_group_ne (s : State) (i : Fin 32) {h : Fin 16} (e : h ≠ (s.stream i).group) :
    (s.closeStream i).group h = s.group h :=
  calc (s.closeStream i).group h = (s.departed i).group h := setGroup_group_ne _ _ e
    _ = (s.leftList i).group h := unanchorIfLeft_group_ne _ e
    _ = s.group h := leftList_group_ne s i e

theorem closeStream_stream_self (s : State) (i : Fin 32) : (s.closeStream i).stream i = .closed := by
  have self := leftList_stream_self s i
  rw [closeStream_stream, departed_eq, unanchorIfLeft_stream_of_dropped _ (by rw [self]; rfl) (by rw [self]; rfl), self]

/-- The record of a group whose list a stream has left (R47, R88). -/
theorem removeMember_eq (g : Group) (i : Fin 32) : g.removeMember i =
    { g with
      members := g.members.filter (fun j => j ≠ i), leadLast := if g.leadLast = some i then none else g.leadLast } := by
  have others : (fun j : Fin 32 => j != i) = fun j => decide (j ≠ i) := funext fun j => Bool.eq_iff_iff.mpr (by simp)
  rw [Group.removeMember, others]

theorem removeMember_members (g : Group) (i : Fin 32) : (g.removeMember i).members = g.members.filter (fun j => j ≠ i) :=
  congrArg Group.members (removeMember_eq g i)

theorem settleEmpty_eq (g : Group) : g.settleEmpty =
    { g with drift := if g.members = [] then 0 else g.drift, corr := if g.members = [] then 0 else g.corr } := by
  unfold Group.settleEmpty
  by_cases h : g.members = []
  · rw [if_pos (List.isEmpty_iff.mpr h), if_pos h, if_pos h]
  · rw [if_neg (mt List.isEmpty_iff.mp h), if_neg h, if_neg h]

/-- The group is held by a member of its list that the stream has left, or was UNANCHORED: the departure changes nothing more. -/
theorem departed_of_held {s : State} {i : Fin 32} (h : (s.group (s.stream i).group).anchored = false ∨
    ∃ j ∈ (s.group (s.stream i).group).members.filter (fun j => j ≠ i), (s.stream j).state.holdsTimeline = true) :
    s.departed i = s.leftList i := by
  rw [departed_eq]
  refine unanchorIfLeft_of_held ?_
  rw [leftList_group_self, removeMember_members]
  refine h.imp_right ?_
  rintro ⟨j, hj, hh⟩
  have other : j ≠ i := by simpa using (List.mem_filter.mp hj).2
  exact ⟨j, hj, by rw [leftList_stream_ne s other]; exact hh⟩

theorem departed_of_left {s : State} {i : Fin 32} (ha : (s.group (s.stream i).group).anchored = true)
    (h : ∀ j ∈ (s.group (s.stream i).group).members.filter (fun j => j ≠ i), (s.stream j).state.holdsTimeline = false) :
    s.departed i = (s.leftList i).unanchor (s.stream i).group := by
  rw [departed_eq]
  refine unanchorIfLeft_of_left (by rw [leftList_group_self]; exact ha) fun j hj => ?_
  rw [leftList_group_self, removeMember_members] at hj
  have other : j ≠ i := by simpa using (List.mem_filter.mp hj).2
  rw [leftList_stream_ne s other]
  exact h j hj

theorem departed_frame (s : State) (i : Fin 32) :
    s.departed i = { s with streams := (s.departed i).streams, groups := (s.departed i).groups } :=
  unanchorIfLeft_frame (s.leftList i) (s.stream i).group

theorem closeStream_frame (s : State) (i : Fin 32) : s.closeStream i =
    { s with
      streams := (s.closeStream i).streams, groups := (s.closeStream i).groups, flows := (s.closeStream i).flows
      slotsInUse := (s.closeStream i).slotsInUse, portA := (s.closeStream i).portA, portB := (s.closeStream i).portB } := by
  have closed : s.closeStream i = { s.departed i with
      groups := (s.closeStream i).groups, flows := (s.closeStream i).flows
      slotsInUse := (s.closeStream i).slotsInUse, portA := (s.closeStream i).portA, portB := (s.closeStream i).portB } := rfl
  rw [departed_frame] at closed
  exact closed

theorem closeStream_entryA_self (s : State) (i : Fin 32) :
    (s.closeStream i).flows.get (entryA i) = { s.flows.get (entryA i) with bound := false } := by
  rw [closeStream_flows, vset_get_ne _ _ (entryA_ne_entryB i i), vset_get_self]
  rfl

theorem closeStream_entryB_self (s : State) (i : Fin 32) :
    (s.closeStream i).flows.get (entryB i) = { s.flows.get (entryB i) with bound := false } := by
  rw [closeStream_flows, vset_get_self]
  rfl

theorem closeStream_entry_ne (s : State) {i : Fin 32} {j : Fin 64} (hA : j ≠ entryA i) (hB : j ≠ entryB i) :
    (s.closeStream i).flows.get j = s.flows.get j := by
  rw [closeStream_flows, vset_get_ne _ _ hB, vset_get_ne _ _ hA]

/-- What a stream's flows charge on a port, flow by flow (R31). -/
theorem chargeOn_elim (p : PortId) (load : Nat) (a b : Option Flow) : chargeOn p load a b =
    (a.elim 0 fun f => if f.port = p then load else 0) + b.elim 0 fun f => if f.port = p then load else 0 := by
  cases a <;> cases b <;> simp [chargeOn]

/-- Settles O32: the record, the Flow Table and the accounts first, then the group and its other members by whether one of those left
in its list holds the timeline. -/
theorem streamCloseReleasesWhatItHeld : Obligations.StreamCloseReleasesWhatItHeld := by
  rintro s i x g rest hn rfl rfl rfl
  refine ⟨fun h => take_refused hn rfl (serveStreamClose_closed h), fun ho => ?_⟩
  refine ⟨s.closeStream i, take_granted hn rfl (serveStreamClose_open ho), closeStream_stream_self s i,
    closeStream_entryA_self s i, closeStream_entryB_self s i, fun j hA hB => closeStream_entry_ne s hA hB, rfl, fun p => ?_,
    fun held => ?_, fun ha left => ?_, fun h e => closeStream_group_ne s i e, closeStream_frame s i⟩
  · rw [closeStream_port, ← chargeOn_elim]
    rfl
  · have departed := departed_of_held held
    constructor
    · rw [closeStream_group_self, departed, leftList_group_self, removeMember_eq, settleEmpty_eq]
    · intro j e
      rw [closeStream_stream, departed, leftList_stream_ne s e]
  · have departed := departed_of_left ha left
    constructor
    · rw [closeStream_group_self, departed, unanchor_group_self, leftList_group_self, removeMember_eq, settleEmpty_eq]
      rfl
    · intro j e
      rw [closeStream_stream, departed, unanchor_stream, leftList_group_self, removeMember_members, leftList_stream_ne s e]
      rfl

end Sys2Proof.Machine
end

section
/-! SUPPORT. What STREAM_QUERY, STREAM_CLOCK, GROUP_QUERY and GROUP_CLOCK report, item by item (R41, R51, R105, R106, R178); and O33. -/

namespace Sys2Proof.Machine

/-! ## The items of a report -/

theorem flowBytes_eq (f : Option Flow) : Flow.bytes? f = match f with
    | some f => [1, byteOf (portNumber f.port)] ++ be16 f.flowId.toNat
    | none => [0, 0, 0, 0] := by
  cases f with
  | none => rfl
  | some f => rfl

theorem originBytes_eq (o : Option (Word × Word)) : originBytes o = match o with
    | some o => [1] ++ beWord o.1 ++ beWord o.2
    | none => List.replicate 9 0 := by
  cases o with
  | none => rfl
  | some o => rfl

theorem resumeBytes_eq (r : Option Resume) : Resume.bytes? r = match r with
    | some r => [1] ++ beWord (r.lastReal.elim 0 (·.1)) ++ beWord (r.lastReal.elim 0 (·.2)) ++ beWord r.nextExpected ++ beWord r.hbc
    | none => List.replicate 17 0 := by
  cases r with
  | none => rfl
  | some r => rfl

theorem windowBytes_eq (w : Option (Word × Nat)) : windowBytes w = match w with
    | some w => [1] ++ beWord w.1 ++ be32 w.2
    | none => List.replicate 9 0 := by
  cases w with
  | none => rfl
  | some w => rfl

theorem counterBytes_eq (c : StreamCounters) : c.bytes =
    [c.firstA, c.firstB, c.duplicates, c.late, c.early, c.afterEnd, c.formatMismatch, c.timelineRejects, c.pairMismatches, c.pairOff,
      c.missing, c.skipped, c.outages].flatMap beWord := by
  simp only [StreamCounters.bytes, List.flatMap_cons, List.flatMap_nil, List.append_nil, List.append_assoc]

theorem reportBytes_eq (r : Option WindowReport) : reportBytes r = match r with
    | none => ([0] : List Byte) ++ be32 0 ++ [0, 0] ++ be32 0 ++ List.replicate 5 0 ++ [0] ++ be32 0 ++ List.replicate 5 0 ++ be32 0 ++ be32 0 ++
        [0] ++ List.replicate 5 0
    | some r => ([1] : List Byte) ++ beWord r.number ++ optStream r.lead ++ be32 r.members.length ++
        r.members.flatMap (fun m => [byteOf m.1.val] ++ optWord m.2) ++ optInt r.delta ++ [if r.step then 1 else 0] ++
        beInt r.drift ++ optInt r.e ++ beInt r.adj ++ beInt r.corr ++ [r.dir.code] ++ optNat r.interval := by
  cases r with
  | none => rfl
  | some r => simp only [reportBytes, WindowReport.bytes, beFlag, List.append_assoc]; rfl

/-! ## The requests as they are served -/

theorem serveStreamQuery_eq (s : State) (i : Fin 32) : serveStreamQuery s [byteOf i.val] = .ok (s, s.streamReport i) := by
  simp only [serveStreamQuery, toFin?_stream]

theorem serveStreamClock_eq (s : State) (i : Fin 32) : serveStreamClock s [byteOf i.val] = .ok (s,
    [(s.stream i).state.code, byteOf (s.stream i).group.val] ++ beFlag (s.group (s.stream i).group).anchored ++
      beWord ((s.group (s.stream i).group).window.elim 0 (·.1)) ++ optWord (s.stream i).clock.last ++
      optWord (s.stream i).clock.current ++ beWord (s.stream i).clock.transits) := by
  simp only [serveStreamClock, toFin?_stream]

theorem serveGroupQuery_eq (s : State) (i : Fin 16) : serveGroupQuery s [byteOf i.val] = .ok (s, (s.group i).queryReport) := by
  simp only [serveGroupQuery, toFin?_group]

theorem serveGroupClock_eq (s : State) (i : Fin 16) : serveGroupClock s [byteOf i.val] = .ok (s, (s.group i).clockReport) := by
  simp only [serveGroupClock, toFin?_group]

/-- Every request of one stream refuses a number above 31 (R24, R106). -/
theorem streamRequests_notFound (s : State) {b : Byte} (h : 32 ≤ b.toNat) : serveStreamQuery s [b] = .error .notFound ∧
    serveStreamClock s [b] = .error .notFound ∧ serveStreamStop s [b] = .error .notFound ∧
    serveStreamClose s [b] = .error .notFound := by
  simp only [serveStreamQuery, serveStreamClock, serveStreamStop, serveStreamClose, toFin?_beyond h, and_self]

/-- Every request of one group refuses a number above 15 (R51, R59, R105). -/
theorem groupRequests_notFound (s : State) {b : Byte} (h : 16 ≤ b.toNat) : serveGroupQuery s [b] = .error .notFound ∧
    serveGroupClock s [b] = .error .notFound ∧ serveGroupRecentre s [b] = .error .notFound := by
  simp only [serveGroupQuery, serveGroupClock, serveGroupRecentre, toFin?_beyond h, and_self]

/-- Settles O33: the codes and the present flags, then each report item by item, then the numbers out of range. -/
theorem streamAndGroupQueriesReportTheRecords : Obligations.StreamAndGroupQueriesReportTheRecords := by
  refine ⟨⟨⟨rfl, rfl, rfl, rfl⟩, ⟨rfl, rfl, rfl, rfl⟩, fun w n v i => ⟨rfl, rfl, rfl, rfl⟩⟩, ?_, ?_⟩
  · rintro s i b x g rfl rfl
    refine ⟨fun hn => ?_, fun hn => ?_, fun hb => ?_⟩
    · refine (take_granted hn rfl (serveStreamQuery_eq s i)).trans ?_
      simp only [State.streamReport, State.placeOf, flowBytes_eq, originBytes_eq, resumeBytes_eq, counterBytes_eq, beFlag,
        List.append_assoc]
      rfl
    · exact take_granted hn rfl (serveStreamClock_eq s i)
    · obtain ⟨query, clock, stop, close⟩ := streamRequests_notFound s hb
      exact ⟨fun hn => take_refused hn rfl query, fun hn => take_refused hn rfl clock,
        fun hn => take_refused hn rfl stop, fun hn => take_refused hn rfl close⟩
  · rintro s i b g window totals rfl rfl rfl
    refine ⟨fun hn => ?_, fun hn => ?_, fun hb => ?_⟩
    · refine (take_granted hn rfl (serveGroupQuery_eq s i)).trans ?_
      simp only [Group.queryReport, Group.totals, windowBytes_eq, beFlag, List.append_assoc]
      rfl
    · refine (take_granted hn rfl (serveGroupClock_eq s i)).trans ?_
      simp only [Group.clockReport, Group.totals, windowBytes_eq, reportBytes_eq, beFlag, List.append_assoc]
      rfl
    · obtain ⟨query, clock, recentre⟩ := groupRequests_notFound s hb
      exact ⟨fun hn => take_refused hn rfl query, fun hn => take_refused hn rfl clock,
        fun hn => take_refused hn rfl recentre⟩

end Sys2Proof.Machine
end

section
/-! SUPPORT. The clock states of a group's members through stages 2 and 3 of a boundary (R54, R86), the group stages taken one group at
a time, and the window end (R87, R89, R95, R96); and O37. -/

namespace Sys2Proof.Machine

/-! ## The clock state of a stream that is drawn (R86) -/

/-- A record loses its current minimum when it ends, keeps its clock state otherwise, and stays ENDED. -/
structure Stream.DropsAtEnd (x y : Stream) : Prop where
  ended : x.state = .ended → y.state = .ended
  clock : y.clock = if x.state ≠ .ended ∧ y.state = .ended then x.clock.drop else x.clock

namespace Stream.DropsAtEnd

theorem of_iff {x y : Stream} (hs : y.state = .ended ↔ x.state = .ended) (hc : y.clock = x.clock) : x.DropsAtEnd y :=
  ⟨hs.mpr, by rw [hc, if_neg fun h => h.1 (hs.mp h.2)]⟩

theorem same {x y : Stream} (hs : y.state = x.state) (hc : y.clock = x.clock) : x.DropsAtEnd y := of_iff (by rw [hs]) hc

theorem refl (x : Stream) : x.DropsAtEnd x := same rfl rfl

theorem at_end {x y : Stream} (hx : x.state ≠ .ended) (hy : y.state = .ended) (hc : y.clock = x.clock.drop) : x.DropsAtEnd y :=
  ⟨fun _ => hy, by rw [hc, if_pos ⟨hx, hy⟩]⟩

theorem trans {x y z : Stream} (h : x.DropsAtEnd y) (k : y.DropsAtEnd z) : x.DropsAtEnd z where
  ended := k.ended ∘ h.ended
  clock := by
    rw [k.clock, h.clock]
    by_cases hx : x.state = .ended
    · simp [hx, h.ended hx]
    · by_cases hy : y.state = .ended
      · simp [hx, hy, k.ended hy]
      · simp [hx, hy]

/-- In one timeline a record ends when it is drawn, and only then. -/
theorem clock_of_leadsTo {x y : Stream} (h : x.DropsAtEnd y) (k : x.state.LeadsTo y.state) :
    y.clock = if x.state.drawn = true ∧ y.state = .ended then x.clock.drop else x.clock := by
  have ends : (x.state ≠ .ended ∧ y.state = .ended) ↔ (x.state.drawn = true ∧ y.state = .ended) := by
    refine and_congr_left fun hy => ?_
    have holds : x.state.holdsTimeline = true := by rw [← k.holds, hy]; rfl
    cases hx : x.state with
    | closed | ready | acquiring => rw [hx] at holds; cases holds
    | primed | playing | outage | draining | ended => decide
  rw [h.clock, if_congr ends rfl rfl]

end Stream.DropsAtEnd

theorem resumeState_ended (x : Stream) : x.resumeState = .ended ↔ x.state = .ended := by
  unfold Stream.resumeState
  cases x.state with
  | outage => dsimp only; split <;> exact iff_of_false nofun nofun
  | closed | ready | acquiring | primed | playing | draining | ended => exact Iff.rfl

theorem serveFilled_drops (a : DrawAcc) (i : Fin 32) (b : Block) (n : Nat) : a.x.DropsAtEnd (a.serveFilled i b n).x :=
  .of_iff (resumeState_ended a.x) rfl

theorem serveConcealed_drops (a : DrawAcc) (q : Word) (n : Nat) : a.x.DropsAtEnd (a.serveConcealed q n).x := .same rfl rfl

theorem declareMissing_drops (x : Stream) (q : Word) : x.DropsAtEnd (x.declareMissing q) := .same rfl rfl

theorem serveMissing_drops (a : DrawAcc) (i : Fin 32) (hbc : Word) (limit : Nat) (q : Word) (n : Nat) :
    a.x.DropsAtEnd (a.serveMissing i hbc limit q n).x := by
  have declared := declareMissing_drops a.x q
  unfold DrawAcc.serveMissing
  dsimp only
  split
  · split
    next h => exact declared.trans (.of_iff (by rw [h]; exact iff_of_false nofun nofun) rfl)
    next h => exact declared.trans (.at_end (by rw [h]; decide) rfl rfl)
    · exact declared.trans (serveConcealed_drops { a with x := a.x.declareMissing q } q n)
  · exact declared.trans (serveConcealed_drops { a with x := a.x.declareMissing q } q n)

theorem serve_drops (a : DrawAcc) (i : Fin 32) (hbc : Word) (limit : Nat) (pos : Int) :
    a.x.DropsAtEnd (a.serve i hbc limit pos).x := by
  unfold DrawAcc.serve
  split
  · exact .same rfl rfl
  split
  · exact .same rfl rfl
  split
  · split
    · exact serveFilled_drops _ _ _ _
    · exact serveMissing_drops _ _ _ _ _ _
  · split
    · exact serveConcealed_drops _ _ _
    · exact serveMissing_drops _ _ _ _ _ _
  · exact serveMissing_drops _ _ _ _ _ _

theorem omitted_drops (a : DrawAcc) (pos : Int) : a.x.DropsAtEnd (a.omitted pos).x := by
  unfold DrawAcc.omitted
  split
  · exact .refl _
  split
  · exact .refl _
  split
  · split
    · split
      · exact .same rfl rfl
      · exact .refl _
    · split
      · exact .same rfl rfl
      · exact .refl _
    · exact .refl _
  · exact .refl _

/-- What each step of a fold keeps, the whole fold keeps. -/
theorem foldl_rel {α β : Type} {R : β → β → Prop} (refl : ∀ a, R a a) (trans : ∀ {a b c}, R a b → R b c → R a c)
    {f : β → α → β} {l : List α} (step : ∀ a, ∀ k ∈ l, R a (f a k)) (a : β) : R a (l.foldl f a) := by
  induction l generalizing a with
  | nil => exact refl a
  | cons k l ih => exact trans (step a k List.mem_cons_self) (ih (fun b m hm => step b m (List.mem_cons_of_mem k hm)) (f a k))

theorem visit_drops (x : Stream) (ctx : DrawContext) (i : Fin 32) (pos : Int) : x.DropsAtEnd (x.visit ctx i pos).x := by
  have step (a : DrawAcc) (k : Nat) : a.x.DropsAtEnd (DrawAcc.step ctx i pos a k).x := by
    unfold DrawAcc.step
    split
    · exact omitted_drops _ _
    · exact serve_drops _ _ _ _ _
  exact foldl_rel (R := fun a b : DrawAcc => a.x.DropsAtEnd b.x) (fun a => .refl a.x) .trans (fun a k _ => step a k)
    { x := x, posts := [], out := [], completed := [], firstArrival := none, halted := false }

theorem release_drops (x : Stream) (qs : List Word) : x.DropsAtEnd (x.release qs) :=
  have step (y : Stream) (q : Word) : y.DropsAtEnd { y.setSlot q .empty with ePlay := some (q + 1) } := .same rfl rfl
  foldl_rel Stream.DropsAtEnd.refl .trans (fun y q _ => step y q) x

theorem afterDraw_drops (x : Stream) (i : Fin 32) (hbc : Word) (last : Int) (completed : List Word) (first : Option Word) :
    x.DropsAtEnd (x.afterDraw i hbc last completed first).1 := by
  unfold Stream.afterDraw
  split
  next h =>
    split
    · exact .of_iff (by rw [h]; exact iff_of_false nofun nofun) rfl
    · exact .refl _
  next h =>
    split
    · exact .at_end (by rw [h]; decide) rfl rfl
    · exact .refl _
  · exact .refl _

theorem headroomTest_drops (x : Stream) (i : Fin 32) (warning : Nat) (next : Int) :
    x.DropsAtEnd (x.headroomTest i warning next).1 := by
  unfold Stream.headroomTest
  split
  · dsimp only
    split
    · exact .same rfl rfl
    · split
      · exact .same rfl rfl
      · exact .refl _
  · exact .refl _

/-- The draw of a stream takes its current minimum exactly when it ends it. -/
theorem draw_drops (x : Stream) (ctx : DrawContext) (i : Fin 32) (pos : Int) : x.DropsAtEnd (x.draw ctx i pos).1 := by
  have moved := ((visit_drops x ctx i pos).trans (release_drops _ (x.visit ctx i pos).completed)).trans
    (afterDraw_drops _ i ctx.hbc (pos + ctx.slip.sources - 1) (x.visit ctx i pos).completed (x.visit ctx i pos).firstArrival)
  have cleared (y : Stream) (last : Int) : y.DropsAtEnd (y.clearServedTo last) := .same rfl rfl
  exact (moved.trans (cleared _ _)).trans (headroomTest_drops _ i ctx.warning _)

theorem passOver_drops (x : Stream) (hi : Word) : x.DropsAtEnd (x.passOver hi) := by
  unfold Stream.passOver
  dsimp only
  split
  · exact .same rfl rfl
  · exact .refl _

theorem recentreForward_drops (x : Stream) (i : Fin 32) (stop adj : Int) : x.DropsAtEnd (x.recentreForward i stop adj).1 := by
  unfold Stream.recentreForward
  dsimp only
  split
  next he =>
    have passed := passOver_drops x (x.endSeq.getD 0 + 1)
    have notEnded : (x.passOver (x.endSeq.getD 0 + 1)).state ≠ .ended := by
      have drawn := drawn_of_endPassed he
      have same : (x.passOver (x.endSeq.getD 0 + 1)).state = x.state := by
        unfold Stream.passOver
        dsimp only
        split <;> rfl
      rw [same]
      intro e
      rw [e] at drawn
      cases drawn
    exact passed.trans (.at_end notEnded rfl rfl)
  · split
    · exact .same rfl rfl
    · exact (passOver_drops x _).trans (.same rfl rfl)

/-- A recentre takes a stream's current minimum exactly when it ends it. -/
theorem recentre_drops (x : Stream) (i : Fin 32) (stop adj : Int) : x.DropsAtEnd (x.recentre i stop adj).1 := by
  unfold Stream.recentre
  split
  · exact .refl _
  split
  · exact recentreForward_drops x i stop adj
  · exact .same rfl rfl

/-! ## Stages 1 to 4 of a group (R54) -/

/-- The state that stages 1 to 4 of a group leave at a boundary. -/
def State.stage4 (s : State) (g : Fin 16) : State :=
  let t := ((s.drawGroup g).1.setGroup g (s.group g).slipDecision.1).recentreGroup g (s.group g)
  t.setGroup g ((t.group g).applySlip (s.group g).slipDecision.2)

theorem groupBoundary_eq {s : State} {g : Fin 16} (h : (s.group g).anchored = true) :
    (s.groupBoundary g).1 = (s.stage4 g).advanceWindow g := by
  simp only [State.groupBoundary, h, if_true]
  rfl

theorem stage4_group_self (s : State) (g : Fin 16) : (s.stage4 g).group g = (s.group g).afterStage4 := by
  simp only [State.stage4, setGroup_group_self, recentreGroup_group_self]
  rfl

theorem stage4_change (s : State) (g : Fin 16) : s.DrawChange (s.stage4 g) :=
  (((drawGroup_change s g).setGroup g _).trans (recentreGroup_change _ g _)).setGroup g _

theorem stage4_stands (s : State) (g : Fin 16) : s.Stands (s.stage4 g) :=
  have drawn : s.Stands (s.drawGroup g).1 := drawMembers_stands _ _ _ (s, [])
  drawn.trans (recentreGroup_stands ((s.drawGroup g).1.setGroup g (s.group g).slipDecision.1) g (s.group g))

/-- Two states agree on a stream. -/
def State.SameStream (j : Fin 32) (s t : State) : Prop := t.stream j = s.stream j

theorem State.SameStream.trans {j : Fin 32} {s t u : State} (h : s.SameStream j t) (k : t.SameStream j u) : s.SameStream j u :=
  Eq.trans k h

theorem State.SameStream.setStream {i j : Fin 32} (s : State) (x : Stream) (h : j ≠ i) : s.SameStream j (s.setStream i x) :=
  setStream_stream_ne s x h

/-- Every stream loses its current minimum when it ends, and keeps its clock state otherwise. -/
def State.DropsAtEnd (s t : State) : Prop := ∀ i, (s.stream i).DropsAtEnd (t.stream i)

theorem State.DropsAtEnd.refl (s : State) : s.DropsAtEnd s := fun _ => .refl _

theorem State.DropsAtEnd.trans {s t u : State} (h : s.DropsAtEnd t) (k : t.DropsAtEnd u) : s.DropsAtEnd u :=
  fun i => (h i).trans (k i)

theorem State.DropsAtEnd.setStream {s : State} {i : Fin 32} {y : Stream} (h : (s.stream i).DropsAtEnd y) :
    s.DropsAtEnd (s.setStream i y) := fun j => by
  by_cases e : j = i
  · subst e; rw [setStream_stream_self]; exact h
  · rw [setStream_stream_ne _ _ e]; exact .refl _

theorem drawMember_drops (ctx : DrawContext) (q : Word) (a : State × List (Fin 32 × Drawn)) (i : Fin 32) :
    a.1.DropsAtEnd (drawMember ctx q a i).1 := by
  unfold drawMember
  dsimp only
  split
  · exact State.DropsAtEnd.setStream (draw_drops _ ctx i _)
  · exact .refl _

theorem recentreMember_drops (ctx : DrawContext) (q : Word) (adj : Int) (s : State) (i : Fin 32) :
    s.DropsAtEnd (recentreMember ctx q adj s i) := by
  unfold recentreMember
  dsimp only
  split
  · exact State.DropsAtEnd.setStream (recentre_drops _ i _ adj)
  · exact .refl _

theorem drawMember_stream_ne (ctx : DrawContext) (q : Word) (a : State × List (Fin 32 × Drawn)) {i j : Fin 32} (h : j ≠ i) :
    a.1.SameStream j (drawMember ctx q a i).1 := by
  unfold drawMember
  dsimp only
  split
  · exact .setStream a.1 _ h
  · rfl

theorem recentreMember_stream_ne (ctx : DrawContext) (q : Word) (adj : Int) (s : State) {i j : Fin 32} (h : j ≠ i) :
    s.SameStream j (recentreMember ctx q adj s i) := by
  unfold recentreMember
  dsimp only
  split
  · exact .setStream s _ h
  · rfl

/-- What every draw and every recentre of a member keeps of the streams, stages 1 to 4 keep. -/
theorem stage4_rel {R : State → State → Prop} (refl : ∀ s, R s s) (trans : ∀ {s t u}, R s t → R t u → R s u)
    (streams : ∀ {s t}, t.streams = s.streams → R s t) (s : State) (g : Fin 16)
    (draws : ∀ (ctx : DrawContext) (q : Word) (a : State × List (Fin 32 × Drawn)), ∀ i ∈ (s.group g).members,
      R a.1 (drawMember ctx q a i).1)
    (recentres : ∀ (ctx : DrawContext) (q : Word) (adj : Int) (t : State), ∀ i ∈ (s.group g).members,
      R t (recentreMember ctx q adj t i)) : R s (s.stage4 g) := by
  have drawn : R s (s.drawGroup g).1 := foldl_rel (R := fun a b : State × List (Fin 32 × Drawn) => R a.1 b.1)
    (fun a => refl a.1) trans (fun a i hi => draws _ _ a i hi) (s, [])
  have recentred (t : State) : R t (t.recentreGroup g (s.group g)) := by
    unfold State.recentreGroup
    split
    · exact refl t
    · exact trans (foldl_rel refl trans (fun u i hi => recentres _ _ _ u i hi) t) (streams rfl)
  have decided (t : State) (x : Group) : R t (t.setGroup g x) := streams rfl
  exact trans (trans (trans drawn (decided _ _)) (recentred _)) (decided _ _)

theorem stage4_drops (s : State) (g : Fin 16) : s.DropsAtEnd (s.stage4 g) :=
  stage4_rel .refl .trans (fun h i => .same (by simp only [State.stream, h]) (by simp only [State.stream, h])) s g
    (fun ctx q a i _ => drawMember_drops ctx q a i) (fun ctx q adj t i _ => recentreMember_drops ctx q adj t i)

theorem stage4_stream_notin {s : State} {g : Fin 16} {j : Fin 32} (h : j ∉ (s.group g).members) : s.SameStream j (s.stage4 g) :=
  have other {i : Fin 32} (hi : i ∈ (s.group g).members) : j ≠ i := fun e => h (e ▸ hi)
  stage4_rel (R := State.SameStream j) (fun _ => rfl) .trans (fun h => by simp only [State.SameStream, State.stream, h]) s g
    (fun ctx q a _ hi => drawMember_stream_ne ctx q a (other hi)) (fun ctx q adj t _ hi => recentreMember_stream_ne ctx q adj t (other hi))

/-! ## The record after stages 1 to 4 -/

theorem advanceSlip_eq : ∀ v : BitVec 6, advanceSlip v = v.truncate 5 ++ BitVec.ofBool (v.getLsbD 5 ^^ v.getLsbD 4) := by decide

/-- A slip is due when a direction stands and the countdown is at its last (R97). -/
theorem slipDue_iff (g : Group) : g.slipDue = (decide (g.dir ≠ .steady) && decide (g.countdown ≤ 1)) := by
  unfold Group.slipDue
  cases g.dir <;> rfl

/-- Stage 1 on the record (R97, R98). -/
theorem slipDecision_record (g : Group) : g.slipDecision.1 =
    { g with
      lfsr := if g.slipDue then advanceSlip g.lfsr else g.lfsr
      countdown := if g.dir = .steady then g.countdown else if g.slipDue then g.interval.getD 0 else g.countdown - 1 } := by
  unfold Group.slipDecision
  rw [slipDue_iff]
  cases hd : g.dir with
  | steady => simp [← hd]
  | repeating => by_cases hc : g.countdown ≤ 1 <;> simp [hc]
  | dropping => by_cases hc : g.countdown ≤ 1 <;> simp [hc]

/-- Stage 3 on a record (R60). -/
theorem recentred_record (g x : Group) (h : x.pending = g.pending) :
    g.pending.elim x x.applyRecentre =
    { x with
      q := x.q.map (· - word (g.pending.getD 0))
      recentres := if g.pending = none then x.recentres else x.recentres + 1
      adjSum := x.adjSum + word (g.pending.getD 0)
      pending := none } := by
  cases hp : g.pending with
  | none =>
    have absent : { x with pending := none } = x := by rw [← h.trans hp]
    have zero : word 0 = 0 := rfl
    simp [zero, absent]
  | some adj => simp [Group.applyRecentre]

/-- Stage 4 on a record (R101). -/
theorem slipped_record (g x : Group) : x.applySlip g.slipDecision.2 =
    { x with
      q := x.q.map (· + (if g.slipDue then (if g.dir = .repeating then 1 else -1) else 0))
      repeats := if g.slipDue ∧ g.dir = .repeating then x.repeats + 1 else x.repeats
      drops := if g.slipDue ∧ g.dir = .dropping then x.drops + 1 else x.drops } := by
  unfold Group.slipDecision
  rw [slipDue_iff]
  cases hd : g.dir with
  | steady => simp [Group.applySlip]
  | repeating => by_cases hc : g.countdown ≤ 1 <;> simp [hc, Group.applySlip]
  | dropping => by_cases hc : g.countdown ≤ 1 <;> simp [hc, Group.applySlip, BitVec.sub_eq_add_neg]

/-- The record that stages 1, 3 and 4 leave: Q takes the recentre and the slip with their totals, and stage 1 the countdown and the
LFSR (R54, R60, R97, R98, R101). -/
theorem afterStage4_eq (g : Group) : g.afterStage4 =
    { g with
      q := g.q.map fun q => q - word (g.pending.getD 0) + (if g.slipDue then (if g.dir = .repeating then 1 else -1) else 0)
      repeats := if g.slipDue ∧ g.dir = .repeating then g.repeats + 1 else g.repeats
      drops := if g.slipDue ∧ g.dir = .dropping then g.drops + 1 else g.drops
      recentres := if g.pending = none then g.recentres else g.recentres + 1
      adjSum := g.adjSum + word (g.pending.getD 0)
      pending := none
      lfsr := if g.slipDue then advanceSlip g.lfsr else g.lfsr
      countdown := if g.dir = .steady then g.countdown else if g.slipDue then g.interval.getD 0 else g.countdown - 1 } := by
  have staged : g.afterStage4 = (g.pending.elim g.slipDecision.1 g.slipDecision.1.applyRecentre).applySlip g.slipDecision.2 := by
    unfold Group.afterStage4
    cases g.pending <;> rfl
  rw [staged, recentred_record g _ (by rw [slipDecision_record]), slipped_record, slipDecision_record]
  simp only [Option.map_map]
  rfl

theorem afterStage4_members (g : Group) : g.afterStage4.members = g.members := by rw [afterStage4_eq]

theorem afterStage4_window (g : Group) : g.afterStage4.window = g.window := by rw [afterStage4_eq]

/-- The delta of a window rests on the lead and the report of the window before, which stages 1 to 4 leave (R88). -/
theorem afterStage4_delta (g : Group) (mins : List (Fin 32 × Option Word)) : g.afterStage4.delta mins = g.delta mins := by
  rw [afterStage4_eq]
  rfl

/-! ## The window end -/

theorem advanceWindow_at_end {s : State} {g : Fin 16} {n : Word} {k : Nat} (h : (s.group g).window = some (n, k)) (hk : 999 ≤ k) :
    s.advanceWindow g = s.windowEnd g n := by
  have ends : ¬k + 1 < Config.windowBlocks := by simp only [Config.windowBlocks]; omega
  simp only [State.advanceWindow, h, if_neg ends]

theorem windowEnd_group_self (s : State) (g : Fin 16) (n : Word) :
    (s.windowEnd g n).group g = (s.group g).windowEnd n (s.memberMinima g) := setGroup_group_self _ _ _

/-- A stream's record after a window end: a member's clock state rolls over and its window pair mismatch count clears (R95). -/
theorem windowEnd_stream (s : State) (g : Fin 16) (n : Word) (j : Fin 32) : (s.windowEnd g n).stream j =
    if j ∈ (s.group g).members then { s.stream j with clock := (s.stream j).clock.roll, windowMismatches := 0 } else s.stream j := by
  have mapped := mapMembers_stream s g (fun x => { x with clock := x.clock.roll, windowMismatches := 0 }) j
  simp only [List.contains_iff_mem] at mapped
  exact mapped

theorem windowEnd_notices (s : State) (g : Fin 16) (n : Word) : (s.windowEnd g n).notices =
    s.notices.postAll s.clock.hbc ((s.group g).windowEndPosts g.val (s.memberMinima g)) := rfl

/-- A delta above 10 samples posts STEP (R89). -/
theorem step_mem_windowEndPosts {g : Group} {number : Nat} {mins : List (Fin 32 × Option Word)} {x : Int} (h : g.delta mins = some x)
    (hx : 10 < x.natAbs) : { kind := .step, subject := number, detail := x } ∈ g.windowEndPosts number mins := by
  simp only [Group.windowEndPosts, h, isStep, decide_eq_true hx, if_true, List.mem_singleton]

/-! ## The groups of a boundary, one at a time -/

theorem groupBoundary_members (s : State) (g h : Fin 16) : ((s.groupBoundary g).1.group h).members = (s.group h).members := by
  by_cases e : h = g
  · subst e
    by_cases ha : (s.group h).anchored = true
    · obtain ⟨mins, hm⟩ := groupBoundary_group_self s h ha
      rw [hm, (afterBoundary_same _ _).1]
    · rw [groupBoundary_group_unanchored s h (by simpa using ha)]
  · rw [groupBoundary_group_ne s e]

/-- A group's boundary work leaves the streams outside its list. -/
theorem groupBoundary_stream_notin {s : State} {g : Fin 16} {j : Fin 32} (h : j ∉ (s.group g).members) :
    (s.groupBoundary g).1.stream j = s.stream j := by
  by_cases ha : (s.group g).anchored = true
  · have staged : (s.stage4 g).stream j = s.stream j := stage4_stream_notin h
    have outside : j ∉ ((s.stage4 g).group g).members := by rwa [stage4_group_self, afterStage4_members]
    rw [groupBoundary_eq ha, ← staged]
    unfold State.advanceWindow
    dsimp only
    split
    · rfl
    · split
      · rfl
      · rw [windowEnd_stream, if_neg outside]
  · rw [groupBoundary_group_unanchored s g (by simpa using ha)]

/-- The boundary work of some groups, in order. -/
def State.throughGroups (s : State) (gs : List (Fin 16)) : State := gs.foldl (fun t g => (t.groupBoundary g).1) s

theorem groupsBoundary_eq (s : State) : s.groupsBoundary.1 = s.throughGroups (List.finRange 16) :=
  (List.foldl_hom Prod.fst fun _ _ => rfl).symm

theorem throughGroups_change (s : State) (gs : List (Fin 16)) : s.DrawChange (s.throughGroups gs) :=
  foldl_rel State.DrawChange.refl .trans (fun t g _ => groupBoundary_change t g) s

theorem throughGroups_group_notin (s : State) {gs : List (Fin 16)} {h : Fin 16} (hh : h ∉ gs) :
    (s.throughGroups gs).group h = s.group h :=
  foldl_rel (R := fun t u : State => u.group h = t.group h) (fun _ => rfl) (fun e f => f.trans e)
    (fun _ _ hg => groupBoundary_group_ne _ fun e => hh (e ▸ hg)) s

theorem throughGroups_members (s : State) (gs : List (Fin 16)) (h : Fin 16) :
    ((s.throughGroups gs).group h).members = (s.group h).members :=
  foldl_rel (R := fun t u : State => (u.group h).members = (t.group h).members) (fun _ => rfl) (fun e f => f.trans e)
    (fun t g _ => groupBoundary_members t g h) s

/-- The boundary work of some groups leaves a stream that stands in the list of none of them. -/
theorem throughGroups_stream_notin (s : State) {gs : List (Fin 16)} {j : Fin 32} (h : ∀ g ∈ gs, j ∉ (s.group g).members) :
    (s.throughGroups gs).stream j = s.stream j := by
  induction gs generalizing s with
  | nil => rfl
  | cons g gs ih =>
    have rest : ∀ k ∈ gs, j ∉ ((s.groupBoundary g).1.group k).members := fun k hk => by
      rw [groupBoundary_members]
      exact h k (List.mem_cons_of_mem g hk)
    exact (ih (s.groupBoundary g).1 rest).trans (groupBoundary_stream_notin (h g List.mem_cons_self))

/-- A group's boundary work stands between that of the groups before it and that of the groups after it. -/
theorem groupsBoundary_split (s : State) (g : Fin 16) : ∃ before after, g ∉ before ∧ g ∉ after ∧
    s.groupsBoundary.1 = ((s.throughGroups before).groupBoundary g).1.throughGroups after := by
  obtain ⟨before, after, e⟩ := List.append_of_mem (List.mem_finRange g)
  have once := List.nodup_finRange 16
  rw [e, List.nodup_middle, List.nodup_cons, List.mem_append, not_or] at once
  refine ⟨before, after, once.1.1, once.1.2, ?_⟩
  rw [groupsBoundary_eq, e, State.throughGroups, List.foldl_append, List.foldl_cons]
  rfl

/-- A stream stands in no list but its own group's. -/
theorem State.MembershipOk.notin {s : State} (h : s.MembershipOk) {g k : Fin 16} {j : Fin 32} (hj : j ∈ (s.group g).members)
    (hk : k ≠ g) : j ∉ (s.group k).members := fun e => hk (((h.listed k j).mp e).2.symm.trans ((h.listed g j).mp hj).2)

/-- The window end of a group whose earlier stages changed streams, groups and notices alone posts its notices (R89). -/
theorem windowEnd_posted {s u : State} (h : s.DrawChange u) (g : Fin 16) (n : Word) {p : Post}
    (hp : p ∈ (u.group g).windowEndPosts g.val (u.memberMinima g)) : s.Posted (u.windowEnd g n) s.clock.hbc p := by
  obtain ⟨ps, e⟩ := h
  have notices : u.notices = s.notices.postAll s.clock.hbc ps := by rw [e]
  have clock : u.clock = s.clock := by rw [e]
  exact ⟨ps ++ _, List.mem_append_right ps hp, by rw [windowEnd_notices, notices, clock, postAll_append]⟩

/-- A notice posted by an earlier stage stays among those posted. -/
theorem State.Posted.then_change {s t u : State} {p : Post} (h : s.Posted t s.clock.hbc p) (k : t.DrawChange u)
    (hc : t.clock = s.clock) : s.Posted u s.clock.hbc p := by
  obtain ⟨ps, hp, e⟩ := h
  obtain ⟨qs, later⟩ := k
  exact ⟨ps ++ qs, List.mem_append_left qs hp, by rw [later, e, hc, postAll_append]⟩

/-- One group's part of a boundary, its window ending there: the state `u` that its stages 1 to 4 leave, with the group's record, the
members' streams before those stages, after them and at the end, and the notices of the window end. -/
theorem groupsBoundary_windowEnd {s : State} {g : Fin 16} {n : Word} {k : Nat} (ha : (s.group g).anchored = true)
    (hw : (s.group g).window = some (n, k)) (hk : 999 ≤ k) (hm : s.MembershipOk) : ∃ u : State,
    u.group g = (s.group g).afterStage4 ∧ s.groupsBoundary.1.group g = (s.group g).afterStage4.windowEnd n (u.memberMinima g) ∧
    (∀ j ∈ (s.group g).members, (s.stream j).DropsAtEnd (u.stream j) ∧ (s.stream j).Stands (u.stream j) ∧
      s.groupsBoundary.1.stream j = { u.stream j with clock := (u.stream j).clock.roll, windowMismatches := 0 }) ∧
    ∀ p ∈ (s.group g).afterStage4.windowEndPosts g.val (u.memberMinima g), s.Posted s.groupsBoundary.1 s.clock.hbc p := by
  obtain ⟨before, after, hbefore, hafter, split⟩ := groupsBoundary_split s g
  have own : (s.throughGroups before).group g = s.group g := throughGroups_group_notin s hbefore
  obtain ⟨u, hu⟩ : ∃ u, u = (s.throughGroups before).stage4 g := ⟨_, rfl⟩
  have staged : u.group g = (s.group g).afterStage4 := by rw [hu, stage4_group_self, own]
  have worked : ((s.throughGroups before).groupBoundary g).1 = u.windowEnd g n := by
    rw [groupBoundary_eq (by rw [own]; exact ha), ← hu]
    exact advanceWindow_at_end (by rw [staged, afterStage4_window]; exact hw) hk
  have change : s.DrawChange u := hu ▸ (throughGroups_change s before).trans (stage4_change _ g)
  rw [worked] at split
  refine ⟨u, staged, ?_, fun j hj => ?_, fun p hp => ?_⟩
  · rw [split, throughGroups_group_notin _ hafter, windowEnd_group_self, staged]
  · have first : (s.throughGroups before).stream j = s.stream j :=
      throughGroups_stream_notin s fun h hh => hm.notin hj fun e => hbefore (e ▸ hh)
    have last : ((u.windowEnd g n).throughGroups after).stream j = (u.windowEnd g n).stream j :=
      throughGroups_stream_notin _ fun h hh => by
        rw [← worked, groupBoundary_members, throughGroups_members]
        exact hm.notin hj fun e => hafter (e ▸ hh)
    refine ⟨hu ▸ first ▸ stage4_drops _ g j, hu ▸ first ▸ stage4_stands _ g j, ?_⟩
    rw [split, last, windowEnd_stream, if_pos (by rw [staged, afterStage4_members]; exact hj)]
  · rw [split]
    exact (windowEnd_posted change g n (by rw [staged]; exact hp)).then_change (throughGroups_change _ after) change.clock

/-! ## The window end within the boundary -/

/-- After the group stages of a boundary only postings are made on the notice queue. -/
theorem boundary_notices (s : State) (inp : BoundaryInput) : ∃ ps, (s.boundary inp).notices =
    (s.beforeDraws inp).groupsBoundary.1.notices.postAll (s.beforeDraws inp).groupsBoundary.1.clock.hbc ps := by
  rw [boundary_eq]
  simp only [State.meterBoundary, State.lineBoundary, State.mixReturns, State.formOutput, State.watchPaths, postAll_notices,
    postAll_clock, mapStreams_notices, mapStreams_clock, ← postAll_append]
  exact ⟨_, rfl⟩

theorem boundary_hbc (s : State) (inp : BoundaryInput) : (s.boundary inp).clock.hbc = s.clock.hbc + 1 := by
  obtain ⟨qs, e⟩ := boundary_parts s inp
  rw [e]
  simp [HouseClock.advance, judge_hbc]

/-- A notice that the group stages of a boundary post is posted at the boundary. -/
theorem boundary_posted {s : State} {inp : BoundaryInput} {p : Post}
    (h : (s.beforeDraws inp).Posted (s.beforeDraws inp).groupsBoundary.1 (s.beforeDraws inp).clock.hbc p) :
    s.Posted (s.boundary inp) (s.boundary inp).clock.hbc p := by
  obtain ⟨ps, hp, staged⟩ := h
  obtain ⟨qs, later⟩ := boundary_notices s inp
  have clock : (s.beforeDraws inp).groupsBoundary.1.clock = (s.beforeDraws inp).clock := (groupsBoundary_change _).clock
  have hbc : (s.beforeDraws inp).clock.hbc = s.clock.hbc + 1 := by simp [beforeDraws_eq, HouseClock.advance, judge_hbc]
  have first : (s.beforeDraws inp).notices =
      s.notices.postAll (s.clock.hbc + 1) (s.clock.judge.2 ++ s.signals.changePosts inp.sigIn) := by
    simp [beforeDraws_eq, HouseClock.advance, judge_hbc]
  refine ⟨s.clock.judge.2 ++ s.signals.changePosts inp.sigIn ++ ps ++ qs, List.mem_append_left _ (List.mem_append_right _ hp), ?_⟩
  rw [later, staged, clock, hbc, first, boundary_hbc]
  simp only [postAll_append]

/-- The path watch of a boundary leaves what a window end has set. -/
theorem watchBoundary_window (x y : Stream) : (Stream.watchBoundary x y).state = y.state ∧
    (Stream.watchBoundary x y).clock = y.clock ∧ (Stream.watchBoundary x y).windowMismatches = y.windowMismatches := by
  unfold Stream.watchBoundary
  split
  · exact ⟨rfl, rfl, rfl⟩
  · exact ⟨rfl, rfl, rfl⟩

/-- What the boundary leaves of a group whose window ends there, `minOf` being each stream's current minimum, or none for a stream that
the boundary ends (R86, R87, R95). -/
theorem boundary_windowEnd {s : State} {inp : BoundaryInput} {g : Fin 16} {n : Word} {k : Nat} (ha : (s.group g).anchored = true)
    (hw : (s.group g).window = some (n, k)) (hk : 999 ≤ k) (hm : s.MembershipOk) (minOf : Fin 32 → Option Word)
    (hmin : minOf = fun j => if (s.stream j).state.drawn = true ∧ ((s.boundary inp).stream j).state = .ended then none
      else (s.stream j).clock.current) :
    (s.boundary inp).group g = (s.group g).afterStage4.windowEnd n ((s.group g).members.map fun j => (j, minOf j)) ∧
    (∀ j ∈ (s.group g).members, ((s.boundary inp).stream j).windowMismatches = 0 ∧ ((s.boundary inp).stream j).clock =
      { current := none, transits := 0, stopped := false
        last := if minOf j = none ∧ (s.stream j).clock.stopped = true then (s.stream j).clock.last else minOf j }) ∧
    ∀ p ∈ (s.group g).afterStage4.windowEndPosts g.val ((s.group g).members.map fun j => (j, minOf j)),
      s.Posted (s.boundary inp) (s.boundary inp).clock.hbc p := by
  have group (h : Fin 16) : (s.beforeDraws inp).group h = s.group h := by rw [beforeDraws_eq]; rfl
  have stream (j : Fin 32) : (s.beforeDraws inp).stream j = s.stream j := by rw [beforeDraws_eq]; rfl
  have listed : (s.beforeDraws inp).MembershipOk := hm.of_same (fun h => by rw [group]) fun j => by rw [stream]; exact .refl _
  obtain ⟨u, hug, hgroup, hmembers, hposted⟩ :=
    groupsBoundary_windowEnd (g := g) (by rw [group]; exact ha) (by rw [group]; exact hw) hk listed
  simp only [group, stream] at hug hgroup hmembers hposted
  have state (j : Fin 32) (hj : j ∈ (s.group g).members) : ((s.boundary inp).stream j).state = (u.stream j).state := by
    rw [boundary_stream, (watchBoundary_window _ _).1, (hmembers j hj).2.2]
  have clock (j : Fin 32) (hj : j ∈ (s.group g).members) : (u.stream j).clock =
      if (s.stream j).state.drawn = true ∧ ((s.boundary inp).stream j).state = .ended then (s.stream j).clock.drop
      else (s.stream j).clock := by
    obtain ⟨drops, stands, -⟩ := hmembers j hj
    rw [state j hj]
    exact drops.clock_of_leadsTo stands.state
  have kept (j : Fin 32) (hj : j ∈ (s.group g).members) : (u.stream j).clock.current = minOf j ∧
      (u.stream j).clock.last = (s.stream j).clock.last ∧ (u.stream j).clock.stopped = (s.stream j).clock.stopped := by
    rw [clock j hj, hmin]
    split
    next h => exact ⟨(if_pos h).symm, rfl, rfl⟩
    next h => exact ⟨(if_neg h).symm, rfl, rfl⟩
  have minima : u.memberMinima g = (s.group g).members.map fun j => (j, minOf j) := by
    rw [State.memberMinima, hug, afterStage4_members]
    exact List.map_congr_left fun j hj => by rw [(kept j hj).1]
  rw [minima] at hgroup hposted
  refine ⟨by rw [boundary_group, hgroup], fun j hj => ?_, fun p hp => boundary_posted (hposted p hp)⟩
  obtain ⟨-, hclock, hcount⟩ := watchBoundary_window (s.stream j) ((s.beforeDraws inp).groupsBoundary.1.stream j)
  obtain ⟨hcurrent, hlast, hstopped⟩ := kept j hj
  rw [boundary_stream, hclock, hcount, (hmembers j hj).2.2]
  refine ⟨rfl, ?_⟩
  simp only [StreamClock.roll, hcurrent, hlast, hstopped]

/-- Settles O37: the four commands are the boundary, whose window end its lemma gives, on the record that stages 1 to 4 leave. -/
theorem windowEndRollsTheMinimaOver : Obligations.WindowEndRollsTheMinimaOver := by
  rintro s inp i g n q v due hlow rfl ha hw hq hm rfl rfl
  have boundary (due : Bool) (h : due = true) :
      (.next (s.boundaryWhen due inp) : Host.Outcome State Fault Refusal) = .next (s.boundary inp) := by
    simp only [State.boundaryWhen, hlow, h, Bool.false_eq_true, if_false, if_true]
  refine ⟨s.boundary inp, boundary _ ?_, boundary _ rfl, fun hdue => boundary _ ?_, fun hp => boundary _ ?_, fun minOf hmin => ?_⟩
  · simp [State.windowEndDue, ha, hw, Config.windowBlocks]
  · rw [State.slipDue, ha, slipDue_iff, hdue]
    rfl
  · simp [State.recentreDue, ha, Option.isSome_iff_ne_none, hp]
  obtain ⟨hgroup, hmembers, hposted⟩ := boundary_windowEnd ha hw le_rfl hm minOf hmin
  refine ⟨?_, hmembers, fun x hx hlarge => hposted _ (step_mem_windowEndPosts (by rw [afterStage4_delta]; exact hx) hlarge)⟩
  rw [hgroup, afterStage4_eq, hq, slipDue_iff, advanceSlip_eq]
  rfl

end Sys2Proof.Machine
end

section
/-! SUPPORT. The record of a group through every change that the part makes to it: its ranges, its slip schedule, its timeline and its
account of Q (R49, R52, R53, R60, R87 to R98). -/

namespace Sys2Proof.Machine

/-! ## The window-end arithmetic (R89 to R94) -/

/-- Smoothing keeps a drift within its limit: a delta that is no step is at most 10 samples (R89, R90). -/
theorem smoothDrift_range {d : Int} (h : -2560 ≤ d ∧ d ≤ 2560) (delta : Option Int) :
    -2560 ≤ smoothDrift d delta ∧ smoothDrift d delta ≤ 2560 := by
  unfold smoothDrift
  cases delta with
  | none => exact h
  | some x =>
    dsimp only
    split
    · exact h
    next hx =>
      have small : x.natAbs ≤ 10 := by simpa [isStep] using hx
      have trunc : divTrunc (x * 256 - d) 8 = if 0 ≤ x * 256 - d then (x * 256 - d) / 8 else -(-(x * 256 - d) / 8) := by
        unfold divTrunc
        split
        next hs => exact Int.tdiv_eq_ediv_of_nonneg hs
        next hs => rw [← Int.neg_neg (x * 256 - d), Int.neg_tdiv, Int.tdiv_eq_ediv_of_nonneg (by omega), Int.neg_neg]; rfl
      rw [trunc]
      split <;> omega

/-- The correction rate is clamped, or is the drift (R93). -/
theorem correctionRate_range {d : Int} (h : -2560 ≤ d ∧ d ≤ 2560) (e : Option Int) :
    -2560 ≤ correctionRate d e ∧ correctionRate d e ≤ 2560 := by
  cases e with
  | none => exact h
  | some x =>
    simp only [correctionRate, clampInt, Config.maxRate]
    split
    · omega
    · split <;> omega

theorem slipDirOf_steady_iff (c : Int) : slipDirOf c = .steady ↔ c.natAbs < 4 := by
  unfold slipDirOf
  split
  next h => exact iff_of_true rfl h
  next h => split <;> exact iff_of_false nofun h

/-- The interval of a rate: from 100 blocks at the largest to 64,000 at the smallest that slips (R94). -/
theorem slipIntervalOf_range {c : Int} (h : -2560 ≤ c ∧ c ≤ 2560) (hc : ¬c.natAbs < 4) :
    ∃ n, slipIntervalOf c = some n ∧ 100 ≤ n ∧ n ≤ 64000 := by
  refine ⟨256000 / c.natAbs, if_neg hc, ?_, ?_⟩
  · rw [Nat.le_div_iff_mul_le (by omega)]; omega
  · exact (Nat.div_le_div_left (by omega) (by omega : 0 < 4)).trans (by omega)

theorem advanceSlip_ne_zero : ∀ v : BitVec 6, v ≠ 0 → advanceSlip v ≠ 0 := by decide

/-! ## The slip schedule -/

/-- Stage 1 keeps the schedule: a countdown that stands above 1 falls, and one that has run out is reloaded (R97). -/
theorem Group.ScheduleOk.afterStage4 {g : Group} (h : g.ScheduleOk) : g.afterStage4.ScheduleOk := by
  obtain ⟨steady, slipping⟩ := h
  rw [afterStage4_eq]
  refine ⟨fun hd => ?_, fun hd => ?_⟩
  · obtain ⟨hi, hc⟩ := steady hd
    exact ⟨hi, (if_pos hd).trans hc⟩
  · obtain ⟨n, hi, hlo, hhi, hc, hcn⟩ := slipping hd
    refine ⟨n, hi, hlo, hhi, ?_⟩
    dsimp only at hd ⊢
    rw [if_neg hd, slipDue_iff, decide_eq_true hd, Bool.true_and]
    by_cases hlast : g.countdown ≤ 1
    · rw [decide_eq_true hlast, if_pos rfl, hi, Option.getD_some]; omega
    · rw [decide_eq_false hlast, if_neg (by decide)]; omega

/-- The schedule that a window end sets (R94). -/
theorem Group.ScheduleOk.windowEnd {g : Group} (h : g.ScheduleOk) {c : Int} (hc : -2560 ≤ c ∧ c ≤ 2560) (recentred : Bool) {x : Group}
    (dir : x.dir = slipDirOf c) (interval : x.interval = slipIntervalOf c) (countdown : x.countdown = slipCountdownOf g c recentred) :
    x.ScheduleOk := by
  by_cases small : c.natAbs < 4
  · have noInterval : slipIntervalOf c = none := if_pos small
    refine ⟨fun _ => ⟨interval.trans noInterval, ?_⟩, fun hd => absurd ((slipDirOf_steady_iff c).mpr small) (dir ▸ hd)⟩
    rw [countdown, slipCountdownOf, noInterval]
  · refine ⟨fun hd => absurd ((slipDirOf_steady_iff c).mp (dir ▸ hd)) small, fun _ => ?_⟩
    obtain ⟨n, hn, hlo, hhi⟩ := slipIntervalOf_range hc small
    refine ⟨n, interval.trans hn, hlo, hhi, ?_⟩
    have reloaded : 1 ≤ n ∧ n ≤ n := ⟨by omega, le_rfl⟩
    rw [countdown, slipCountdownOf, hn]
    dsimp only
    split
    · exact reloaded
    split
    · exact reloaded
    next hsteady =>
      split
      · exact reloaded
      · obtain ⟨-, -, -, -, running, -⟩ := h.2 hsteady
        omega

/-! ## The changes of a record -/

/-- What the ranges, the schedule, the timeline and the account are about: every other field may change. -/
theorem Group.Ok.same {g x : Group} (h : g.Ok) (settings : (x.hold, x.outageLimit, x.warning) = (g.hold, g.outageLimit, g.warning))
    (rates : (x.drift, x.corr, x.lfsr) = (g.drift, g.corr, g.lfsr))
    (schedule : (x.dir, x.interval, x.countdown) = (g.dir, g.interval, g.countdown))
    (timeline : (x.anchored, x.oRef, x.q, x.qAnchor, x.window, x.pending) = (g.anchored, g.oRef, g.q, g.qAnchor, g.window, g.pending))
    (totals : (x.repeats, x.drops, x.adjSum) = (g.repeats, g.drops, g.adjSum)) : x.Ok := by
  simp only [Prod.mk.injEq] at settings rates schedule timeline totals
  obtain ⟨hold, limit, warning⟩ := settings
  obtain ⟨drift, corr, lfsr⟩ := rates
  obtain ⟨dir, interval, countdown⟩ := schedule
  obtain ⟨anchored, oRef, q, qAnchor, window, pending⟩ := timeline
  obtain ⟨repeats, drops, adjSum⟩ := totals
  refine ⟨⟨?_, ?_, ?_, ?_, ?_, ?_⟩, ?_, ⟨?_, ?_, ?_⟩, ?_⟩
  · rw [hold]; exact h.inRange.hold
  · rw [limit]; exact h.inRange.outageLimit
  · rw [warning]; exact h.inRange.warning
  · rw [drift]; exact h.inRange.drift
  · rw [corr]; exact h.inRange.corr
  · rw [lfsr]; exact h.inRange.lfsr
  · rw [Group.ScheduleOk, dir, interval, countdown]; exact h.schedule
  · rw [anchored, oRef, q, qAnchor, window, dir, pending]; exact h.timeline.unanchored
  · rw [anchored, oRef, q, qAnchor]; exact h.timeline.anchored
  · rw [window]; exact h.timeline.window
  · rw [Group.QAccount, anchored, q, qAnchor, repeats, drops, adjSum]; exact h.account

theorem Group.reset_ok : Group.reset.Ok := by
  refine ⟨⟨by decide, by decide, by decide, by decide, by decide, by decide⟩, ⟨fun _ => ⟨rfl, rfl⟩, fun h => absurd rfl h⟩,
    ⟨fun _ => ⟨rfl, rfl, rfl, rfl, rfl, rfl⟩, nofun, nofun⟩, nofun⟩

/-- An anchoring starts the account at 0 (R52). -/
theorem Group.Ok.anchor {g : Group} (h : g.Ok) (at_ st : Word) : (g.anchor at_ st).Ok where
  inRange := { h.inRange with lfsr := (by decide : slipSeed ≠ 0) }
  schedule := ⟨fun _ => ⟨rfl, rfl⟩, fun hd => absurd rfl hd⟩
  timeline := ⟨nofun, fun _ => ⟨rfl, rfl, rfl⟩, nofun⟩
  account := by
    intro q a _ hq ha
    cases hq
    cases ha
    simp [Group.anchor]

theorem Group.Ok.unanchor {g : Group} (h : g.Ok) : g.unanchor.Ok where
  inRange := { h.inRange with }
  schedule := ⟨fun _ => ⟨rfl, rfl⟩, fun hd => absurd rfl hd⟩
  timeline := ⟨fun _ => ⟨rfl, rfl, rfl, rfl, rfl, rfl⟩, nofun, nofun⟩
  account := nofun

theorem Group.Ok.removeMember {g : Group} (h : g.Ok) (i : Fin 32) : (g.removeMember i).Ok := h.same rfl rfl rfl rfl rfl

theorem Group.Ok.settleEmpty {g : Group} (h : g.Ok) : g.settleEmpty.Ok := by
  unfold Group.settleEmpty
  split
  · exact ⟨{ h.inRange with drift := by simp, corr := by simp }, h.schedule, ⟨h.timeline.1, h.timeline.2, h.timeline.3⟩, h.account⟩
  · exact h

/-- GROUP_SET takes settings in range alone (R49). -/
theorem Group.Ok.set {g : Group} (h : g.Ok) {hold limit warning : Nat} (hh : 48 ≤ hold ∧ hold ≤ 12192) (hl : 4 ≤ limit ∧ limit ≤ 1000)
    (hw : warning ≤ 64) : ({ g with hold := hold, outageLimit := limit, warning := warning } : Group).Ok :=
  ⟨{ h.inRange with hold := hh, outageLimit := hl, warning := hw }, h.schedule, ⟨h.timeline.1, h.timeline.2, h.timeline.3⟩, h.account⟩

/-- A recentre pends on an ANCHORED group alone (R59). -/
theorem Group.Ok.pend {g : Group} (h : g.Ok) (ha : g.anchored = true) (adj : Int) : ({ g with pending := some adj } : Group).Ok :=
  ⟨{ h.inRange with }, h.schedule, ⟨fun hn => absurd (ha.symm.trans hn) (by decide), h.timeline.2, h.timeline.3⟩, h.account⟩

theorem Group.Ok.setWindow {g : Group} (h : g.Ok) (ha : g.anchored = true) (n : Word) {k : Nat} (hk : k < 1000) :
    ({ g with window := some (n, k) } : Group).Ok where
  inRange := { h.inRange with }
  schedule := h.schedule
  timeline := ⟨fun hn => absurd (ha.symm.trans hn) (by decide), h.timeline.2, fun m j e => by cases e; exact hk⟩
  account := h.account

/-- The account of Q through stages 1 to 4: Q takes the recentre and the slip, each with its total (R60, R101). -/
theorem Group.QAccount.afterStage4 {g : Group} (h : g.QAccount) : g.afterStage4.QAccount := by
  rw [afterStage4_eq]
  intro q a ha hq hqa
  obtain ⟨q0, hq0, rfl⟩ := Option.map_eq_some_iff.mp hq
  have before := h q0 a ha hq0 hqa
  dsimp only
  have moved (slip r d : Word) (hs : slip + (g.repeats - g.drops) = r - d) :
      q0 - word (g.pending.getD 0) + slip - a = r - d - (g.adjSum + word (g.pending.getD 0)) := by
    rw [← hs, show q0 - word (g.pending.getD 0) + slip - a = (q0 - a) + slip - word (g.pending.getD 0) by ring, before]
    ring
  refine moved _ _ _ ?_
  have due := slipDue_iff g
  cases hs : g.slipDue with
  | false => simp
  | true =>
    cases hd : g.dir with
    | steady => rw [hs, hd] at due; cases due
    | repeating => simp only [reduceCtorEq, true_and, if_true, if_false, and_false]; ring
    | dropping => simp only [reduceCtorEq, true_and, if_true, if_false, and_false]; ring

theorem Group.Ok.afterStage4 {g : Group} (h : g.Ok) (ha : g.anchored = true) : g.afterStage4.Ok := by
  refine ⟨?_, h.schedule.afterStage4, ?_, h.account.afterStage4⟩
  · have lfsr : (if g.slipDue then advanceSlip g.lfsr else g.lfsr) ≠ 0 := by
      split
      · exact advanceSlip_ne_zero _ h.inRange.lfsr
      · exact h.inRange.lfsr
    rw [afterStage4_eq]
    exact { h.inRange with lfsr := lfsr }
  · obtain ⟨hr, hq, hqa⟩ := h.timeline.anchored ha
    rw [afterStage4_eq]
    exact ⟨fun hn => absurd (ha.symm.trans hn) (by decide), fun _ => ⟨hr, by simpa using hq, hqa⟩, h.timeline.window⟩

/-- The eight steps of a window end (R87 to R95). -/
theorem Group.Ok.windowEnd {g : Group} (h : g.Ok) (ha : g.anchored = true) (n : Word) (mins : List (Fin 32 × Option Word)) :
    (g.windowEnd n mins).Ok := by
  have drift := smoothDrift_range h.inRange.drift (g.delta mins)
  have corr := correctionRate_range drift (g.latencyError mins)
  exact {
    inRange := { h.inRange with drift := drift, corr := corr }
    schedule := h.schedule.windowEnd corr _ rfl rfl rfl
    timeline := ⟨fun hn => absurd (ha.symm.trans hn) (by decide), h.timeline.anchored, fun m j e => by cases e; decide⟩
    account := h.account }

/-- The whole boundary of an ANCHORED group (R54). -/
theorem Group.Ok.afterBoundary {g : Group} (h : g.Ok) (ha : g.anchored = true) (mins : List (Fin 32 × Option Word)) :
    (g.afterBoundary mins).Ok := by
  have staged := h.afterStage4 ha
  have anchored : g.afterStage4.anchored = true := by rw [afterStage4_eq]; exact ha
  unfold Group.afterBoundary
  split
  · exact staged.setWindow anchored 0 (by decide)
  · split
    next hk => exact staged.setWindow anchored _ hk
    · exact staged.windowEnd anchored _ mins

end Sys2Proof.Machine
end

section
/-! SUPPORT. The records of the House Clock Unit, the map, the return feeds and the Meter Unit through every change that the part makes
to them (R43, R123, R135, R138, R140 to R149, R163, R167, R168). -/

namespace Sys2Proof.Machine

/-! ## The House Clock Unit -/

theorem HouseClock.reset_ok : HouseClock.reset.Ok := ⟨by decide, fun _ => ⟨rfl, rfl⟩⟩

/-- The ranges of the House Clock Unit are about its reference state, lock count and fallback state alone. -/
theorem HouseClock.Ok.same {c d : HouseClock} (h : c.Ok) (ref : d.ref = c.ref) (count : d.lockCount = c.lockCount)
    (fallback : d.fallbackHoldover = c.fallbackHoldover) : d.Ok :=
  ⟨by rw [count]; exact h.lockCount, by rw [ref, count, fallback]; exact h.outsideLocking⟩

theorem HouseClock.Ok.edge {c : HouseClock} (h : c.Ok) : c.edge.Ok := by
  unfold HouseClock.edge
  dsimp only
  split
  · exact ⟨Nat.zero_lt_succ _, fun hl => absurd rfl hl⟩
  · exact ⟨Nat.zero_lt_succ _, fun hl => absurd rfl hl⟩
  · exact h.same rfl rfl rfl
  · exact h.same rfl rfl rfl

/-- The judgement of a block keeps the lock count below 1,000: the thousandth full block leaves LOCKING (R43). -/
theorem HouseClock.Ok.judge {c : HouseClock} (h : c.Ok) : c.judge.1.Ok := by
  unfold HouseClock.judge
  split
  next hr _ =>
    split
    next hc => exact ⟨hc, fun hl => absurd hr hl⟩
    · exact ⟨Nat.zero_lt_succ _, fun _ => ⟨rfl, rfl⟩⟩
  next hr _ => exact ⟨Nat.zero_lt_succ _, fun hl => absurd hr hl⟩
  · exact ⟨Nat.zero_lt_succ _, fun _ => ⟨rfl, rfl⟩⟩
  next hr _ => exact ⟨h.lockCount, fun _ => h.outsideLocking (by rw [hr]; decide)⟩
  · exact h
  · exact h
  · exact h
  · exact h

theorem HouseClock.Ok.advance {c : HouseClock} (h : c.Ok) : c.advance.Ok := h.same rfl rfl rfl

/-! ## The output map -/

theorem MapEntry.reset_ok : MapEntry.reset.Ok := iff_of_false (by decide) (by decide)

theorem MapEntry.settle_ok (e : MapEntry) : e.settle.Ok := bne_iff_ne

theorem MapEntry.Ok.commit {e : MapEntry} (h : e.Ok) : e.commit.Ok := by
  unfold MapEntry.commit
  split
  · exact iff_of_false nofun fun ne => ne rfl
  · exact h

theorem MapEntry.Ok.discard {e : MapEntry} (h : e.Ok) : e.discard.Ok := by
  unfold MapEntry.discard
  split
  · exact iff_of_false nofun fun ne => ne rfl
  · exact h

/-- The clip state of an entry is no part of its two copies. -/
theorem MapEntry.Ok.clip {e : MapEntry} (h : e.Ok) (clipping : Bool) (clips : Word) :
    ({ e with clipping := clipping, clips := clips } : MapEntry).Ok := h

theorem MapEntry.Ok.form {e : MapEntry} (h : e.Ok) (k : Fin 64) (commit : Bool) (a : BoundaryAudio) : (e.form k commit a).1.Ok := by
  refine MapEntry.Ok.clip ?_ _ _
  split
  · exact h.commit
  · exact h

/-! ## The return feeds -/

/-- The generator's feedback never brings it to 0 (R171). -/
theorem advanceTest_ne_zero {v : BitVec 23} (h : v ≠ 0) : advanceTest v ≠ 0 := by
  intro e
  have bit (j : Nat) : (advanceTest v).getLsbD j = false := by rw [e]; exact BitVec.getLsbD_zero
  refine h (BitVec.eq_of_getLsbD_eq fun j hj => ?_)
  have shifted (j : Nat) (hj : j < 22) : v.getLsbD j = false := by
    have moved := bit (j + 1)
    unfold advanceTest at moved
    split at moved <;> simpa [show j + 1 < 23 by omega, BitVec.getLsbD_eq_getElem (show j < 23 by omega)] using moved
  rw [show (0 : BitVec 23) = 0#23 from rfl, BitVec.getLsbD_zero]
  by_cases top : j = 22
  · subst top
    have low := bit 0
    unfold advanceTest at low
    rw [shifted 17 (by decide)] at low
    by_contra set
    rw [Bool.not_eq_false] at set
    simp [set] at low
  · exact shifted j (by omega)

theorem testSamples_ne_zero (n : Nat) {v : BitVec 23} (h : v ≠ 0) : (testSamples n v).1 ≠ 0 := by
  induction n generalizing v with
  | zero => exact h
  | succ n ih => exact ih (advanceTest_ne_zero h)

theorem testSamples_length (n : Nat) (v : BitVec 23) : (testSamples n v).2.length = n := by
  induction n generalizing v with
  | zero => rfl
  | succ n ih => exact congrArg (· + 1) (ih (advanceTest v))

theorem wireSample_length {f : SampleFormat} (h : f ≠ .l32) (v : Sample) : (wireSample f v).length = f.bytes := by
  cases f with
  | l16 => rfl
  | l24 => rfl
  | l32 => exact absurd rfl h

/-- A list of pieces of one length. -/
theorem length_flatMap_const {α β : Type} {l : List α} {f : α → List β} {n : Nat} (h : ∀ a ∈ l, (f a).length = n) :
    (l.flatMap f).length = l.length * n := by
  rw [List.length_flatMap, List.map_congr_left h, List.map_const', List.sum_replicate, smul_eq_mul]

theorem blockPayload_length {f : SampleFormat} (h : f ≠ .l32) (chans : List (List Sample)) :
    (blockPayload f chans).length = 48 * chans.length * f.bytes := by
  unfold blockPayload
  rw [length_flatMap_const fun n _ => length_flatMap_const fun ch _ => wireSample_length h _, List.length_range, Nat.mul_assoc]

theorem Feed.reset_ok : Feed.reset.Ok where
  channels := .inl rfl
  format := by decide
  packing := .inl rfl
  testFormat := by decide
  generator := by decide
  stopped _ := ⟨rfl, rfl⟩
  running := nofun
  unfinished := by decide
  assemblyFormat h := absurd rfl h
  blockSizes := nofun

/-- The packet in assembly takes its mode, and the generator its start, at its first block (R147, R149). -/
theorem Feed.Ok.beginBlock {f : Feed} (h : f.Ok) (hbc : Word) : (f.beginBlock hbc).Ok ∧
    ((f.beginBlock hbc).assemblyMode = .test → f.format = .l24) := by
  unfold Feed.beginBlock
  split
  next he =>
    have empty : f.assembly = [] := List.isEmpty_iff.mp he
    refine ⟨{ h with generator := ?_, assemblyFormat := fun ne => absurd empty ne }, h.testFormat⟩
    dsimp only
    split
    · decide
    · exact h.generator
  next he => exact ⟨h, h.assemblyFormat (mt List.isEmpty_iff.mpr he)⟩

/-- A feed whose packet in assembly may be complete. -/
structure Feed.FormedOk (f : Feed) : Prop where
  emptied : ({ f with assembly := [] } : Feed).Ok
  running : f.running = true
  fits : f.assembly.length ≤ f.packing
  assemblyFormat : f.assemblyMode = .test → f.format = .l24
  blockSizes : ∀ b ∈ f.assembly, b.length = 48 * f.channels * f.format.bytes

/-- A record in order without its packet in assembly. -/
theorem Feed.Ok.emptied {f : Feed} (h : f.Ok) : ({ f with assembly := [] } : Feed).Ok :=
  { h with
    stopped := fun hr => ⟨(h.stopped hr).1, rfl⟩
    unfinished := Nat.zero_lt_of_lt h.unfinished
    assemblyFormat := fun ne => absurd rfl ne
    blockSizes := nofun }

/-- A block joins the packet in assembly of a running feed (R145, R146, R149). -/
theorem Feed.Ok.formBlock {f : Feed} (h : f.Ok) (hr : f.running = true) (hm : f.assemblyMode = .test → f.format = .l24)
    (input : List Frame) (sampled : Half) : (f.formBlock input sampled).FormedOk := by
  have joined {b : List Byte} (hb : b.length = 48 * f.channels * f.format.bytes) :
      ∀ c ∈ f.assembly ++ [b], c.length = 48 * f.channels * f.format.bytes := by
    intro c hc
    obtain hc | hc := List.mem_append.mp hc
    · exact h.blockSizes c hc
    · rw [List.mem_singleton.mp hc]; exact hb
  have fits (b : List Byte) : (f.assembly ++ [b]).length ≤ f.packing := by
    rw [List.length_append]; exact h.unfinished
  unfold Feed.formBlock
  split
  next hmode =>
    refine ⟨{ h.emptied with }, hr, fits _, hm, joined ?_⟩
    rw [blockPayload_length h.format, List.length_map, List.length_range]
  next hmode =>
    refine ⟨{ h.emptied with generator := testSamples_ne_zero _ h.generator }, hr, fits _, hm, joined ?_⟩
    rw [length_flatMap_const fun v _ => wireSample_length h.format v, testSamples_length]

/-- A feed at a boundary: a packet that its block completes is sent and emptied (R147, R148). -/
theorem Feed.Ok.boundary {f : Feed} (h : f.Ok) (hbc : Word) (input : List Frame) (sampled : Half) (upA upB : Bool) :
    (f.boundary hbc input sampled upA upB).Ok := by
  unfold Feed.boundary
  split
  next hr =>
    obtain ⟨begun, mode⟩ := h.beginBlock hbc
    have running : (f.beginBlock hbc).running = true := by
      unfold Feed.beginBlock
      split <;> exact hr
    have format : (f.beginBlock hbc).format = f.format := by
      unfold Feed.beginBlock
      split <;> rfl
    have formed : (f.assembled hbc input sampled).FormedOk := begun.formBlock running (format ▸ mode) input sampled
    dsimp only
    split
    next hc => exact { formed.emptied with }
    next hc =>
      have unfinished : (f.assembled hbc input sampled).assembly.length ≠ (f.assembled hbc input sampled).packing := by
        simpa [Feed.complete] using hc
      exact { formed.emptied with
        stopped := fun hn => absurd (formed.running.symm.trans hn) (by decide)
        unfinished := lt_of_le_of_ne formed.fits unfinished
        assemblyFormat := fun _ => formed.assemblyFormat
        blockSizes := formed.blockSizes }
  · exact h

/-! ## The Meter Unit -/

theorem Watch.reset_ok : Watch.reset.Ok := ⟨le_rfl, by decide, by decide, iff_of_true rfl rfl⟩

/-- A watch at a period end: its run is cleared where it would reach the persistence (R168). -/
theorem Watch.Ok.evaluate {w : Watch} (h : w.Ok) (v : Nat) : (w.evaluate v).Ok := by
  have positive : 0 < w.persistence := h.persistence.1
  have on {st : WatchState} {n : Nat} (hs : w.state ≠ .off) (hst : st ≠ .off) (hn : n < w.persistence) :
      ({ w with state := st, run := n } : Watch).Ok :=
    ⟨h.thresholds, h.persistence, hn, iff_of_false hst (mt h.off.mpr hs)⟩
  have counting {n : Nat} (hn : n < w.persistence) : ({ w with run := n } : Watch).Ok := ⟨h.thresholds, h.persistence, hn, h.off⟩
  unfold Watch.evaluate
  split
  · exact h
  next hs =>
    split
    · split
      next hn => exact counting hn
      · exact on (by rw [hs]; decide) (by decide) positive
    · exact counting positive
  next hs =>
    split
    · exact counting positive
    · split
      next hn => exact counting hn
      · exact on (by rw [hs]; decide) (by decide) positive

theorem MeterUnit.reset_ok : MeterUnit.reset.Ok :=
  ⟨by decide, by decide, fun w => by simp only [MeterUnit.reset, replicate_get]; exact Watch.reset_ok⟩

/-- A boundary of the Meter Unit: the block count starts again at the period end (R163). -/
theorem MeterUnit.Ok.boundary {m : MeterUnit} (h : m.Ok) (hbc : Word) (blocks : Fin 96 → List Sample) : (m.boundary hbc blocks).1.Ok := by
  unfold MeterUnit.boundary
  split
  · refine ⟨h.exponent, Nat.two_pow_pos _, fun w => ?_⟩
    rw [vmap_get]
    exact (h.watches w).evaluate _
  next hd =>
    have running : m.blocks + 1 ≠ 2 ^ m.exponent := by simpa [MeterUnit.periodDue] using hd
    exact ⟨h.exponent, lt_of_le_of_ne h.blocks running, h.watches⟩

/-- The watch that a WATCH_SET gives is in order (R167, R169). -/
theorem watchOf_ok {body : List Byte} {w : Watch} (h : watchOf body = some w) : w.Ok := by
  unfold watchOf at h
  split at h
  · cases h
  · cases h; exact Watch.reset_ok
  next mode hoff _ =>
    split at h
    · split at h
      next hb =>
        cases h
        have byte : field1 body 12 < 256 := (body.getD 12 0).isLt
        have persistence : 1 ≤ field1 body 12 ∧ field1 body 12 ≤ 255 := by omega
        exact ⟨hb.2, persistence, persistence.1, iff_of_false nofun (by rintro rfl; exact hoff rfl)⟩
      · cases h
    · cases h

end Sys2Proof.Machine
end

section
/-! SUPPORT. The records that have an invariant of their own (the House Clock Unit, the map, the feeds, the Meter Unit, the groups)
through every command; and O57 and O60. -/

namespace Sys2Proof.Machine

/-! ## States whose units stay in order -/

/-- `t` keeps of each unit of `s` what the spec says always holds of it. -/
structure State.KeepsUnits (s t : State) : Prop where
  clock : s.clock.Ok → t.clock.Ok
  map : (∀ k, (s.mapEntry k).Ok) → ∀ k, (t.mapEntry k).Ok
  feeds : (∀ r, (s.feed r).Ok) → ∀ r, (t.feed r).Ok
  meters : s.meters.Ok → t.meters.Ok
  groups : (∀ g, (s.group g).Ok) → ∀ g, (t.group g).Ok

namespace State.KeepsUnits

theorem trans {s t u : State} (h : s.KeepsUnits t) (k : t.KeepsUnits u) : s.KeepsUnits u :=
  ⟨k.clock ∘ h.clock, k.map ∘ h.map, k.feeds ∘ h.feeds, k.meters ∘ h.meters, k.groups ∘ h.groups⟩

/-- Changes outside the units. -/
theorem same {s t : State} (clock : t.clock = s.clock) (map : t.output.entries = s.output.entries)
    (feeds : t.returns.feeds = s.returns.feeds) (meters : t.meters = s.meters) (groups : t.groups = s.groups) : s.KeepsUnits t where
  clock h := by rw [clock]; exact h
  map h := by simp only [State.mapEntry, map]; exact h
  feeds h := by simp only [State.feed, feeds]; exact h
  meters h := by rw [meters]; exact h
  groups h := by simp only [State.group, groups]; exact h

theorem refl (s : State) : s.KeepsUnits s := same rfl rfl rfl rfl rfl

theorem setStream (s : State) (i : Fin 32) (x : Stream) : s.KeepsUnits (s.setStream i x) := same rfl rfl rfl rfl rfl

theorem mapStreams (s : State) (f : Fin 32 → Stream → Stream) : s.KeepsUnits (s.mapStreams f) := same rfl rfl rfl rfl rfl

theorem setPort (s : State) (p : PortId) (x : Port) : s.KeepsUnits (s.setPort p x) := by
  cases p <;> exact same rfl rfl rfl rfl rfl

theorem answer (s : State) (body : List Byte) : s.KeepsUnits (s.answer body) := same rfl rfl rfl rfl rfl

theorem atSample (s : State) (n : Fin 48) : s.KeepsUnits (s.atSample n) := by
  unfold State.atSample
  split
  · exact refl s
  · exact { same (s := s) (t := s) rfl rfl rfl rfl rfl with clock := fun h => h.same rfl rfl rfl }

theorem posted {s t : State} (h : s.KeepsUnits t) (p : Post) : s.KeepsUnits (t.post p) := h.trans (same rfl rfl rfl rfl rfl)

theorem setGroup {s : State} {g : Fin 16} {x : Group} (h : (s.group g).Ok → x.Ok) : s.KeepsUnits (s.setGroup g x) := by
  refine { refl s with groups := fun hg j => ?_ }
  by_cases e : j = g
  · subst e; rw [setGroup_group_self]; exact h (hg j)
  · rw [setGroup_group_ne s x e]; exact hg j

theorem setFeed {s : State} {r : Fin 16} {y : Feed} (h : (s.feed r).Ok → y.Ok) : s.KeepsUnits (s.setFeed r y) := by
  refine { refl s with feeds := fun hr j => ?_ }
  by_cases e : j = r
  · subst e; rw [setFeed_feed_self]; exact h (hr j)
  · rw [setFeed_feed_ne s y e]; exact hr j

theorem setMapEntry {s : State} {k : Fin 64} {e : MapEntry} (h : (s.mapEntry k).Ok → e.Ok) : s.KeepsUnits (s.setMapEntry k e) := by
  refine { refl s with map := fun hk j => ?_ }
  by_cases ne : j = k
  · subst ne; rw [setMapEntry_mapEntry_self]; exact h (hk j)
  · rw [setMapEntry_mapEntry_ne s e ne]; exact hk j

/-- Every map entry changed by a function of its number and itself. -/
theorem mapEntries (s : State) {f : Fin 64 → MapEntry → MapEntry} (h : ∀ k e, e.Ok → (f k e).Ok) :
    s.KeepsUnits { s with output := { s.output with entries := vmap s.output.entries f } } := by
  refine { refl s with map := fun hk j => ?_ }
  simp only [State.mapEntry, vmap_get]; exact h j _ (hk j)

theorem setMeters {s : State} {m : MeterUnit} (h : s.meters.Ok → m.Ok) : s.KeepsUnits { s with meters := m } :=
  { refl s with meters := h }

/-- Every reset leaves units in order. -/
theorem of_reset {s t : State} (clock : t.clock = .reset ∨ t.clock = s.clock) (map : t.output.entries = Vector.replicate 64 .reset)
    (feeds : t.returns.feeds = Vector.replicate 16 .reset) (meters : t.meters = .reset)
    (groups : t.groups = Vector.replicate 16 .reset) : s.KeepsUnits t where
  clock h := by
    obtain e | e := clock
    · rw [e]; exact HouseClock.reset_ok
    · rw [e]; exact h
  map _ k := by simp only [State.mapEntry, map, replicate_get]; exact MapEntry.reset_ok
  feeds _ r := by simp only [State.feed, feeds, replicate_get]; exact Feed.reset_ok
  meters _ := by rw [meters]; exact MeterUnit.reset_ok
  groups _ g := by simp only [State.group, groups, replicate_get]; exact Group.reset_ok

end State.KeepsUnits

/-! ## Requests outside the units -/

/-- A request's effects keep the units in order. -/
def ServesUnits (serve : State → List Byte → Served) : Prop :=
  ∀ s body t data, serve s body = .ok (t, data) → s.KeepsUnits t

/-- The taking of a request keeps the units as its serving does. -/
theorem take_units {serve : State → List Byte → Served} (h : ServesUnits serve) (s : State) (kind : Byte) :
    s.KeepsUnits (s.take kind serve) := by
  obtain e | ⟨body, e⟩ | ⟨r, t, data, -, -, -, hs, e⟩ := take_cases s kind serve
  · rw [e]; exact .refl s
  · rw [e]; exact .answer s body
  · rw [e]; exact (h s r.body t data hs).trans (.answer t _)

theorem serveIdentify_units : ServesUnits serveIdentify := by
  rintro s body t data ⟨⟩
  exact .refl s

theorem serveReset_units : ServesUnits serveReset := by
  rintro s body t data ⟨⟩
  exact .same rfl rfl rfl rfl rfl

theorem serveClockQuery_units (n : Fin 48) : ServesUnits fun s body => serveClockQuery (s.atSample n) body := by
  rintro s body t data ⟨⟩
  exact .atSample s n

theorem serveNoticeFetch_units : ServesUnits serveNoticeFetch := by
  intro s body t data h
  simp only [serveNoticeFetch, require_bind_ok] at h
  obtain ⟨-, ⟨⟩⟩ := h
  exact .same rfl rfl rfl rfl rfl

theorem serveNoticeEnable_units : ServesUnits serveNoticeEnable := by
  intro s body t data h
  simp only [serveNoticeEnable, require_bind_ok] at h
  obtain ⟨-, ⟨⟩⟩ := h
  exact .same rfl rfl rfl rfl rfl

theorem servePortEnable_units (n : Fin 48) : ServesUnits fun s body => servePortEnable (s.atSample n) body := by
  intro s body t data h
  simp only [servePortEnable, require_bind_ok] at h
  obtain ⟨-, ⟨⟩⟩ := h
  exact (State.KeepsUnits.atSample s n).trans (.setPort _ _ _)

theorem servePortDisable_units : ServesUnits servePortDisable := by
  intro s body t data h
  simp only [servePortDisable, require_bind_ok] at h
  obtain ⟨-, ⟨⟩⟩ := h
  exact .setPort _ _ _

theorem servePortBudget_units : ServesUnits servePortBudget := by
  intro s body t data h
  simp only [servePortBudget, require_bind_ok] at h
  obtain ⟨-, -, ⟨⟩⟩ := h
  exact .setPort _ _ _

theorem servePortQuery_units (n : Fin 48) : ServesUnits fun s body => servePortQuery (s.atSample n) body := by
  intro s body t data h
  simp only [servePortQuery, require_bind_ok] at h
  obtain ⟨-, ⟨⟩⟩ := h
  split
  · exact (State.KeepsUnits.atSample s n).trans (.setPort _ _ _)
  · exact .atSample s n

theorem serveStreamStart_units : ServesUnits serveStreamStart := by
  intro s body t data h
  unfold serveStreamStart at h
  split at h
  · cases h
  split at h
  · cases h; exact .setStream _ _ _
  · cases h

theorem serveStreamRepair_units : ServesUnits serveStreamRepair := by
  intro s body t data h
  unfold serveStreamRepair at h
  split at h
  · cases h
  dsimp only at h
  split at h
  · cases h
  split at h
  · cases h
  · cases h; exact .setStream _ _ _
  · cases h; exact .setStream _ _ _

theorem serveTestQuery_units : ServesUnits serveTestQuery := by
  intro s body t data h
  unfold serveTestQuery at h
  split at h
  · cases h
  simp only [require_bind_ok] at h
  obtain ⟨-, ⟨⟩⟩ := h
  split
  · exact .setStream _ _ _
  · exact .refl s

theorem serveMapCommit_units : ServesUnits serveMapCommit := by
  rintro s body t data ⟨⟩
  exact .same rfl rfl rfl rfl rfl

theorem serveSignalSet_units : ServesUnits serveSignalSet := by
  intro s body t data h
  unfold serveSignalSet at h
  split at h
  · cases h
  split at h
  · cases h
  · cases h; exact .same rfl rfl rfl rfl rfl

theorem serveSignalOverride_units : ServesUnits serveSignalOverride := by
  rintro s body t data ⟨⟩
  exact .same rfl rfl rfl rfl rfl

theorem serveSiginMask_units : ServesUnits serveSiginMask := by
  rintro s body t data ⟨⟩
  exact .same rfl rfl rfl rfl rfl

/-- A request that answers and changes nothing. -/
def ServesNothing (serve : State → List Byte → Served) : Prop := ∀ s body t data, serve s body = .ok (t, data) → t = s

theorem ServesNothing.servesUnits {serve : State → List Byte → Served} (h : ServesNothing serve) : ServesUnits serve :=
  fun s body t data e => h s body t data e ▸ .refl s

theorem serveStreamQuery_nothing : ServesNothing serveStreamQuery := by
  intro s body t data h
  unfold serveStreamQuery at h
  split at h <;> cases h
  rfl

theorem serveStreamClock_nothing : ServesNothing serveStreamClock := by
  intro s body t data h
  unfold serveStreamClock at h
  split at h <;> cases h
  rfl

theorem serveGroupQuery_nothing : ServesNothing serveGroupQuery := by
  intro s body t data h
  unfold serveGroupQuery at h
  split at h <;> cases h
  rfl

theorem serveGroupClock_nothing : ServesNothing serveGroupClock := by
  intro s body t data h
  unfold serveGroupClock at h
  split at h <;> cases h
  rfl

theorem serveSignalQuery_nothing : ServesNothing serveSignalQuery := by
  rintro s body t data ⟨⟩
  rfl

theorem serveMeterRead_nothing : ServesNothing serveMeterRead := by
  intro s body t data h
  simp only [serveMeterRead] at h
  split at h
  · cases h
  simp only [require_bind_ok] at h
  obtain ⟨-, ⟨⟩⟩ := h
  rfl

theorem serveWatchQuery_nothing : ServesNothing serveWatchQuery := by
  intro s body t data h
  simp only [serveWatchQuery] at h
  split at h
  · cases h; rfl
  split at h <;> cases h
  rfl

/-! ## Requests of groups, streams, map, feeds and meters -/

theorem unanchor_units (s : State) (g : Fin 16) : s.KeepsUnits (s.unanchor g) :=
  (State.KeepsUnits.mapStreams s _).trans (.setGroup fun h => h.unanchor)

theorem unanchorIfLeft_units (s : State) (g : Fin 16) : s.KeepsUnits (s.unanchorIfLeft g) := by
  unfold State.unanchorIfLeft
  split
  · exact unanchor_units s g
  · exact .refl s

theorem openStream_units (s : State) (i : Fin 32) (o : OpenFields) : s.KeepsUnits (s.openStream i o) :=
  have listed (h : (s.group o.group).Ok) : ({ s.group o.group with members := (s.group o.group).members ++ [i] } : Group).Ok :=
    h.same rfl rfl rfl rfl rfl
  ((State.KeepsUnits.setStream s i o.record).trans (.setGroup listed)).trans (.same rfl rfl rfl rfl rfl)

theorem serveStreamOpen_units : ServesUnits serveStreamOpen := by
  intro s body t data h
  unfold serveStreamOpen at h
  split at h
  · cases h
  split at h
  · cases h
  split at h
  · cases h
  next o _ =>
  cases hk : o.checks s with
  | error st => rw [hk] at h; cases h
  | ok u => rw [hk] at h; cases h; exact openStream_units s _ o

theorem stopStream_units (s : State) (i : Fin 32) : s.KeepsUnits (s.stopStream i) :=
  (State.KeepsUnits.setStream s i _).trans (unanchorIfLeft_units _ _)

theorem serveStreamStop_units : ServesUnits serveStreamStop := by
  intro s body t data h
  unfold serveStreamStop at h
  split at h
  · cases h
  split at h
  · cases h
  · cases h; exact .refl s
  all_goals cases h; exact stopStream_units s _

theorem closeStream_units (s : State) (i : Fin 32) : s.KeepsUnits (s.closeStream i) :=
  ((((State.KeepsUnits.setStream s i .closed).trans (.setGroup fun h => h.removeMember i)).trans (unanchorIfLeft_units _ _)).trans
    (.setGroup fun h => h.settleEmpty)).trans (.same rfl rfl rfl rfl rfl)

theorem serveStreamClose_units : ServesUnits serveStreamClose := by
  intro s body t data h
  unfold serveStreamClose at h
  split at h
  · cases h
  split at h
  · cases h
  · cases h; exact closeStream_units s _

theorem serveGroupSet_units : ServesUnits serveGroupSet := by
  intro s body t data h
  unfold serveGroupSet at h
  split at h
  · cases h
  simp only [require_bind_ok, Bool.and_eq_true, decide_eq_true_eq] at h
  obtain ⟨⟨⟨⟨⟨hlo, hhi⟩, llo⟩, lhi⟩, hw⟩, -, ⟨⟩⟩ := h
  exact .setGroup fun hg => hg.set ⟨hlo, hhi⟩ ⟨llo, lhi⟩ hw

theorem serveGroupRecentre_units : ServesUnits serveGroupRecentre := by
  intro s body t data h
  unfold serveGroupRecentre at h
  split at h
  · cases h
  split at h
  next hd =>
    split at h
    · cases h
    · cases h; exact .setGroup fun hg => hg.pend (Bool.and_eq_true_iff.mp hd).1 _
  · cases h

theorem serveMapSet_units : ServesUnits serveMapSet := by
  intro s body t data h
  unfold serveMapSet at h
  split at h
  · cases h
  split at h
  · cases h
  simp only [require_bind_ok] at h
  obtain ⟨-, ⟨⟩⟩ := h
  exact .setMapEntry fun _ => MapEntry.settle_ok _

theorem serveMapDiscard_units : ServesUnits serveMapDiscard := by
  intro s body t data h
  simp only [serveMapDiscard] at h
  split at h
  · cases h; exact .mapEntries s fun _ _ he => he.discard
  split at h
  · cases h
  · cases h; exact .setMapEntry fun he => he.discard

theorem serveMapQuery_units : ServesUnits serveMapQuery := by
  intro s body t data h
  simp only [serveMapQuery] at h
  split at h
  · cases h
  simp only [require_bind_ok] at h
  obtain ⟨-, ⟨⟩⟩ := h
  split
  · refine .mapEntries s fun _ e he => ?_
    split
    · exact he.clip _ _
    · exact he
  · exact .refl s

theorem serveMeterSet_units : ServesUnits serveMeterSet := by
  intro s body t data h
  simp only [serveMeterSet, require_bind_ok, Bool.and_eq_true, decide_eq_true_eq] at h
  obtain ⟨hn, ⟨⟩⟩ := h
  exact .setMeters fun hm => ⟨hn, Nat.two_pow_pos _, hm.watches⟩

theorem serveWatchSet_units : ServesUnits serveWatchSet := by
  intro s body t data h
  unfold serveWatchSet at h
  split at h
  · cases h
  next k _ =>
  split at h
  · cases h
  next w hw =>
    cases h
    refine .setMeters fun hm => ⟨hm.exponent, hm.blocks, fun j => ?_⟩
    by_cases e : j = k
    · subst e; dsimp only; rw [vset_get_self]; exact watchOf_ok hw
    · dsimp only; rw [vset_get_ne _ _ e]; exact hm.watches j

/-- A field of two bytes lies below 2^16. -/
theorem field2_lt (body : List Byte) (i : Nat) : field2 body i < 65536 := by
  have short : ((body.drop i).take 2).length ≤ 2 := by rw [List.length_take]; omega
  unfold field2
  generalize (body.drop i).take 2 = bytes at short ⊢
  match bytes with
  | [] => decide
  | [a] => simp only [beNat, List.foldl_cons, List.foldl_nil]; have := a.isLt; omega
  | [a, b] => simp only [beNat, List.foldl_cons, List.foldl_nil]; have := a.isLt; have := b.isLt; omega
  | _ :: _ :: _ :: _ => simp only [List.length_cons] at short; omega

/-- The fields of a RETURN_SET (R140): they are in range, and a feed that runs keeps its order when the size of its blocks and of its
packets stands. -/
theorem withFields_ok {f y : Feed} {body : List Byte} (hy : f.withFields body = some y) (h : f.Ok)
    (shape : f.running = true → y.channels = f.channels ∧ y.format = f.format ∧ y.packing = f.packing) : y.Ok := by
  unfold Feed.withFields at hy
  split at hy
  next ports format mode _ _ _ =>
    dsimp only at hy
    split at hy
    next hc =>
      cases hy
      dsimp only at shape
      simp only [Bool.and_eq_true, Bool.or_eq_true, Bool.not_eq_true', beq_iff_eq, bne_iff_ne, Bool.and_eq_false_imp,
        decide_eq_true_eq, List.contains_iff_mem, List.mem_cons, List.not_mem_nil, or_false] at hc
      obtain ⟨⟨⟨⟨⟨hch, hf⟩, hk⟩, -⟩, htest⟩, hflow⟩ := hc
      have carries (hm : mode = .test) : format = .l24 := by
        have notL16 : format ≠ .l16 := by simpa using htest hm
        cases format with
        | l16 => exact absurd rfl notL16
        | l24 => rfl
        | l32 => exact absurd rfl hf
      have flowId (hr : f.running = true) : BitVec.ofNat 16 (field2 body 1) ≠ 0 := by
        have nonzero : field2 body 1 ≠ 0 := by simpa using hflow hr
        have bound := field2_lt body 1
        intro e
        have number := congrArg BitVec.toNat e
        rw [BitVec.toNat_ofNat, Nat.mod_eq_of_lt bound] at number
        exact nonzero number
      have idle (hr : f.running = false) : f.assembly = [] := (h.stopped hr).2
      refine ⟨hch, hf, hk, carries, h.generator, h.stopped, fun hr => ⟨flowId hr, ?_⟩, ?_, ?_, ?_⟩
      · obtain ⟨sc, sf, sk⟩ := shape hr
        have load := (h.running hr).2
        rw [Feed.loadFigure, ← sc, ← sf, ← sk] at load
        exact load
      · dsimp only
        cases hr : f.running with
        | false => rw [idle hr, List.length_nil]; omega
        | true => rw [(shape hr).2.2]; exact h.unfinished
      · dsimp only
        cases hr : f.running with
        | false => exact fun ne => absurd (idle hr) ne
        | true => rw [(shape hr).2.1]; exact h.assemblyFormat
      · dsimp only
        cases hr : f.running with
        | false => rw [idle hr]; nofun
        | true => rw [(shape hr).1, (shape hr).2.1]; exact h.blockSizes
    · cases hy
  · cases hy

theorem serveReturnSet_units : ServesUnits serveReturnSet := by
  intro s body t data h
  unfold serveReturnSet at h
  split at h
  · cases h
  next r _ =>
  dsimp only at h
  split at h
  · cases h
  next y hy =>
  simp only [require_bind_ok] at h
  obtain ⟨hshape, -, ⟨⟩⟩ := h
  have shape (hr : (s.feed r).running = true) : y.channels = (s.feed r).channels ∧ y.format = (s.feed r).format ∧
      y.packing = (s.feed r).packing := by
    simpa [hr, and_assoc] using hshape
  have set : s.KeepsUnits (s.setFeed r y) := .setFeed fun hf => withFields_ok hy hf shape
  split
  · exact set.trans (.same rfl rfl rfl rfl rfl)
  · exact set

theorem serveReturnCoef_units : ServesUnits serveReturnCoef := by
  intro s body t data h
  unfold serveReturnCoef at h
  split at h
  · cases h
  simp only [require_bind_ok] at h
  obtain ⟨-, ⟨⟩⟩ := h
  refine .setFeed fun hf => ?_
  split
  · exact { hf with }
  · exact { hf with }

theorem serveReturnStart_units : ServesUnits serveReturnStart := by
  intro s body t data h
  unfold serveReturnStart at h
  split at h
  · cases h
  simp only [require_bind_ok, Bool.not_eq_true', bne_iff_ne] at h
  obtain ⟨-, flowId, -, ⟨⟩⟩ := h
  refine .trans (.setFeed fun hf => ?_) (.same rfl rfl rfl rfl rfl)
  refine { hf.emptied with stopped := nofun, running := fun _ => ⟨flowId, rfl⟩, generator := ?_ }
  dsimp only
  split
  · decide
  · exact hf.generator

theorem serveReturnStop_units : ServesUnits serveReturnStop := by
  intro s body t data h
  unfold serveReturnStop at h
  split at h
  · cases h
  dsimp only at h
  split at h
  · cases h
    refine .trans (.setFeed fun hf => ?_) (.same rfl rfl rfl rfl rfl)
    exact { hf.emptied with stopped := fun _ => ⟨rfl, rfl⟩, running := nofun }
  · cases h; exact .refl s

theorem serveReturnQuery_units : ServesUnits serveReturnQuery := by
  intro s body t data h
  unfold serveReturnQuery at h
  split at h
  · cases h
  simp only [require_bind_ok] at h
  obtain ⟨-, ⟨⟩⟩ := h
  split
  · exact .setFeed fun hf => { hf with }
  · exact .refl s

/-! ## Packets -/

theorem anchoredFor_units (s : State) (i : Fin 32) (p : Packet) : s.KeepsUnits (s.anchoredFor i p) := by
  unfold State.anchoredFor
  split
  · exact .refl s
  · exact (State.KeepsUnits.mapStreams s _).trans (.setGroup fun h => h.anchor _ _)

theorem classifyPacket_units (s : State) (i : Fin 32) (a : Ingest) : s.KeepsUnits (s.classifyPacket i a) :=
  .same rfl rfl rfl rfl rfl

theorem transit_units (s : State) (i : Fin 32) (sourceTime : Word) : s.KeepsUnits (s.transit i sourceTime) := .setStream _ _ _

theorem firstPacket_units (s : State) (i : Fin 32) (path : PathId) (p : Packet) : s.KeepsUnits (s.firstPacket i path p) := by
  rw [firstPacket_eq]
  exact (((anchoredFor_units s i p).trans (.setStream _ i _)).trans (transit_units _ i _)).trans (classifyPacket_units _ i _)

theorem relock_units (s : State) (g : Fin 16) (cause : Fin 32) : s.KeepsUnits (s.relock g cause) :=
  ((State.KeepsUnits.mapStreams s _).trans (unanchor_units _ g)).posted _

theorem earlyResync_units (s : State) (i : Fin 32) (detail : Int) : s.KeepsUnits (s.earlyResync i detail) :=
  ((State.KeepsUnits.setStream s i _).posted _).trans (unanchorIfLeft_units _ _)

theorem rejectA_units (s : State) (i : Fin 32) : s.KeepsUnits (s.rejectA i) := by
  have counted (x : Stream) : s.KeepsUnits (s.setStream i x) := .setStream s i x
  unfold State.rejectA
  dsimp only
  split
  · exact counted _
  · exact (counted _).trans (relock_units _ _ i)

theorem rejectB_units (s : State) (i : Fin 32) : s.KeepsUnits (s.rejectB i) := by
  have counted (x : Stream) : s.KeepsUnits (s.setStream i x) := .setStream s i x
  unfold State.rejectB
  dsimp only
  split
  · split
    · exact counted _
    · exact (counted _).posted _
  · exact counted _

theorem ingested_units (s : State) (i : Fin 32) (path : PathId) (p : Packet) : s.KeepsUnits (s.ingested i path p) := by
  unfold State.ingested
  split
  · exact (classifyPacket_units s i _).trans (transit_units _ i _)
  · exact classifyPacket_units s i _

theorem laterPacket_units (s : State) (i : Fin 32) (path : PathId) (p : Packet) : s.KeepsUnits (s.laterPacket i path p) := by
  obtain e | ⟨d, e⟩ | ⟨-, e⟩ | ⟨-, e⟩ := laterPacket_cases s i path p
  · rw [e]; exact ingested_units s i path p
  · rw [e]; exact (ingested_units s i path p).trans (earlyResync_units _ i d)
  · rw [e]; exact rejectA_units s i
  · rw [e]; exact rejectB_units s i

theorem ingestStream_units (s : State) (port : PortId) (i : Fin 32) (path : PathId) (p : Packet) :
    s.KeepsUnits (s.ingestStream port i path p) := by
  obtain e | ⟨-, c, e⟩ | ⟨-, e⟩ | ⟨-, e⟩ := ingestStream_cases s port i path p
  · rw [e]; exact .setPort s port _
  · rw [e]; exact .setStream s i _
  · rw [e]; exact firstPacket_units s i path p
  · rw [e]; exact laterPacket_units s i path p

theorem arrival_units (s : State) (port : PortId) (d : List Byte) : s.KeepsUnits (s.arrival port d) := by
  unfold State.arrival
  dsimp only
  split
  · refine State.KeepsUnits.trans (.setPort s port { s.port port with received := (s.port port).received + 1 }) ?_
    obtain ⟨x, -, e⟩ | ⟨i, path, p, e⟩ := ingestDatagram_cases
      (s.setPort port { s.port port with received := (s.port port).received + 1 }) port d
    · rw [e]; exact .setPort _ port x
    · rw [e]; exact ingestStream_units _ port i path p
  · exact .refl s

/-! ## The boundary -/

theorem boundary_units (s : State) (inp : BoundaryInput) : s.KeepsUnits (s.boundary inp) := by
  obtain ⟨qs, parts⟩ := boundary_parts s inp
  refine ⟨fun h => ?_, fun h k => ?_, fun h r => ?_, fun h => ?_, fun h g => ?_⟩
  · rw [parts]; exact h.judge.advance
  · rw [parts]
    simp only [State.mapEntry, OutputUnit.boundary, vmap_get]
    exact (h k).form k _ _
  · rw [parts]
    simp only [State.feed, ReturnMixer.boundary, vmap_get]
    exact (h r).boundary _ _ _ _ _
  · rw [parts]; exact h.boundary _ _
  · by_cases ha : (s.group g).anchored = true
    · obtain ⟨mins, e⟩ := boundary_group_anchored s inp g ha
      rw [e]; exact (h g).afterBoundary ha mins
    · rw [boundary_group_unanchored s inp g (by simpa using ha)]; exact h g

theorem boundaryWhen_units (s : State) (due : Bool) (inp : BoundaryInput) : s.KeepsUnits (s.boundaryWhen due inp) := by
  unfold State.boundaryWhen
  split
  · exact .refl s
  · split
    · exact boundary_units s inp
    · exact .refl s

/-! ## Other events -/

theorem receive_units (s : State) (bytes : List Byte) : s.KeepsUnits (s.receive bytes) := by
  unfold State.receive
  split
  · exact .refl s
  · exact .same rfl rfl rfl rfl rfl

theorem breakFrame_units (s : State) : s.KeepsUnits s.breakFrame := by
  unfold State.breakFrame
  split
  · exact .refl s
  · exact .same rfl rfl rfl rfl rfl

theorem takeBadKind_units (s : State) : s.KeepsUnits s.takeBadKind := by
  unfold State.takeBadKind
  split
  · exact .refl s
  · split
    · exact .answer s _
    · exact .refl s

theorem resetRelease_units (s : State) (strap : Bool) : s.KeepsUnits (s.resetRelease strap) := by
  unfold State.resetRelease
  split
  · exact .same rfl rfl rfl rfl rfl
  · exact .refl s

theorem replySent_units (s : State) : s.KeepsUnits s.replySent := by
  unfold State.replySent
  split
  · exact .refl s
  · dsimp only
    split
    · split
      · exact .of_reset (.inr rfl) rfl rfl rfl rfl
      · exact .same rfl rfl rfl rfl rfl
    · exact .same rfl rfl rfl rfl rfl

theorem hrefEdge_units {n : Fin 48} {s t : State} (h : execHrefEdge n s = .next t) : s.KeepsUnits t := by
  unfold execHrefEdge at h
  split at h
  · cases h; exact .refl s
  · cases h
    refine (State.KeepsUnits.atSample s n).trans ?_
    exact { State.KeepsUnits.refl (s.atSample n) with clock := fun hc => hc.edge }

/-- A port's event: its record moves, and it may post a notice (R7, R8). -/
theorem carrierArrival_units (s : State) (p : PortId) : s.KeepsUnits (s.carrierArrival p) := by
  have moved (x : Port) : s.KeepsUnits (s.setPort p x) := .setPort s p x
  unfold State.carrierArrival
  dsimp only
  split
  · exact (moved _).posted _
  all_goals exact moved _

theorem carrierLoss_units (s : State) (p : PortId) : s.KeepsUnits (s.carrierLoss p) := by
  have moved (x : Port) : s.KeepsUnits (s.setPort p x) := .setPort s p x
  unfold State.carrierLoss
  dsimp only
  split
  · exact (moved _).posted _
  all_goals exact moved _

theorem warmUpExpiry_units (s : State) (p : PortId) : s.KeepsUnits (s.warmUpExpiry p) := by
  have moved (x : Port) : s.KeepsUnits (s.setPort p x) := .setPort s p x
  unfold State.warmUpExpiry
  dsimp only
  split
  · split
    · exact (moved _).posted _
    · exact (moved _).posted _
  all_goals exact .refl s

/-! ## Every command -/

/-- Every command keeps the units. -/
theorem exec_units (c : Instr) (s t : State) (h : exec c s = .next t) : s.KeepsUnits t := by
  cases c with
  | powerOn strap ca cb => cases h; exact .of_reset (.inl rfl) rfl rfl rfl rfl
  | resetnFall => cases h; exact .of_reset (.inl rfl) rfl rfl rfl rfl
  | resetnRelease strap => cases h; exact resetRelease_units s strap
  | hrefEdge n => exact hrefEdge_units h
  | houseBlockBoundary | houseRefLocked | slip | recentre | windowEnd | pathSilent | commitApply | returnPacketBuild
  | meterPeriodEnd => cases h; exact boundaryWhen_units s _ _
  | carrierArrival p => cases h; exact carrierArrival_units s p
  | carrierLoss p => cases h; exact carrierLoss_units s p
  | warmUpExpiry p => cases h; exact warmUpExpiry_units s p
  | packetArrival p n d => cases h; exact (State.KeepsUnits.atSample s n).trans (arrival_units _ p d)
  | requestArrival bytes | frameCheckFail bytes | frameOverLength bytes => cases h; exact receive_units s bytes
  | frameStopBitError bytes | interByteTimeout bytes => cases h; exact (receive_units s bytes).trans (breakFrame_units _)
  | replySent => cases h; exact replySent_units s
  | badKind => cases h; exact takeBadKind_units s
  | identify => cases h; exact take_units serveIdentify_units s _
  | reset => cases h; exact take_units serveReset_units s _
  | clockQuery n => cases h; exact take_units (serveClockQuery_units n) s _
  | noticeFetch => cases h; exact take_units serveNoticeFetch_units s _
  | noticeEnable => cases h; exact take_units serveNoticeEnable_units s _
  | portEnable n => cases h; exact take_units (servePortEnable_units n) s _
  | portDisable => cases h; exact take_units servePortDisable_units s _
  | portBudget => cases h; exact take_units servePortBudget_units s _
  | portQuery n => cases h; exact take_units (servePortQuery_units n) s _
  | streamOpen => cases h; exact take_units serveStreamOpen_units s _
  | streamStart => cases h; exact take_units serveStreamStart_units s _
  | streamStop => cases h; exact take_units serveStreamStop_units s _
  | streamClose => cases h; exact take_units serveStreamClose_units s _
  | streamRepair => cases h; exact take_units serveStreamRepair_units s _
  | streamQuery => cases h; exact take_units serveStreamQuery_nothing.servesUnits s _
  | streamClock => cases h; exact take_units serveStreamClock_nothing.servesUnits s _
  | groupSet => cases h; exact take_units serveGroupSet_units s _
  | groupQuery => cases h; exact take_units serveGroupQuery_nothing.servesUnits s _
  | groupClock => cases h; exact take_units serveGroupClock_nothing.servesUnits s _
  | groupRecentre => cases h; exact take_units serveGroupRecentre_units s _
  | mapSet => cases h; exact take_units serveMapSet_units s _
  | mapCommit => cases h; exact take_units serveMapCommit_units s _
  | mapDiscard => cases h; exact take_units serveMapDiscard_units s _
  | mapQuery => cases h; exact take_units serveMapQuery_units s _
  | returnSet => cases h; exact take_units serveReturnSet_units s _
  | returnCoef => cases h; exact take_units serveReturnCoef_units s _
  | returnStart => cases h; exact take_units serveReturnStart_units s _
  | returnStop => cases h; exact take_units serveReturnStop_units s _
  | returnQuery => cases h; exact take_units serveReturnQuery_units s _
  | signalSet => cases h; exact take_units serveSignalSet_units s _
  | signalOverride => cases h; exact take_units serveSignalOverride_units s _
  | signalQuery => cases h; exact take_units serveSignalQuery_nothing.servesUnits s _
  | siginMask => cases h; exact take_units serveSiginMask_units s _
  | meterSet => cases h; exact take_units serveMeterSet_units s _
  | meterRead => cases h; exact take_units serveMeterRead_nothing.servesUnits s _
  | watchSet => cases h; exact take_units serveWatchSet_units s _
  | watchQuery => cases h; exact take_units serveWatchQuery_nothing.servesUnits s _
  | testQuery => cases h; exact take_units serveTestQuery_units s _

/-- Every step keeps the units. -/
theorem step_units {s t : State} (h : step s = .next t) : s.KeepsUnits t := by
  unfold step at h
  split at h
  · cases h; exact .refl s
  next c rest _ =>
    have queued : s.KeepsUnits (s.withPending rest) := .same rfl rfl rfl rfl rfl
    exact queued.trans (exec_units c _ t h)

/-- Settles O57, by what every step keeps of the groups. -/
theorem groupsKeepTheirAccountOfQ : Obligations.GroupsKeepTheirAccountOfQ := fun _ _ h hstep => (step_units hstep).groups h

/-- Settles O60, by what every step keeps of the other units. -/
theorem unitsKeepTheirRanges : Obligations.UnitsKeepTheirRanges :=
  ⟨fun _ _ h hstep => (step_units hstep).clock h, fun _ _ h hstep => (step_units hstep).map h,
    fun _ _ h hstep => (step_units hstep).feeds h, fun _ _ h hstep => (step_units hstep).meters h⟩

end Sys2Proof.Machine
end

section
/-! SUPPORT. The resets against the invariants and the group records (R46), and the House Clock Unit (R42, R43, R45); and O5, O15, O16 and
O55. -/

namespace Sys2Proof.Machine

/-! ## Resets -/

theorem NoticeQueue.reset_ok : NoticeQueue.reset.Ok := ⟨Nat.zero_le _, List.Pairwise.nil⟩

theorem ControlLine.reset_ok (fast : Bool) : (ControlLine.reset fast).Ok where
  bounded := Nat.zero_le _
  takenInOrder := List.Pairwise.nil
  sendsOldest := nofun
  idleOnlyWhenNothingWaits _ := ⟨rfl, nofun⟩

theorem State.reset_media : State.reset.MediaReset := ⟨rfl, rfl, rfl, rfl, ⟨_, rfl⟩, ⟨_, rfl⟩, rfl⟩

/-- Settles O55, record by record. -/
theorem resetMeetsEveryInvariant : Obligations.ResetMeetsEveryInvariant := by
  refine ⟨HouseClock.reset_ok, NoticeQueue.reset_ok, ControlLine.reset_ok false, fun k => ?_, fun g => ?_,
    MediaReset.accounts State.reset_media, fun r => ?_, MeterUnit.reset_ok, MediaReset.streamsOk State.reset_media⟩
  · rw [show State.reset.mapEntry k = .reset from replicate_get _ k]; exact MapEntry.reset_ok
  · rw [show State.reset.group g = .reset from replicate_get _ g]; exact Group.reset_ok
  · rw [show State.reset.feed r = .reset from replicate_get _ r]; exact Feed.reset_ok

/-- A reset that takes effect is that of the RESET request which the oldest request holds, taken and answered OK (R181). -/
theorem replySent_reset {s : State} {x : Sending} {r : Request} {rest : List Request} (hx : s.control.sending = some x)
    (hq : x.queued = true) (hr : s.control.queue = r :: rest) (kind : r.kind = 0x02) (reply : r.reply = some [0]) :
    ∃ c, s.replySent = { s.requestReset with control := c } := by
  have isReset : r.isReset = true := by simp [Request.isReset, kind, reply, Status.code]
  refine ⟨ControlLine.startReply { s.requestReset.control with sending := none }, ?_⟩
  unfold State.replySent
  rw [hx]
  simp only [hq, hr, List.head?_cons, Option.map_some, isReset, Option.getD_some, if_true]

/-- Settles O5: each of the three resets fills the group file with the one reset record. -/
theorem everyResetPutsTheGroupsInOneCondition : Obligations.EveryResetPutsTheGroupsInOneCondition := by
  refine ⟨fun s strap ca cb => ⟨_, rfl, fun g => replicate_get _ g⟩, fun s => ⟨_, rfl, fun g => replicate_get _ g⟩,
    fun s x r rest hx hq hr kind reply => ?_⟩
  obtain ⟨c, e⟩ := replySent_reset hx hq hr kind reply
  exact ⟨_, congrArg Host.Outcome.next e, rfl, fun g => replicate_get _ g⟩

/-! ## The House Clock Unit -/

/-- The house sample of an event goes forward within its block and never back, and stands while RESETn is low (R42, log 1). -/
theorem atSample_eq (s : State) (n : Fin 48) : s.atSample n =
    { s with clock := { s.clock with sample := if s.resetLow then s.clock.sample else max s.clock.sample n } } := by
  unfold State.atSample
  split
  next h =>
    have stands : (if s.resetLow then s.clock.sample else max s.clock.sample n) = s.clock.sample := by
      rw [ite_eq_left_iff]
      intro hl
      exact max_eq_left (Fin.le_def.mpr (by simpa [hl] using h))
    rw [stands]
  next h =>
    simp only [Bool.or_eq_true, decide_eq_true_eq, not_or, not_le] at h
    rw [if_neg h.1, max_eq_right (Fin.le_def.mpr h.2.le)]

/-- An edge, field by field (R43, log 5). -/
theorem edge_eq (c : HouseClock) : c.edge =
    { c with
      edges := c.edges ||| (1#48 <<< c.sample.val)
      ref := if c.ref = .locked then .locked else .locking
      lockCount := if c.ref = .free ∨ c.ref = .holdover then 0 else c.lockCount
      fallbackHoldover := if c.ref = .free then false else if c.ref = .holdover then true else c.fallbackHoldover } := by
  unfold HouseClock.edge
  cases c.ref <;> simp

/-- Settles O16, by what an event's house sample and an edge change. -/
theorem referenceEdgeStartsLocking : Obligations.ReferenceEdgeStartsLocking := by
  refine ⟨fun s n => ⟨_, atSample_eq s n, fun h => if_pos h, fun h => if_neg (by simp [h])⟩, fun s n h => ⟨_, rfl, ?_⟩, fun s n h => ?_⟩
  · have runs : exec (.hrefEdge n) s = .next { s.atSample n with clock := (s.atSample n).clock.edge } := if_neg (by simp [h])
    rw [runs, edge_eq]
  · exact if_pos h

/-- Settles O15: the request is taken at its turn, with what R45 names as its data. -/
theorem clockQueryReportsTheHouseClock : Obligations.ClockQueryReportsTheHouseClock := by
  refine fun s n hn => ⟨_, rfl, (take_granted hn rfl rfl).trans ?_⟩
  cases (s.atSample n).clock.ref <;> simp [RefState.code, State.hs]

end Sys2Proof.Machine
end

section
/-! SUPPORT. The boundary as a command (R42, R183, logs 2 and 3), what is due at it, and the judgement of the reference (R43, R44); and O17
and O18. -/

namespace Sys2Proof.Machine

/-! ## The boundary as a command -/

theorem boundaryWhen_low {s : State} (h : s.resetLow = true) (due : Bool) (inp : BoundaryInput) : s.boundaryWhen due inp = s := if_pos h

theorem boundaryWhen_due {s : State} (h : s.resetLow = false) (inp : BoundaryInput) : s.boundaryWhen true inp = s.boundary inp := by
  simp [State.boundaryWhen, h]

theorem boundaryWhen_not_due (s : State) (inp : BoundaryInput) : s.boundaryWhen false inp = s := by simp [State.boundaryWhen]

/-- HOUSE_BLOCK_BOUNDARY while RESETn is high. -/
theorem exec_houseBlockBoundary {s : State} (h : s.resetLow = false) (inp : BoundaryInput) :
    exec (.houseBlockBoundary inp) s = .next (s.boundary inp) := congrArg Host.Outcome.next (boundaryWhen_due h inp)

/-- A row that names something that comes about at a boundary when `due`, read as the proposition `P` (log 2). -/
theorem row_of_due {s : State} {inp : BoundaryInput} {c : Instr} {due : Bool} {P : Prop}
    (runs : exec c s = .next (s.boundaryWhen due inp)) (hdue : due = true ↔ P) :
    (s.resetLow = true → exec c s = .next s) ∧ (¬P → exec c s = .next s) ∧ (P → exec c s = exec (.houseBlockBoundary inp) s) := by
  refine ⟨fun h => by rw [runs, boundaryWhen_low h], fun h => ?_, fun h => ?_⟩
  · rw [runs, Bool.eq_false_iff.mpr (mt hdue.mp h), boundaryWhen_not_due]
  · rw [runs, hdue.mpr h]
    rfl

/-! ## What is due -/

theorem judgement_full_iff (c : HouseClock) : c.judgement = .full ↔ c.edges = BitVec.allOnes 48 := by
  unfold HouseClock.judgement
  split
  next h => exact iff_of_true rfl h
  next h => split <;> exact iff_of_false nofun h

theorem judgement_absent_iff (c : HouseClock) : c.judgement = .absent ↔ c.edges = 0 := by
  unfold HouseClock.judgement
  split
  next h => exact iff_of_false nofun (by rw [h]; decide)
  · split
    next h => exact iff_of_true rfl h
    next h => exact iff_of_false nofun h

theorem judgement_partial {c : HouseClock} (h0 : c.edges ≠ 0) (h1 : c.edges ≠ BitVec.allOnes 48) : c.judgement = .partialBlock := by
  cases h : c.judgement with
  | full => exact absurd ((judgement_full_iff c).mp h) h1
  | absent => exact absurd ((judgement_absent_iff c).mp h) h0
  | partialBlock => rfl

/-- The lock is due at the thousandth full block of LOCKING (R43). -/
theorem lockDue_iff (s : State) :
    s.lockDue = true ↔ s.clock.ref = .locking ∧ s.clock.edges = BitVec.allOnes 48 ∧ 999 ≤ s.clock.lockCount := by
  simp only [State.lockDue, Bool.and_eq_true, beq_iff_eq, judgement_full_iff, Bool.not_eq_true', decide_eq_false_iff_not, and_assoc,
    Config.lockBlocks]
  exact and_congr_right fun _ => and_congr_right fun _ => by omega

theorem slipDue_at_iff (s : State) (g : Fin 16) :
    s.slipDue g = true ↔ (s.group g).anchored = true ∧ (s.group g).dir ≠ .steady ∧ (s.group g).countdown ≤ 1 := by
  simp only [State.slipDue, slipDue_iff, Bool.and_eq_true, decide_eq_true_eq]

theorem recentreDue_iff (s : State) (g : Fin 16) : s.recentreDue g = true ↔ (s.group g).anchored = true ∧ (s.group g).pending ≠ none := by
  rw [State.recentreDue, Bool.and_eq_true, Option.isSome_iff_ne_none]

theorem windowEndDue_iff (s : State) (g : Fin 16) :
    s.windowEndDue g = true ↔ (s.group g).anchored = true ∧ ∃ n k, (s.group g).window = some (n, k) ∧ 999 ≤ k := by
  rw [State.windowEndDue, Bool.and_eq_true]
  refine and_congr_right fun _ => ?_
  cases (s.group g).window with
  | none => simp
  | some w => simp [Config.windowBlocks, Prod.ext_iff]

theorem pathWatched_iff (st : StreamState) : st.pathWatched = true ↔ st = .primed ∨ st = .playing ∨ st = .draining := by
  cases st <;> simp [StreamState.pathWatched]

/-- A path's mark is set by the count that brings its silence to 100 (R75). -/
theorem silentDue_iff (w : PathWatch) : w.silentDue = true ↔ w.silent = 99 ∧ w.mark = false := by
  simp only [PathWatch.silentDue, Config.silentBlocks, Bool.and_eq_true, beq_iff_eq, Bool.not_eq_true']
  exact and_congr_left fun _ => ⟨fun h => by bv_omega, fun h => by rw [h]; rfl⟩

theorem pathSilentDue_iff (s : State) (i : Fin 32) (p : PathId) : s.pathSilentDue i p = true ↔
    ((s.stream i).state = .primed ∨ (s.stream i).state = .playing ∨ (s.stream i).state = .draining) ∧
      ((s.stream i).watch p).silent = 99 ∧ ((s.stream i).watch p).mark = false ∧ (p = .b → (s.stream i).flowB ≠ none) := by
  have path : (p == .a || (s.stream i).flowB.isSome) = true ↔ (p = .b → (s.stream i).flowB ≠ none) := by
    rw [← Option.isSome_iff_ne_none]
    cases p <;> simp
  rw [State.pathSilentDue]
  simp only [Bool.and_eq_true, pathWatched_iff, silentDue_iff, path, and_assoc]

theorem packetDue_iff (s : State) (r : Fin 16) :
    s.packetDue r = true ↔ (s.feed r).running = true ∧ (s.feed r).assembly.length + 1 = (s.feed r).packing := by
  simp [State.packetDue]

/-! ## What a boundary leaves -/

theorem captureInput_getD (tdm : List (List Word)) {j k : Nat} (hj : j < 48) (hk : k < 32) :
    ((captureInput tdm).getD j []).getD k 0 = ((tdm.getD j []).getD k 0).extractLsb' 8 24 := by
  simp [captureInput, hj, hk]

/-- The parts of the state that a boundary leaves, and what it sets of the others (R42, R122, R135, R158). -/
theorem boundary_frame (s : State) (inp : BoundaryInput) : ∃ t : State, s.boundary inp = t ∧
    t.clock = s.clock.judge.1.advance ∧ t.output.commit = false ∧ t.output.galleryIn = captureInput inp.tdm ∧
    t.resetLow = s.resetLow ∧ t.portA = s.portA ∧ t.portB = s.portB ∧ t.flows = s.flows ∧ t.slotsInUse = s.slotsInUse ∧
    t.control = s.control ∧ t.pending = s.pending ∧
    ∃ ps, (∀ p ∈ s.clock.judge.2, p ∈ ps) ∧ t.notices = s.notices.postAll (s.clock.hbc + 1) ps := by
  obtain ⟨qs, parts⟩ := boundary_parts s inp
  refine ⟨_, parts, rfl, rfl, rfl, rfl, rfl, rfl, rfl, rfl, rfl, rfl, _, fun p hp => ?_, rfl⟩
  simp only [List.append_assoc]
  exact List.mem_append_left _ hp

theorem postAll_queueEnable (nq : NoticeQueue) (hbc : Word) (ps : List Post) : (nq.postAll hbc ps).queueEnable = nq.queueEnable ∧
    (nq.postAll hbc ps).alertEnable = nq.alertEnable := by
  induction ps generalizing nq with
  | nil => exact ⟨rfl, rfl⟩
  | cons p ps ih => rw [postAll_cons, (ih _).1, (ih _).2, post_queueEnable, post_alertEnable]; exact ⟨rfl, rfl⟩

/-- Settles O17: the boundary part by part, and each row by what is due for it. -/
theorem boundaryAdvancesHouseTime : Obligations.BoundaryAdvancesHouseTime := by
  refine ⟨⟨fun s inp low => ⟨s.boundary inp, exec_houseBlockBoundary low inp, ?_⟩, fun s inp low => ?_⟩, ?_⟩
  · have hbc : s.clock.judge.1.advance.hbc = s.clock.hbc + 1 := by simp [HouseClock.advance, judge_hbc]
    have sampled : (s.boundary inp).signals.sampled = inp.sigIn := by rw [boundary_signals]; rfl
    have mask : (s.boundary inp).signals.mask = s.signals.mask := by rw [boundary_signals]; rfl
    have members := (boundary_sameGroups s inp).members
    obtain ⟨t, ht, clock, commit, input, hlow, portA, portB, flows, slots, control, pending, ps, -, notices⟩ := boundary_frame s inp
    obtain ⟨queue, alert⟩ := postAll_queueEnable s.notices (s.clock.hbc + 1) ps
    rw [ht] at sampled mask members ⊢
    refine ⟨by rw [clock, hbc], by rw [clock]; rfl, ?_, by rw [clock]; rfl, sampled, mask, commit, fun j k hj hk => ?_,
      hlow.trans low, portA, portB, flows, slots, control, pending, by rw [notices, queue], by rw [notices, alert], members⟩
    · rw [State.hs, clock, hbc]
      exact BitVec.add_zero _
    · rw [input, captureInput_getD _ hj hk]
  · exact congrArg Host.Outcome.next (boundaryWhen_low low true inp)
  · rintro s inp row rfl
    exact ⟨row_of_due rfl (lockDue_iff s), fun g => row_of_due rfl (slipDue_at_iff s g), fun g => row_of_due rfl (recentreDue_iff s g),
      fun g => row_of_due rfl (windowEndDue_iff s g), fun i p => row_of_due rfl (pathSilentDue_iff s i p), row_of_due rfl Iff.rfl,
      fun r => row_of_due rfl (packetDue_iff s r), row_of_due rfl (by simp [MeterUnit.periodDue])⟩

/-! ## The judgement of the reference -/

/-- The cells of R43 in which the reference state stands. -/
theorem judge_stands {c : HouseClock} (h : c.ref = .free ∨ c.ref = .holdover ∨ (c.ref = .locked ∧ c.edges ≠ 0)) : c.judge = (c, []) := by
  unfold HouseClock.judge
  obtain h | h | ⟨h, he⟩ := h
  · rw [h]
  · rw [h]
  · rw [h]
    cases hj : c.judgement with
    | full => rfl
    | partialBlock => rfl
    | absent => exact absurd ((judgement_absent_iff c).mp hj) he

theorem judge_locking_full {c : HouseClock} (hr : c.ref = .locking) (he : c.edges = BitVec.allOnes 48) : c.judge =
    if c.lockCount + 1 < 1000 then ({ c with lockCount := c.lockCount + 1 }, [])
    else ({ c with ref := .locked, lockCount := 0, fallbackHoldover := false },
      [{ kind := .houseRefLocked, subject := 0, detail := if c.fallbackHoldover then 1 else 0 }]) := by
  unfold HouseClock.judge
  rw [hr, (judgement_full_iff c).mpr he]

theorem judge_locking_partial {c : HouseClock} (hr : c.ref = .locking) (h0 : c.edges ≠ 0) (h1 : c.edges ≠ BitVec.allOnes 48) :
    c.judge = ({ c with lockCount := 0 }, []) := by
  unfold HouseClock.judge
  rw [hr, judgement_partial h0 h1]

theorem judge_locking_absent {c : HouseClock} (hr : c.ref = .locking) (he : c.edges = 0) : c.judge =
    ({ c with ref := if c.fallbackHoldover then .holdover else .free, lockCount := 0, fallbackHoldover := false }, []) := by
  unfold HouseClock.judge
  rw [hr, (judgement_absent_iff c).mpr he]

theorem judge_locked_absent {c : HouseClock} (hr : c.ref = .locked) (he : c.edges = 0) : c.judge =
    ({ c with ref := .holdover, losses := c.losses + 1 }, [{ kind := .houseRefLost, subject := 0, detail := 0 }]) := by
  unfold HouseClock.judge
  rw [hr, (judgement_absent_iff c).mpr he]

/-- Settles O18, cell by cell of R43. -/
theorem boundaryJudgesTheReference : Obligations.BoundaryJudgesTheReference := by
  intro s inp low
  have hbc : s.clock.judge.1.advance.hbc = s.clock.hbc + 1 := by simp [HouseClock.advance, judge_hbc]
  obtain ⟨t, ht, clock, -, -, -, -, -, -, -, -, -, ps, judged, notices⟩ := boundary_frame s inp
  have posted {p : Post} (hp : p ∈ s.clock.judge.2) : s.Posted t t.clock.hbc p := ⟨ps, judged p hp, by rw [clock, hbc, notices]⟩
  refine ⟨t, by rw [exec_houseBlockBoundary low, ht], fun h => ?_, fun hr he hc => ?_, fun hr he hc => ?_, fun hr h0 h1 => ?_,
    fun hr he => ?_, fun hr he => ?_⟩
  · rw [clock, judge_stands h]
    exact ⟨rfl, rfl, rfl⟩
  · rw [clock, judge_locking_full hr he, if_pos (by omega)]
    exact ⟨hr, rfl, rfl, rfl⟩
  · have judge := (judge_locking_full hr he).trans (if_neg (by omega))
    refine ⟨?_, ?_, ?_, ?_, posted (by rw [judge]; exact List.mem_singleton_self _)⟩
    · rw [(row_of_due rfl (lockDue_iff s) : _ ∧ _ ∧ _).2.2 ⟨hr, he, hc⟩, exec_houseBlockBoundary low, ht]
    all_goals rw [clock, judge]; rfl
  · rw [clock, judge_locking_partial hr h0 h1]
    exact ⟨hr, rfl, rfl, rfl⟩
  · rw [clock, judge_locking_absent hr he]
    exact ⟨rfl, rfl, rfl⟩
  · have judge := judge_locked_absent hr he
    refine ⟨by rw [clock, judge]; rfl, by rw [clock, judge]; rfl, posted (by rw [judge]; exact List.mem_singleton_self _)⟩

end Sys2Proof.Machine
end

section
/-! SUPPORT. One group's part of a boundary (R54): its place among the groups, the draw and the recentre of each member, the notices that
they post; and O35. -/

namespace Sys2Proof.Machine

/-! ## Where a group's work stands in the boundary -/

/-- A notice posted after changes of streams, groups and notices alone. -/
theorem State.Posted.after_change {s t u : State} {p : Post} (k : s.DrawChange t) (h : t.Posted u t.clock.hbc p) :
    s.Posted u s.clock.hbc p := by
  obtain ⟨ps, hp, e⟩ := h
  obtain ⟨qs, earlier⟩ := k
  have notices : t.notices = s.notices.postAll s.clock.hbc qs := by rw [earlier]
  have clock : t.clock = s.clock := by rw [earlier]
  exact ⟨qs ++ ps, List.mem_append_right _ hp, by rw [e, clock, notices, postAll_append]⟩

/-- A group does its boundary work in a state `u` that holds its record as before, and its members' records, and what the work leaves of
them and posts is what the boundary does. -/
theorem groupsBoundary_at (s : State) (g : Fin 16) : ∃ u : State, s.DrawChange u ∧ u.group g = s.group g ∧
    s.groupsBoundary.1.group g = (u.groupBoundary g).1.group g ∧
    (s.MembershipOk → ∀ j ∈ (s.group g).members, u.stream j = s.stream j ∧
      s.groupsBoundary.1.stream j = (u.groupBoundary g).1.stream j) ∧
    ∀ p, u.Posted (u.groupBoundary g).1 u.clock.hbc p → s.Posted s.groupsBoundary.1 s.clock.hbc p := by
  obtain ⟨before, after, hbefore, hafter, split⟩ := groupsBoundary_split s g
  have change := throughGroups_change s before
  have others {gs : List (Fin 16)} (hg : g ∉ gs) (hm : s.MembershipOk) {j : Fin 32} (hj : j ∈ (s.group g).members) :
      ∀ k ∈ gs, j ∉ (s.group k).members := fun k hk => hm.notin hj fun e => hg (e ▸ hk)
  refine ⟨s.throughGroups before, change, throughGroups_group_notin s hbefore, ?_, fun hm j hj => ⟨?_, ?_⟩, fun p hp => ?_⟩
  · rw [split, throughGroups_group_notin _ hafter]
  · exact throughGroups_stream_notin s (others hbefore hm hj)
  · rw [split]
    refine throughGroups_stream_notin _ fun k hk => ?_
    rw [groupBoundary_members, throughGroups_members]
    exact others hafter hm hj k hk
  · rw [split]
    refine (State.Posted.after_change change hp).then_change (throughGroups_change _ after) ?_
    exact (change.trans (groupBoundary_change _ g)).clock

/-- The same within the whole boundary. -/
theorem boundary_at (s : State) (inp : BoundaryInput) (g : Fin 16) : ∃ u : State, u.clock.hbc = s.clock.hbc + 1 ∧ u.group g = s.group g ∧
    (s.boundary inp).group g = (u.groupBoundary g).1.group g ∧
    (s.MembershipOk → ∀ j ∈ (s.group g).members, u.stream j = s.stream j ∧
      (s.boundary inp).stream j = Stream.watchBoundary (s.stream j) ((u.groupBoundary g).1.stream j)) ∧
    ∀ p, u.Posted (u.groupBoundary g).1 u.clock.hbc p → s.Posted (s.boundary inp) (s.boundary inp).clock.hbc p := by
  have group (h : Fin 16) : (s.beforeDraws inp).group h = s.group h := by rw [beforeDraws_eq]; rfl
  have stream (j : Fin 32) : (s.beforeDraws inp).stream j = s.stream j := by rw [beforeDraws_eq]; rfl
  obtain ⟨u, change, hu, hg, members, posted⟩ := groupsBoundary_at (s.beforeDraws inp) g
  simp only [group, stream] at hu members
  refine ⟨u, ?_, hu, by rw [boundary_group, hg], fun hm j hj => ?_, fun p hp => boundary_posted (posted p hp)⟩
  · rw [change.clock, beforeDraws_eq]
    simp [HouseClock.advance, judge_hbc]
  · have listed : (s.beforeDraws inp).MembershipOk := hm.of_same (fun h => by rw [group]) fun j => by rw [stream]; exact .refl _
    obtain ⟨before, after⟩ := members listed j hj
    exact ⟨before, by rw [boundary_stream, after]⟩

/-! ## A member of a list, at its turn -/

/-- A fold at the turn of one element that stands once in the list: what it does there, between what the others do. -/
theorem foldl_at_turn {α β : Type} {l : List α} {i : α} (hi : i ∈ l) (once : l.Nodup) (f : β → α → β) (b : β) :
    ∃ before after : List α, i ∉ before ∧ i ∉ after ∧ l.foldl f b = after.foldl f (f (before.foldl f b) i) := by
  obtain ⟨before, after, rfl⟩ := List.append_of_mem hi
  rw [List.nodup_middle, List.nodup_cons, List.mem_append, not_or] at once
  exact ⟨before, after, once.1.1, once.1.2, by rw [List.foldl_append, List.foldl_cons]⟩

theorem drawMembers_stream_notin (ctx : DrawContext) (q : Word) {is : List (Fin 32)} {i : Fin 32} (h : i ∉ is)
    (a : State × List (Fin 32 × Drawn)) : (is.foldl (drawMember ctx q) a).1.stream i = a.1.stream i :=
  foldl_rel (R := fun a b : State × List (Fin 32 × Drawn) => b.1.stream i = a.1.stream i) (fun _ => rfl) (fun e f => f.trans e)
    (fun a _ hk => drawMember_stream_ne ctx q a fun e => h (e ▸ hk)) a

theorem recentreMembers_stream_notin (ctx : DrawContext) (q : Word) (adj : Int) {is : List (Fin 32)} {i : Fin 32} (h : i ∉ is)
    (s : State) : (is.foldl (recentreMember ctx q adj) s).stream i = s.stream i :=
  foldl_rel (R := fun s t : State => t.stream i = s.stream i) (fun _ => rfl) (fun e f => f.trans e)
    (fun s _ hk => recentreMember_stream_ne ctx q adj s fun e => h (e ▸ hk)) s

/-- Stage 2 for one member: its record is drawn, when its state says so, and its notices are posted (R77). -/
theorem drawMembers_at {is : List (Fin 32)} {i : Fin 32} (hi : i ∈ is) (once : is.Nodup) (ctx : DrawContext) (q : Word)
    (a : State × List (Fin 32 × Drawn)) {x : Stream} (hx : a.1.stream i = x) :
    (x.state.drawn = false → (is.foldl (drawMember ctx q) a).1.stream i = x) ∧
    (x.state.drawn = true → (is.foldl (drawMember ctx q) a).1.stream i = (x.draw ctx i (x.offsetAt ctx.hbc q)).1 ∧
      ∀ p ∈ (x.draw ctx i (x.offsetAt ctx.hbc q)).2.2, a.1.Posted (is.foldl (drawMember ctx q) a).1 a.1.clock.hbc p) := by
  obtain ⟨before, after, hbefore, hafter, turn⟩ := foldl_at_turn hi once (drawMember ctx q) a
  have own : (before.foldl (drawMember ctx q) a).1.stream i = x := (drawMembers_stream_notin ctx q hbefore a).trans hx
  have change := drawMembers_change ctx q before a
  rw [turn]
  generalize before.foldl (drawMember ctx q) a = b at own change
  rw [drawMembers_stream_notin ctx q hafter]
  refine ⟨fun hd => ?_, fun hd => ?_⟩
  · simp [drawMember, own, hd]
  · have drawn : drawMember ctx q b i = ((b.1.setStream i (x.draw ctx i (x.offsetAt ctx.hbc q)).1).postAll
        (x.draw ctx i (x.offsetAt ctx.hbc q)).2.2, b.2 ++ [(i, (x.draw ctx i (x.offsetAt ctx.hbc q)).2.1)]) := by
      simp only [drawMember, own, hd, if_true]
    refine ⟨by rw [drawn]; simp, fun p hp => ?_⟩
    refine (State.Posted.after_change change (u := (drawMember ctx q b i).1) ?_).then_change (drawMembers_change ctx q after _)
      (change.trans (drawMember_change ctx q b i)).clock
    rw [drawn]
    exact ⟨_, hp, rfl⟩

/-- Stage 3 for one member: the recentre acts on it when it is still drawn (R60, log 13). -/
theorem recentreMembers_at {is : List (Fin 32)} {i : Fin 32} (hi : i ∈ is) (once : is.Nodup) (ctx : DrawContext) (q : Word) (adj : Int)
    (s : State) {x : Stream} (hx : s.stream i = x) {y : Stream × List Post}
    (hy : y = if x.state.drawn then x.recentre i (x.offsetAt ctx.hbc q + ctx.slip.sources) adj else (x, [])) :
    (is.foldl (recentreMember ctx q adj) s).stream i = y.1 ∧
      ∀ p ∈ y.2, s.Posted (is.foldl (recentreMember ctx q adj) s) s.clock.hbc p := by
  obtain ⟨before, after, hbefore, hafter, turn⟩ := foldl_at_turn hi once (recentreMember ctx q adj) s
  have own : (before.foldl (recentreMember ctx q adj) s).stream i = x := (recentreMembers_stream_notin ctx q adj hbefore s).trans hx
  have change := recentreMembers_change ctx q adj before s
  rw [turn]
  generalize before.foldl (recentreMember ctx q adj) s = b at own change
  rw [recentreMembers_stream_notin ctx q adj hafter]
  by_cases hd : x.state.drawn = true
  · rw [if_pos hd] at hy
    have moved : recentreMember ctx q adj b i = (b.setStream i y.1).postAll y.2 := by
      simp only [recentreMember, own, hd, if_true, hy]
    refine ⟨by rw [moved]; simp, fun p hp => ?_⟩
    refine (State.Posted.after_change change (u := recentreMember ctx q adj b i) ?_).then_change (recentreMembers_change ctx q adj after _)
      (change.trans (recentreMember_change ctx q adj b i)).clock
    rw [moved]
    exact ⟨_, hp, rfl⟩
  · rw [if_neg hd] at hy
    subst hy
    refine ⟨?_, nofun⟩
    simp [recentreMember, own, hd]

/-! ## The notices of a recentre, and the record before a window end -/

/-- A recentre that a group's boundary work performs is posted (R60). -/
theorem groupBoundary_posted_recentre {s : State} {g : Fin 16} {adj : Int} (ha : (s.group g).anchored = true)
    (hp : (s.group g).pending = some adj) :
    s.Posted (s.groupBoundary g).1 s.clock.hbc { kind := .recentre, subject := g.val, detail := adj } := by
  have drawn := (drawGroup_change s g).setGroup g (s.group g).slipDecision.1
  have recentred : s.Posted (((s.drawGroup g).1.setGroup g (s.group g).slipDecision.1).recentreGroup g (s.group g)) s.clock.hbc
      { kind := .recentre, subject := g.val, detail := adj } := by
    generalize (s.drawGroup g).1.setGroup g (s.group g).slipDecision.1 = t at drawn
    refine State.Posted.after_change drawn ?_
    simp only [State.recentreGroup, hp]
    have members := recentreMembers_change ((s.group g).drawContext t.clock.hbc) ((s.group g).q.getD 0) adj (s.group g).members t
    exact State.Posted.after_change (members.setGroup g _) ⟨[_], List.mem_singleton_self _, rfl⟩
  rw [groupBoundary_eq ha]
  refine (recentred.then_change ((State.DrawChange.refl _).setGroup g _) ?_).then_change (advanceWindow_change _ g) ?_
  · exact (drawn.trans (recentreGroup_change _ g _)).clock
  · exact (stage4_change s g).clock

/-- A boundary that does not end the window advances it, or starts it (R55). -/
theorem afterBoundary_eq {g : Group} (h : ∀ n k, g.window = some (n, k) → k + 1 < 1000) (mins : List (Fin 32 × Option Word)) :
    g.afterBoundary mins = { g.afterStage4 with window := some (match g.window with
      | some w => (w.1, w.2 + 1)
      | none => (0, 0)) } := by
  unfold Group.afterBoundary
  rw [afterStage4_window]
  cases hw : g.window with
  | none => rfl
  | some w =>
    obtain ⟨n, k⟩ := w
    exact if_pos (h n k hw)

/-- The slip that the draws of a boundary carry (R97, R98). -/
theorem slipDecision_slip (g : Group) : g.slipDecision.2 =
    if g.slipDue then (if g.dir = .repeating then .repeatAt ((advanceSlip g.lfsr).toNat % 47 + 1)
      else .dropAt ((advanceSlip g.lfsr).toNat % 47 + 1)) else .steady := by
  unfold Group.slipDecision
  rw [slipDue_iff]
  cases g.dir with
  | steady => rfl
  | repeating => by_cases hc : g.countdown ≤ 1 <;> simp [hc, slipPosition]
  | dropping => by_cases hc : g.countdown ≤ 1 <;> simp [hc, slipPosition]

/-- Settles O35: the record that stages 1 to 4 leave, with its window advanced. -/
theorem slipsAndRecentresMoveQ : Obligations.SlipsAndRecentresMoveQ := by
  refine ⟨?_, fun s inp i low ha => ⟨_, exec_houseBlockBoundary low inp, boundary_group_unanchored s inp i ha⟩⟩
  rintro s inp i g q v due low rfl ha hq hw rfl rfl
  refine ⟨s.boundary inp, exec_houseBlockBoundary low inp, fun hdue => ?_, fun hp => ?_, ?_, fun adj hp => ?_, ?_⟩
  · rw [(row_of_due rfl (slipDue_at_iff s i)).2.2 ⟨ha, by simpa using hdue⟩, exec_houseBlockBoundary low]
  · rw [(row_of_due rfl (recentreDue_iff s i)).2.2 ⟨ha, hp⟩, exec_houseBlockBoundary low]
  · obtain ⟨mins, e⟩ := boundary_group_anchored s inp i ha
    rw [e, afterBoundary_eq hw, afterStage4_eq, hq, slipDue_iff, advanceSlip_eq]
    rfl
  · obtain ⟨u, -, hu, -, -, posted⟩ := boundary_at s inp i
    exact posted _ (groupBoundary_posted_recentre (by rw [hu]; exact ha) (by rw [hu]; exact hp))
  · rw [← slipDue_iff, ← advanceSlip_eq, ← slipDecision_slip]
    rfl

end Sys2Proof.Machine
end

section
/-! SUPPORT. The record of a stream through a boundary (R54, R75, R77): what stages 1 to 5 of its group leave of it and post for it; and
what a boundary leaves of a stream that is not drawn. -/

namespace Sys2Proof.Machine

/-- The draw of a member at a boundary (R77). -/
def Group.drawOf (g : Group) (hbc : Word) (i : Fin 32) (x : Stream) : Stream × Drawn × List Post :=
  x.draw (g.drawContext hbc) i (x.offsetAt hbc (g.q.getD 0))

/-- What a boundary's recentre, if one is performed, leaves of a member after its draw and posts for it (R60, log 13). -/
def Group.recentreOf (g : Group) (hbc : Word) (i : Fin 32) (x : Stream) : Stream × List Post :=
  match g.pending with
  | none => ((g.drawOf hbc i x).1, [])
  | some adj =>
    if (g.drawOf hbc i x).1.state.drawn then
      (g.drawOf hbc i x).1.recentre i (x.offsetAt hbc (g.q.getD 0) + g.slipDecision.2.sources) adj
    else ((g.drawOf hbc i x).1, [])

/-- A notice posted at an HBC that changes of streams, groups and notices alone leave. -/
theorem State.Posted.then_posts {s t u : State} {hbc : Word} {p : Post} (h : s.Posted t hbc p) (k : t.DrawChange u)
    (hc : t.clock.hbc = hbc) : s.Posted u hbc p := by
  obtain ⟨ps, hp, e⟩ := h
  obtain ⟨qs, later⟩ := k
  exact ⟨ps ++ qs, List.mem_append_left qs hp, by rw [later, e, hc, postAll_append]⟩

/-- A drawn stream keeps its origin, and so its offset, through its draw. -/
theorem drawOf_offsetAt {x : Stream} (hd : x.state.drawn = true) (g : Group) (hbc q : Word) (i : Fin 32) :
    (g.drawOf hbc i x).1.offsetAt hbc q = x.offsetAt hbc q := by
  unfold Stream.offsetAt Group.drawOf
  rw [(draw_continues (StreamState.holdsTimeline_of_drawn hd) _ i _).origin]

/-- Stages 1 to 4 on a drawn member (R54). -/
theorem stage4_member {s : State} {g : Fin 16} {i : Fin 32} (hi : i ∈ (s.group g).members) (once : (s.group g).members.Nodup)
    (hd : (s.stream i).state.drawn = true) :
    (s.stage4 g).stream i = ((s.group g).recentreOf s.clock.hbc i (s.stream i)).1 ∧
    ∀ p ∈ ((s.group g).drawOf s.clock.hbc i (s.stream i)).2.2 ++ ((s.group g).recentreOf s.clock.hbc i (s.stream i)).2,
      s.Posted (s.stage4 g) s.clock.hbc p := by
  obtain ⟨-, drawn⟩ := drawMembers_at hi once ((s.group g).drawContext s.clock.hbc) ((s.group g).q.getD 0) (s, []) rfl
  obtain ⟨own, posted⟩ := drawn hd
  have change := drawGroup_change s g
  have decided := change.setGroup g (s.group g).slipDecision.1
  have offset := drawOf_offsetAt hd (s.group g) s.clock.hbc ((s.group g).q.getD 0) i
  have result : (s.stage4 g).stream i =
      (((s.drawGroup g).1.setGroup g (s.group g).slipDecision.1).recentreGroup g (s.group g)).stream i := rfl
  have settled : (((s.drawGroup g).1.setGroup g (s.group g).slipDecision.1).recentreGroup g (s.group g)).DrawChange (s.stage4 g) :=
    (State.DrawChange.refl _).setGroup g _
  rw [result]
  have held : ((s.drawGroup g).1.setGroup g (s.group g).slipDecision.1).stream i = ((s.group g).drawOf s.clock.hbc i (s.stream i)).1 := own
  have drew : ∀ p ∈ ((s.group g).drawOf s.clock.hbc i (s.stream i)).2.2,
      s.Posted ((s.drawGroup g).1.setGroup g (s.group g).slipDecision.1) s.clock.hbc p := posted
  have clock : ((s.drawGroup g).1.setGroup g (s.group g).slipDecision.1).clock = s.clock := decided.clock
  generalize (s.drawGroup g).1.setGroup g (s.group g).slipDecision.1 = t at decided settled held drew clock
  have recentred := recentreGroup_change t g (s.group g)
  have drewAll (p) (hp : p ∈ ((s.group g).drawOf s.clock.hbc i (s.stream i)).2.2) : s.Posted (s.stage4 g) s.clock.hbc p :=
    (drew p hp).then_change (recentred.trans settled) clock
  unfold Group.recentreOf
  cases hp : (s.group g).pending with
  | none =>
    refine ⟨by simp only [State.recentreGroup, hp]; exact held, fun p hmem => drewAll p (by simpa using hmem)⟩
  | some adj =>
    obtain ⟨moved, told⟩ := recentreMembers_at hi once ((s.group g).drawContext t.clock.hbc) ((s.group g).q.getD 0) adj t held rfl
    rw [clock, show ((s.group g).drawContext s.clock.hbc).hbc = s.clock.hbc from rfl, offset] at moved told
    refine ⟨?_, fun p hmem => ?_⟩
    · simp only [State.recentreGroup, hp, clock]
      exact moved
    · obtain hmem | hmem := List.mem_append.mp hmem
      · exact drewAll p hmem
      · refine (State.Posted.after_change decided ?_).then_change settled (decided.trans recentred).clock
        simp only [State.recentreGroup, hp, clock]
        refine State.Posted.then_posts (told p hmem) (((State.DrawChange.refl _).setGroup g _).post _) ?_
        rw [(recentreMembers_change _ _ adj _ t).clock, clock]

/-- Stages 1 to 4 leave a member that is not drawn. -/
theorem stage4_undrawn {s : State} {g : Fin 16} {i : Fin 32} (hi : i ∈ (s.group g).members) (once : (s.group g).members.Nodup)
    (hd : (s.stream i).state.drawn = false) : (s.stage4 g).stream i = s.stream i := by
  obtain ⟨stands, -⟩ := drawMembers_at hi once ((s.group g).drawContext s.clock.hbc) ((s.group g).q.getD 0) (s, []) rfl
  have own : ((s.drawGroup g).1.setGroup g (s.group g).slipDecision.1).stream i = s.stream i := stands hd
  have result : (s.stage4 g).stream i =
      (((s.drawGroup g).1.setGroup g (s.group g).slipDecision.1).recentreGroup g (s.group g)).stream i := rfl
  rw [result]
  generalize (s.drawGroup g).1.setGroup g (s.group g).slipDecision.1 = t at own
  unfold State.recentreGroup
  cases (s.group g).pending with
  | none => exact own
  | some adj =>
    exact (recentreMembers_at hi once ((s.group g).drawContext t.clock.hbc) ((s.group g).q.getD 0) adj t own rfl).1.trans (by simp [hd])

/-- Stage 5 on a member: its window rolls over at a window end, and stands otherwise (R55, R95). -/
theorem advanceWindow_stream {s : State} {g : Fin 16} {i : Fin 32} (hi : i ∈ (s.group g).members) {closes : Bool}
    (h : closes = true ↔ ∃ n k, (s.group g).window = some (n, k) ∧ 999 ≤ k) : (s.advanceWindow g).stream i =
      if closes then { s.stream i with clock := (s.stream i).clock.roll, windowMismatches := 0 } else s.stream i := by
  by_cases hc : ∃ n k, (s.group g).window = some (n, k) ∧ 999 ≤ k
  · obtain ⟨n, k, hw, hk⟩ := hc
    rw [advanceWindow_at_end hw hk, windowEnd_stream, if_pos hi, if_pos (h.mpr ⟨n, k, hw, hk⟩)]
  · rw [if_neg (mt h.mp hc)]
    unfold State.advanceWindow
    dsimp only
    split
    · rfl
    next n k hw =>
      split
      · rfl
      next hk => exact absurd ⟨n, k, hw, by simp only [Config.windowBlocks] at hk; omega⟩ hc

theorem drawn_of_pathWatched {st : StreamState} (h : st.pathWatched = true) : st.drawn = true := by
  obtain rfl | rfl | rfl := (pathWatched_iff st).mp h
  all_goals rfl

/-- The path watch of a boundary stands for a stream that is not drawn (R75). -/
theorem watchBoundary_undrawn {x : Stream} (h : x.state.drawn = false) (y : Stream) : Stream.watchBoundary x y = y :=
  if_neg fun hw => Bool.false_ne_true (h.symm.trans (drawn_of_pathWatched hw))

/-- A boundary on a member of an ANCHORED group (R54, R75, R77, R95). -/
theorem boundary_member {s : State} {inp : BoundaryInput} {i : Fin 32} {k : Fin 16} {x : Stream} {g : Group} (hm : s.MembershipOk)
    (hi : i ∈ (s.group k).members) (hx : s.stream i = x) (hg : s.group k = g) (ha : g.anchored = true) {closes : Bool}
    (hc : closes = true ↔ ∃ n k, g.window = some (n, k) ∧ 999 ≤ k) {rolled : Stream → Stream}
    (hr : rolled = fun u => { u with clock := u.clock.roll, windowMismatches := 0 }) :
    (x.state.drawn = true →
      (s.boundary inp).stream i = Stream.watchBoundary x
        (if closes then rolled (g.recentreOf (s.clock.hbc + 1) i x).1 else (g.recentreOf (s.clock.hbc + 1) i x).1) ∧
      ∀ p ∈ (g.drawOf (s.clock.hbc + 1) i x).2.2 ++ (g.recentreOf (s.clock.hbc + 1) i x).2,
        s.Posted (s.boundary inp) (s.boundary inp).clock.hbc p) ∧
    (x.state.drawn = false → (s.boundary inp).stream i = if closes then rolled x else x) := by
  obtain ⟨u, hbc, hu, -, members, posted⟩ := boundary_at s inp k
  obtain ⟨before, after⟩ := members hm i hi
  have once : (u.group k).members.Nodup := by rw [hu]; exact hm.noRepeat k
  have listed : i ∈ (u.group k).members := by rw [hu]; exact hi
  have own : u.group k = g := hu.trans hg
  have record : u.stream i = x := before.trans hx
  have anchored : (u.group k).anchored = true := by rw [own]; exact ha
  have ended : ((u.stage4 k).advanceWindow k).stream i = if closes then rolled ((u.stage4 k).stream i) else (u.stage4 k).stream i := by
    subst hr
    refine advanceWindow_stream ?_ ?_
    · rw [stage4_group_self, afterStage4_members]; exact listed
    · rw [stage4_group_self, afterStage4_window, own]; exact hc
  rw [groupBoundary_eq anchored, ended, hx] at after
  rw [after]
  refine ⟨fun hd => ?_, fun hd => ?_⟩
  · obtain ⟨staged, told⟩ := stage4_member listed once (by rw [record]; exact hd)
    rw [own, record, hbc] at staged told
    refine ⟨by rw [staged], fun p hp => posted p ?_⟩
    rw [groupBoundary_eq anchored]
    refine (told p hp).then_posts (advanceWindow_change _ k) ?_ |> fun h => by rw [hbc]; exact h
    rw [(stage4_change u k).clock, hbc]
  · have staged := stage4_undrawn listed once (by rw [record]; exact hd)
    rw [staged, record, watchBoundary_undrawn hd]

/-- A boundary leaves a CLOSED stream, and one that is not drawn in an UNANCHORED group (R54). -/
theorem boundary_stream_idle {s : State} {inp : BoundaryInput} {i : Fin 32} (hm : s.MembershipOk)
    (h : (s.stream i).state = .closed ∨ ((s.stream i).state.drawn = false ∧ (s.group (s.stream i).group).anchored = false)) :
    (s.boundary inp).stream i = s.stream i := by
  by_cases hc : (s.stream i).state = .closed
  · have stream : (s.beforeDraws inp).stream i = s.stream i := by rw [beforeDraws_eq]; rfl
    have unlisted (g : Fin 16) : i ∉ ((s.beforeDraws inp).group g).members := by rw [beforeDraws_eq]; exact hm.not_mem hc g
    rw [boundary_stream, watchBoundary_undrawn (by rw [hc]; rfl), groupsBoundary_eq, throughGroups_stream_notin _ fun g _ => unlisted g,
      stream]
  · obtain ⟨hd, ha⟩ := h.resolve_left hc
    obtain ⟨u, -, hu, -, members, -⟩ := boundary_at s inp (s.stream i).group
    obtain ⟨before, after⟩ := members hm i (hm.mem hc)
    rw [after, watchBoundary_undrawn hd, groupBoundary_group_unanchored u _ (by rw [hu]; exact ha), before]

end Sys2Proof.Machine
end

section
/-! SUPPORT. The draw of a stream, position by position (R60, R62, R77, R78): its fade-out, and its silence below the served-to
position. -/

namespace Sys2Proof.Machine

/-! ## The fade-out of a recentre (R60) -/

theorem fadeOutFrames_getD (fs : List Frame) (n : Nat) : (fadeOutFrames fs).getD n [] =
    (fs.getD n []).map fun v => sampleOf (Int.tdiv (v.toInt * ((47 - n : Nat) : Int)) 48) := by
  simp only [fadeOutFrames, List.getD_eq_getElem?_getD, List.getElem?_map, List.getElem?_zipIdx]
  cases fs[n]? with
  | none => rfl
  | some f => simp [fadeFrame, fadeSample, divTrunc]

/-- A draw fades its frames out, and is otherwise the draw without a fade-out. -/
theorem draw_faded (x : Stream) {ctx : DrawContext} (h : ctx.fade = true) (i : Fin 32) (pos : Int) :
    (x.draw ctx i pos).1 = (x.draw { ctx with fade := false } i pos).1 ∧
    (x.draw ctx i pos).2.2 = (x.draw { ctx with fade := false } i pos).2.2 ∧
    (x.draw ctx i pos).2.1.frames = fadeOutFrames (x.draw { ctx with fade := false } i pos).2.1.frames :=
  ⟨rfl, rfl, if_pos h⟩

/-! ## Silence -/

/-- A frame of silence. -/
def SilentFrame (f : Frame) : Prop := ∀ v ∈ f, v = 0

theorem silence_silent (x : Stream) : SilentFrame x.silence := fun _ h => List.eq_of_mem_replicate h

theorem SilentFrame.nil : SilentFrame [] := nofun

theorem SilentFrame.faded {f : Frame} (h : SilentFrame f) (k : Nat) : SilentFrame (fadeFrame f k) := by
  intro v hv
  obtain ⟨w, hw, rfl⟩ := List.mem_map.mp hv
  rw [h w hw]
  simp [fadeSample, divTrunc, sampleOf]

/-- A place of a list of silent frames is silent. -/
theorem silent_getD {fs : List Frame} (h : ∀ f ∈ fs, SilentFrame f) (n : Nat) : SilentFrame (fs.getD n []) := by
  rw [List.getD_eq_getElem?_getD]
  cases e : fs[n]? with
  | none => exact .nil
  | some f => exact h f (List.mem_of_getElem? e)

theorem fadeOut_silent {fs : List Frame} {n : Nat} (h : SilentFrame (fs.getD n [])) : SilentFrame ((fadeOutFrames fs).getD n []) := by
  rw [List.getD_eq_getElem?_getD] at h ⊢
  simp only [fadeOutFrames, List.getElem?_map, List.getElem?_zipIdx]
  cases e : fs[n]? with
  | none => exact .nil
  | some f =>
    rw [e] at h
    exact SilentFrame.faded h _

theorem mem_of_mem_mapSlip {slip : Slip} {fs : List Frame} {f : Frame} (h : f ∈ mapSlip slip fs) : f ∈ fs := by
  cases slip with
  | steady => exact h
  | dropAt p => exact h
  | repeatAt p =>
    simp only [mapSlip, List.mem_append] at h
    obtain (h | h) | h := h
    · exact List.mem_of_mem_take h
    · exact List.mem_of_mem_drop (List.mem_of_mem_take h)
    · exact List.mem_of_mem_drop h

/-- Every position before the served-to position is silence (R62, R78). -/
theorem place_before_servedTo {x : Stream} {t pos : Int} (h : x.servedTo = some t) (hp : pos < t) : x.place pos = none := by
  simp only [Stream.place, h, Option.any_some, decide_eq_true hp, if_true, ite_self]

theorem serve_silence {a : DrawAcc} {pos : Int} (h : a.x.place pos = none) (i : Fin 32) (hbc : Word) (limit : Nat) :
    a.serve i hbc limit pos = a.serveSilence := by
  simp only [DrawAcc.serve, h, ite_self]

theorem omitted_silence {a : DrawAcc} {pos : Int} (h : a.x.place pos = none) : a.omitted pos = a := by
  simp only [DrawAcc.omitted, h, ite_self]

/-! ## One position -/

/-- Serving a position yields one frame, and moves the served-to position no further (R77, R78). -/
theorem serve_yields (a : DrawAcc) (i : Fin 32) (hbc : Word) (limit : Nat) (pos : Int) :
    (∃ f, (a.serve i hbc limit pos).out = a.out ++ [f]) ∧ (a.serve i hbc limit pos).x.servedTo = a.x.servedTo := by
  have missing (q : Word) (n : Nat) : (∃ f, (a.serveMissing i hbc limit q n).out = a.out ++ [f]) ∧
      (a.serveMissing i hbc limit q n).x.servedTo = a.x.servedTo := by
    unfold DrawAcc.serveMissing
    dsimp only
    split
    · split
      · exact ⟨⟨_, rfl⟩, rfl⟩
      · exact ⟨⟨_, rfl⟩, rfl⟩
      · exact ⟨⟨_, rfl⟩, rfl⟩
    · exact ⟨⟨_, rfl⟩, rfl⟩
  unfold DrawAcc.serve
  split
  · exact ⟨⟨_, rfl⟩, rfl⟩
  split
  · exact ⟨⟨_, rfl⟩, rfl⟩
  split
  · split
    · exact ⟨⟨_, rfl⟩, rfl⟩
    · exact missing _ _
  · split
    · exact ⟨⟨_, rfl⟩, rfl⟩
    · exact missing _ _
  · exact missing _ _

theorem omitted_servedTo (a : DrawAcc) (pos : Int) : (a.omitted pos).x.servedTo = a.x.servedTo := by
  unfold DrawAcc.omitted
  split
  · rfl
  split
  · rfl
  split
  · split
    · split <;> rfl
    · split <;> rfl
    · rfl
  · rfl

theorem drawStep_servedTo (ctx : DrawContext) (i : Fin 32) (pos : Int) (a : DrawAcc) (k : Nat) :
    (DrawAcc.step ctx i pos a k).x.servedTo = a.x.servedTo := by
  unfold DrawAcc.step
  split
  · exact omitted_servedTo a _
  · exact (serve_yields a i ctx.hbc ctx.limit _).2

theorem visit_servedTo (x : Stream) (ctx : DrawContext) (i : Fin 32) (pos : Int) : (x.visit ctx i pos).x.servedTo = x.servedTo :=
  foldl_rel (R := fun a b : DrawAcc => b.x.servedTo = a.x.servedTo) (fun _ => rfl) (fun e f => f.trans e)
    (fun a k _ => drawStep_servedTo ctx i pos a k) _

/-! ## After the positions -/

/-- What the state moves and the headroom test after a draw leave: the buffer with its counters and its concealment state. -/
def Stream.buffer (x : Stream) : Option Int × List Slot × Option Word × StreamCounters × Conceal :=
  (x.servedTo, x.ring, x.ePlay, x.counters, x.conceal)

theorem afterDraw_buffer (x : Stream) (i : Fin 32) (hbc : Word) (last : Int) (completed : List Word) (first : Option Word) :
    (x.afterDraw i hbc last completed first).1.buffer = x.buffer := by
  unfold Stream.afterDraw
  split
  · split <;> rfl
  · split <;> rfl
  · rfl

theorem headroomTest_buffer (x : Stream) (i : Fin 32) (warning : Nat) (next : Int) : (x.headroomTest i warning next).1.buffer = x.buffer := by
  unfold Stream.headroomTest
  split
  · dsimp only
    split
    · rfl
    · split <;> rfl
  · rfl

theorem release_servedTo (x : Stream) (qs : List Word) : (x.release qs).servedTo = x.servedTo := by
  have step (y : Stream) (q : Word) : ({ y.setSlot q .empty with ePlay := some (q + 1) } : Stream).servedTo = y.servedTo := rfl
  exact foldl_rel (R := fun x y : Stream => y.servedTo = x.servedTo) (fun _ => rfl) (fun e f => f.trans e) (fun y q _ => step y q) x

/-- A draw leaves the buffer that its positions and releases leave, with the served-to position absent once it is passed (R62, R79). -/
theorem draw_buffer (x : Stream) (ctx : DrawContext) (i : Fin 32) (pos : Int) : (x.draw ctx i pos).1.buffer =
    (((x.visit ctx i pos).x.release (x.visit ctx i pos).completed).clearServedTo (pos + ctx.slip.sources - 1)).buffer := by
  have cleared {y z : Stream} (h : y.buffer = z.buffer) (last : Int) : (y.clearServedTo last).buffer = (z.clearServedTo last).buffer := by
    simp only [Stream.buffer, Prod.mk.injEq, Stream.clearServedTo] at h ⊢
    obtain ⟨served, rest⟩ := h
    exact ⟨by rw [served], rest⟩
  exact (headroomTest_buffer _ i _ _).trans (cleared (afterDraw_buffer _ i _ _ _ _) _)

theorem draw_servedTo (x : Stream) (ctx : DrawContext) (i : Fin 32) (pos : Int) : (x.draw ctx i pos).1.servedTo =
    if x.servedTo.any (fun t => t ≤ pos + ctx.slip.sources - 1) then none else x.servedTo := by
  have left := congrArg Prod.fst (draw_buffer x ctx i pos)
  simp only [Stream.buffer, Stream.clearServedTo, release_servedTo, visit_servedTo] at left
  exact left

/-! ## A draw that a served-to position silences -/

/-- A draw that has served nothing but silence. -/
def DrawAcc.silent (x : Stream) (out : List Frame) : DrawAcc :=
  { x := x, posts := [], out := out, completed := [], firstArrival := none, halted := false }

theorem silent_step {x : Stream} (out : List Frame) {ctx : DrawContext} {pos : Int} {k : Nat} (h : x.place (pos + k) = none)
    (i : Fin 32) : DrawAcc.step ctx i pos (.silent x out) k = .silent x (out ++ if ctx.slip = .dropAt k then [] else [x.silence]) := by
  have place : (DrawAcc.silent x out).x.place (pos + k) = none := h
  unfold DrawAcc.step
  split
  · rw [omitted_silence place, List.append_nil]
  · rw [serve_silence place]
    rfl

/-- A draw whose positions all stand before the served-to position serves nothing but silence (R62, R78). -/
theorem visit_below_servedTo {x : Stream} {t pos : Int} (h : x.servedTo = some t) {ctx : DrawContext}
    (hp : pos + ctx.slip.sources ≤ t) (i : Fin 32) :
    ∃ out : List Frame, (∀ f ∈ out, SilentFrame f) ∧ x.visit ctx i pos = .silent x out := by
  have through (m : Nat) (hm : m ≤ ctx.slip.sources) : ∃ out : List Frame, (∀ f ∈ out, SilentFrame f) ∧
      (List.range m).foldl (DrawAcc.step ctx i pos) (.silent x []) = .silent x out := by
    induction m with
    | zero => exact ⟨[], nofun, rfl⟩
    | succ m ih =>
      obtain ⟨out, silent, e⟩ := ih (by omega)
      rw [List.range_succ, List.foldl_append, e, List.foldl_cons, List.foldl_nil, silent_step out (place_before_servedTo h (by omega))]
      refine ⟨_, fun f hf => ?_, rfl⟩
      obtain hf | hf := List.mem_append.mp hf
      · exact silent f hf
      · split at hf
        · cases hf
        · rw [List.mem_singleton.mp hf]; exact silence_silent x
  exact through _ le_rfl

theorem draw_below_servedTo {x : Stream} {t pos : Int} (h : x.servedTo = some t) {ctx : DrawContext} (hp : pos + ctx.slip.sources ≤ t)
    (i : Fin 32) : (∀ n, SilentFrame ((x.draw ctx i pos).2.1.frames.getD n [])) ∧ (x.draw ctx i pos).1.buffer = x.buffer := by
  obtain ⟨out, silent, e⟩ := visit_below_servedTo h hp i
  refine ⟨fun n => ?_, ?_⟩
  · have mapped : SilentFrame ((mapSlip ctx.slip out).getD n []) := silent_getD (fun f hf => silent f (mem_of_mem_mapSlip hf)) n
    simp only [Stream.draw, e, DrawAcc.silent]
    split
    · exact fadeOut_silent mapped
    · exact mapped
  · have ahead : ¬t ≤ pos + ctx.slip.sources - 1 := by omega
    rw [draw_buffer, e]
    simp only [DrawAcc.silent, Stream.release, List.foldl_nil, Stream.clearServedTo, Stream.buffer, h, Option.any_some,
      decide_eq_false ahead, Bool.false_eq_true, if_false]

/-- A draw with no slip yields one frame for each of its positions, and silence for those before the served-to position (R62, R77). -/
theorem visit_steady_silent {x : Stream} {t : Int} (h : x.servedTo = some t) {ctx : DrawContext} (hs : ctx.slip = .steady) (i : Fin 32)
    (pos : Int) {n : Nat} (hn : pos + n < t) : SilentFrame ((x.visit ctx i pos).out.getD n []) := by
  have through (m : Nat) : ∃ a : DrawAcc, (List.range m).foldl (DrawAcc.step ctx i pos)
      { x := x, posts := [], out := [], completed := [], firstArrival := none, halted := false } = a ∧ a.out.length = m ∧
      a.x.servedTo = some t ∧ SilentFrame (a.out.getD n []) := by
    induction m with
    | zero => exact ⟨_, rfl, rfl, h, .nil⟩
    | succ m ih =>
      obtain ⟨a, e, length, served, silent⟩ := ih
      have step : DrawAcc.step ctx i pos a m = a.serve i ctx.hbc ctx.limit (pos + m) := if_neg (by rw [hs]; nofun)
      obtain ⟨⟨f, yields⟩, kept⟩ := serve_yields a i ctx.hbc ctx.limit (pos + m)
      refine ⟨_, by rw [List.range_succ, List.foldl_append, e, List.foldl_cons, List.foldl_nil, step], ?_, kept.trans served, ?_⟩
      · rw [yields, List.length_append, length, List.length_singleton]
      · by_cases hnm : n = m
        · subst hnm
          rw [serve_silence (place_before_servedTo served hn), DrawAcc.serveSilence]
          simp only [List.getD_eq_getElem?_getD, ← length, List.getElem?_concat_length, Option.getD_some]
          exact silence_silent _
        · rw [yields, List.getD_eq_getElem?_getD]
          by_cases hlt : n < m
          · rw [List.getElem?_append_left (by omega), ← List.getD_eq_getElem?_getD]; exact silent
          · rw [List.getElem?_eq_none (by simp; omega)]; exact .nil
  obtain ⟨a, e, -, -, silent⟩ := through ctx.slip.sources
  unfold Stream.visit
  rw [e]
  exact silent

end Sys2Proof.Machine
end

section
/-! SUPPORT. What a recentre does to a drawn stream (R61, R62, R108, R110, R118); and O39. -/

namespace Sys2Proof.Machine

/-! ## The slots passed over (R61, R108) -/

/-- The slots of a run passed over, by the sequence that each holds. -/
def Slot.passedIn (lo hi : Word) : Slot → Bool
  | .filled b => inRun lo hi b.seq
  | .concealed q => inRun lo hi q
  | .empty => false

/-- Whether a slot's sample has been served: a FILLED one in part, a CONCEALED one by its declaration. -/
def Slot.wasServed : Slot → Bool
  | .filled b => b.served
  | .concealed _ => true
  | .empty => false

theorem clearedIn_eq (lo hi : Word) (y : Slot) : y.clearedIn lo hi = if y.passedIn lo hi then .empty else y := by
  cases y <;> rfl

theorem servedIn_eq (lo hi : Word) (y : Slot) : y.servedIn lo hi = (y.passedIn lo hi && y.wasServed) := by
  cases y with
  | empty => rfl
  | filled b => rfl
  | concealed q => exact (Bool.and_true _).symm

/-- The part served block of a run is the one slot of it that has been served, when that is the only one and is FILLED. -/
theorem partServed_of_filter {lo hi : Word} {ring : List Slot} {b : Block}
    (h : ring.filter (fun y => y.passedIn lo hi && y.wasServed) = [.filled b]) : partServed lo hi ring = some b := by
  induction ring with
  | nil => cases h
  | cons y ring ih =>
    unfold partServed at ih ⊢
    rw [List.findSome?_cons]
    rw [List.filter_cons] at h
    by_cases hy : (y.passedIn lo hi && y.wasServed) = true
    · rw [if_pos hy] at h
      obtain ⟨rfl, -⟩ := List.cons.inj h
      simp only [Slot.passedIn, Slot.wasServed] at hy
      simp [hy]
    · rw [if_neg hy] at h
      cases y with
      | empty => exact ih h
      | concealed q => exact ih h
      | filled c =>
        simp only [Slot.passedIn, Slot.wasServed] at hy
        simpa [hy] using ih h

theorem partServed_of_unserved {lo hi : Word} {ring : List Slot}
    (h : ∀ b : Block, .filled b ∈ ring → Slot.passedIn lo hi (.filled b) = true → b.served = false) : partServed lo hi ring = none := by
  unfold partServed
  rw [List.findSome?_eq_none_iff]
  intro y hy
  cases y with
  | empty => rfl
  | concealed q => rfl
  | filled b =>
    have unserved := h b hy
    simp only [Slot.passedIn] at unserved
    cases hr : inRun lo hi b.seq with
    | false => simp [hr]
    | true => simp [unserved hr]

/-- E_play advances to a sequence ahead of it (R61). -/
theorem passOver_ahead {x : Stream} {e hi : Word} (he : x.ePlay = some e) (h : 0 < sdiff hi e) : x.passOver hi =
    { x with
      ring := x.ring.map (fun y => if y.passedIn e hi then .empty else y)
      ePlay := some hi
      counters := { x.counters with
        skipped := x.counters.skipped + (hi - e) - BitVec.ofNat 32 (x.ring.countP fun y => y.passedIn e hi && y.wasServed) }
      conceal := match partServed e hi x.ring with
        | some b => x.conceal.completeReal b
        | none => x.conceal } := by
  simp only [Stream.passOver, he, Option.getD_some, if_pos h, ← clearedIn_eq, ← servedIn_eq] <;> rfl

theorem passOver_not_ahead {x : Stream} {e hi : Word} (he : x.ePlay = some e) (h : sdiff hi e ≤ 0) : x.passOver hi = x := by
  simp only [Stream.passOver, he, Option.getD_some, if_neg (not_lt.mpr h)]

/-- What the passing over of slots leaves of a record. -/
theorem passOver_leaves (x : Stream) (hi : Word) : (x.passOver hi).state = x.state ∧ (x.passOver hi).clock = x.clock ∧
    (x.passOver hi).servedTo = x.servedTo ∧ (x.passOver hi).conceal.missingRun = x.conceal.missingRun := by
  unfold Stream.passOver
  dsimp only
  split
  · refine ⟨rfl, rfl, rfl, ?_⟩
    dsimp only
    split <;> rfl
  · exact ⟨rfl, rfl, rfl, rfl⟩

/-! ## A forward recentre -/

theorem endPassed_iff {x : Stream} {seq0 st0 : Word} (ho : x.origin = some (seq0, st0)) (pos : Int) : x.endPassed pos = true ↔
    ∃ q, x.endSeq = some q ∧ (x.state = .draining ∨ x.state = .outage) ∧ sdiff q seq0 * 48 + 47 < pos := by
  unfold Stream.endPassed
  rw [ho]
  cases x.endSeq with
  | none => simp
  | some q => cases x.state <;> simp

/-- The sequence of a position at or past the origin (R77). -/
theorem seqOf_nonneg {x : Stream} {seq0 st0 : Word} (ho : x.origin = some (seq0, st0)) {pos : Int} (h : 0 ≤ pos) :
    x.seqOf pos = seq0 + BitVec.ofNat 32 (pos.toNat / 48) := by
  obtain ⟨n, rfl⟩ := Int.eq_ofNat_of_zero_le h
  simp only [Stream.seqOf, ho, Option.getD_some, word, Int.toNat_natCast]
  rw [show ((n : Int) / 48) = ((n / 48 : Nat) : Int) by simp, BitVec.ofInt_natCast]

/-- A forward recentre passes over the slots before the sequence `hi` of its new position, or through the end block, and the stream
fades in or ends (R61, R62, R110, R118). -/
theorem recentreForward_eq {x : Stream} {seq0 st0 e hi : Word} {ends : Bool} {stop adj : Int} (ho : x.origin = some (seq0, st0))
    (he : x.ePlay = some e) (hends : ends = x.endPassed (stop + adj))
    (hhi : hi = if ends then x.endSeq.getD 0 + 1 else if stop + adj < 0 then e else seq0 + BitVec.ofNat 32 ((stop + adj).toNat / 48))
    (i : Fin 32) {y : Stream} (hy : y = { x.passOver hi with
      conceal := { (x.passOver hi).conceal with fadeInDue := true }
      servedTo := if x.servedTo.any (fun t => t ≤ stop + adj) then none else x.servedTo }) :
    x.recentreForward i stop adj = if ends then ({ y with state := .ended, clock := x.clock.drop },
      [{ kind := .streamEnded, subject := i.val, detail := (x.endSeq.getD 0).toInt }]) else (y, []) := by
  have passed : (if ends then x.passOver (x.endSeq.getD 0 + 1) else if stop + adj < 0 then x else x.passOver (x.seqOf (stop + adj))) =
      x.passOver hi := by
    rw [hhi]
    cases ends with
    | true => rfl
    | false =>
      by_cases hneg : stop + adj < 0
      · simp only [Bool.false_eq_true, if_false, if_pos hneg]
        exact (passOver_not_ahead he (by simp [sdiff])).symm
      · simp only [Bool.false_eq_true, if_false, if_neg hneg]
        rw [seqOf_nonneg ho (not_lt.mp hneg)]
  obtain ⟨-, clock, served, -⟩ := passOver_leaves x hi
  subst hy
  simp only [Stream.recentreForward, ← hends, passed, served, clock]

/-! ## Every clause of O39 -/

/-- Settles O39: one member's part of the boundary, the fade-out, the two directions of a recentre, and the silence below the served-to
position. -/
theorem everyDrawnMemberIsDrawnAtItsOffset : Obligations.EveryDrawnMemberIsDrawnAtItsOffset := by
  refine ⟨?_, ?_, ?_, fun x i stop => if_pos rfl, ?_, ?_, ?_, ?_⟩
  · rintro s inp i x g q st0 pos y z closes rolled low hm hx ho hg ha hq hc hr rfl rfl hy hz
    have drawn : y = g.drawOf (s.clock.hbc + 1) i x := by
      rw [hy, Group.drawOf, Group.drawContext, Stream.offsetAt, hq]
      cases g.pending with
      | none => rfl
      | some adj =>
        have bit : decide (adj ≠ 0) = (adj != 0) := by by_cases h : adj = 0 <;> simp [h]
        exact congrArg (fun fade => x.draw { g.drawContext (s.clock.hbc + 1) with fade := fade } i _) bit
    have recentred : z = g.recentreOf (s.clock.hbc + 1) i x := by
      rw [hz, Group.recentreOf, ← drawn, Stream.offsetAt, hq]
      cases g.pending <;> rfl
    have member : i ∈ (s.group x.group).members := (hm.listed x.group i).mpr ⟨hx ▸ ho, by rw [hx]⟩
    obtain ⟨whenDrawn, whenNot⟩ := boundary_member (inp := inp) hm member hx.symm hg.symm ha hc hr
    rw [← drawn, ← recentred] at whenDrawn
    refine ⟨_, exec_houseBlockBoundary low inp, fun hp => ?_, whenDrawn, whenNot⟩
    rw [(row_of_due rfl (recentreDue_iff s x.group)).2.2 ⟨hg ▸ ha, hg ▸ hp⟩, exec_houseBlockBoundary low]
  · rintro s inp i x low hm rfl h
    exact ⟨_, exec_houseBlockBoundary low inp, boundary_stream_idle hm h⟩
  · intro x ctx i pos h
    obtain ⟨record, posts, frames⟩ := draw_faded x h i pos
    exact ⟨record, posts, fun n => by rw [frames, fadeOutFrames_getD]⟩
  · rintro x y i stop adj seq0 st0 e hi ends passed served hadj ho he hends hhi hpassed hserved hy
    obtain rfl : passed = Slot.passedIn e hi := hpassed.trans (funext fun k => by cases k <;> rfl)
    obtain rfl : served = Slot.wasServed := hserved.trans (funext fun k => by cases k <;> rfl)
    have passes : ends = x.endPassed (stop + adj) := Bool.eq_iff_iff.mpr (hends.trans (endPassed_iff ho _).symm)
    have forward : x.recentre i stop adj = x.recentreForward i stop adj := by rw [Stream.recentre, if_neg hadj.ne', if_pos hadj]
    have result := recentreForward_eq ho he passes hhi i rfl
    rw [forward, result] at hy ⊢
    obtain ⟨state, clock, -, run⟩ := passOver_leaves x hi
    have served : (if x.servedTo.any (fun t => t ≤ stop + adj) then none else x.servedTo) = (match x.servedTo with
        | some t => if t ≤ stop + adj then none else some t
        | none => none) := by
      cases x.servedTo with
      | none => rfl
      | some t => simp
    obtain ⟨ring, ePlay, counters, lastReal, fadeIn, missing, servedTo⟩ : y.ring = (x.passOver hi).ring ∧ y.ePlay = (x.passOver hi).ePlay ∧
        y.counters = (x.passOver hi).counters ∧ y.conceal.lastReal = (x.passOver hi).conceal.lastReal ∧ y.conceal.fadeInDue = true ∧
        y.conceal.missingRun = (x.passOver hi).conceal.missingRun ∧
        y.servedTo = if x.servedTo.any (fun t => t ≤ stop + adj) then none else x.servedTo := by
      rw [hy]
      cases ends <;> exact ⟨rfl, rfl, rfl, rfl, rfl, rfl, rfl⟩
    refine ⟨fun ahead => ?_, fun behind => ?_, fadeIn, missing.trans run, servedTo.trans served, fun h => ?_, fun h => ?_⟩
    · rw [ring, ePlay, counters, lastReal, passOver_ahead he ahead]
      refine ⟨rfl, rfl, rfl, fun b hb => ?_, fun hb => ?_⟩
      · simp only [partServed_of_filter hb]
        rfl
      · simp only [partServed_of_unserved hb]
    · rw [ring, ePlay, counters, lastReal, passOver_not_ahead he behind]
      exact ⟨rfl, he, rfl, rfl⟩
    · rw [hy, h]
      exact ⟨rfl, rfl, rfl⟩
    · rw [hy, h]
      exact ⟨state, clock, rfl⟩
  · rintro x i stop adj h
    rw [Stream.recentre, if_neg h.ne, if_neg (not_lt.mpr h.le)]
    rfl
  · intro x ctx i pos t h hp
    obtain ⟨silent, buffer⟩ := draw_below_servedTo h hp i
    simp only [Stream.buffer, Prod.mk.injEq] at buffer
    obtain ⟨served, ring, ePlay, counters, conceal⟩ := buffer
    exact ⟨silent, served.trans h, ring, ePlay, counters, conceal⟩
  · intro x ctx i pos t h hp
    have reached : t ≤ pos + ctx.slip.sources - 1 := by omega
    refine ⟨by rw [draw_servedTo, h, Option.any_some, decide_eq_true reached, if_pos rfl], fun hs n v hn => ?_⟩
    have silent := visit_steady_silent h hs i pos hn
    have frames : SilentFrame ((x.draw ctx i pos).2.1.frames.getD n []) := by
      simp only [Stream.draw, hs, mapSlip]
      split
      · exact fadeOut_silent silent
      · exact silent
    exact frames v

end Sys2Proof.Machine
end

section
/-! SUPPORT. The first real block after a missing one (R62, R79, R81, R110, R117): its 48 positions fade in, and their draw resumes
the stream or ends it. -/

namespace Sys2Proof.Machine

/-! ## The slot of a sequence -/

/-- A slot reads back what was put into it (R67). -/
theorem slotAt_setSlot {x : Stream} (hd : 0 < x.depth) (hl : x.ring.length = x.depth) (q : Word) (y : Slot) :
    (x.setSlot q y).slotAt q = y := by
  have inRing : q.toNat % x.depth < x.ring.length := by rw [hl]; exact Nat.mod_lt _ hd
  simp only [Stream.slotAt, Stream.setSlot, List.getD_eq_getElem?_getD, List.getElem?_set_self inRing, Option.getD_some]

/-! ## The positions of one block -/

/-- Position n of the block at which E_play stands is served from that block's slot (R77, R78). -/
theorem place_in_block {x : Stream} {seq0 st0 q : Word} {k n : Nat} (ho : x.origin = some (seq0, st0)) (hq : q = seq0 + BitVec.ofNat 32 k)
    (he : x.ePlay = some q) (ht : x.servedTo = none) (hend : ∀ e, x.endSeq = some e → sdiff q e ≤ 0) (hn : n < 48) :
    x.place (((48 * k : Nat) : Int) + n) = some (q, n) := by
  have atBlock : x.seqOf (((48 * k : Nat) : Int) + n) = q := by
    rw [seqOf_nonneg ho (by omega), hq]
    congr 2
    omega
  have within : x.endSeq.any (fun e => decide (0 < sdiff q e)) = false := by
    cases e : x.endSeq with
    | none => rfl
    | some z => simpa using hend z e
  have index : indexOf (((48 * k : Nat) : Int) + n) = n := by
    unfold indexOf
    omega
  have noneBelow : ¬sdiff q q < 0 := by simp [sdiff]
  have fromOrigin : ¬((48 * k : Nat) : Int) + n < 0 := by omega
  simp only [Stream.place, atBlock, within, he, ht, index, Option.getD_some, Option.any_none, if_neg fromOrigin, Bool.false_eq_true,
    if_false, if_neg noneBelow]

theorem serve_filled {a : DrawAcc} {q : Word} {n : Nat} {b : Block} {pos : Int} (h : a.halted = false) (hp : a.x.place pos = some (q, n))
    (hs : a.x.slotAt q = .filled b) (hb : b.seq = q) (i : Fin 32) (hbc : Word) (limit : Nat) :
    a.serve i hbc limit pos = a.serveFilled i b n := by
  simp only [DrawAcc.serve, h, hp, hs, if_pos hb, Bool.false_eq_true, if_false]

/-! ## The fade-in -/

/-- A stream whose draw is within a block that fades in (R110, R117). -/
def Stream.fadingIn (x : Stream) (b : Block) : Stream :=
  { x.setSlot b.seq (.filled { b with served := true }) with
    state := x.resumeState
    conceal := { x.conceal with fadeIn := some b.seq, fadeInDue := false, missingRun := 0 } }

/-- A stream whose draw has passed the last position of a block that fades in (R108, R110). -/
def Stream.fadedIn (x : Stream) (b : Block) : Stream :=
  { x.fadingIn b with
    conceal := { x.conceal with
      lastReal := some { seq := b.seq, sourceTime := b.sourceTime, samples := b.samples }
      fadeInDue := false
      fadeIn := none
      missingRun := 0 } }

/-- The first n frames of a block that fades in. -/
def Stream.fadeInFrames (x : Stream) (b : Block) (n : Nat) : List Frame :=
  (List.range n).map fun m => fadeFrame (b.samples.getD m x.silence) (m + 1)

/-- The draw within a block that fades in, n positions served. -/
def DrawAcc.fadingIn (x : Stream) (i : Fin 32) (b : Block) (n : Nat) : DrawAcc :=
  { x := x.fadingIn b, posts := x.resumePosts i b.seq, out := x.fadeInFrames b n, completed := [], firstArrival := some b.arrival
    halted := false }

theorem fadeInFrames_succ (x : Stream) (b : Block) (n : Nat) : x.fadeInFrames b (n + 1) =
    x.fadeInFrames b n ++ [fadeFrame (b.samples.getD n x.silence) (n + 1)] := by
  simp only [Stream.fadeInFrames, List.range_succ, List.map_append, List.map_cons, List.map_nil]

theorem fadeInFrames_getD (x : Stream) (b : Block) {n : Nat} (hn : n < 48) : (x.fadeInFrames b 48).getD n [] =
    (b.samples.getD n x.silence).map fun v => sampleOf (Int.tdiv (v.toInt * ((n : Int) + 1)) 48) := by
  simp only [Stream.fadeInFrames, List.getD_eq_getElem?_getD, List.getElem?_map, List.getElem?_range hn]
  rfl

theorem resumeState_ne_outage (x : Stream) : x.resumeState ≠ .outage := by
  unfold Stream.resumeState
  split
  · split <;> nofun
  · next st h => exact h

/-- A stream that has resumed does not resume again (R117). -/
theorem fadingIn_resumed (x : Stream) (b : Block) : (x.fadingIn b).resumeState = x.resumeState ∧
    ∀ i q, (x.fadingIn b).resumePosts i q = [] := by
  have up : (x.fadingIn b).state ≠ .outage := resumeState_ne_outage x
  refine ⟨?_, fun i q => ?_⟩
  · rw [Stream.resumeState]
    split
    · next h => exact absurd h up
    · rfl
  · rw [Stream.resumePosts]
    split
    · next h => exact absurd h up
    · rfl

/-- The first position of a block takes the fade-in up (R110, R117). -/
theorem serveFilled_first {x : Stream} (h : x.conceal.fadeInDue = true) (i : Fin 32) (b : Block) :
    DrawAcc.serveFilled (.silent x []) i b 0 =
      .fadingIn x i b 1 := by
  simp only [DrawAcc.silent, DrawAcc.serveFilled, Conceal.serveReal, h, if_true]
  rfl

/-- A later position of the block, with the frame of its own fade (R110). -/
theorem serveFilled_later (x : Stream) (i : Fin 32) (b : Block) (n : Nat) :
    DrawAcc.serveFilled (.fadingIn x i b n) i { b with served := true } n =
      if n = 47 then { DrawAcc.fadingIn x i b (n + 1) with x := x.fadedIn b, completed := [b.seq] } else .fadingIn x i b (n + 1) := by
  obtain ⟨state, posts⟩ := fadingIn_resumed x b
  have again (c : Conceal) : Stream.setSlot { x.fadingIn b with state := x.resumeState, conceal := c } b.seq
      (.filled { b with served := true }) = { x.fadingIn b with conceal := c } := by
    simp only [Stream.fadingIn, Stream.setSlot, List.set_set]
  have conceal : (x.fadingIn b).conceal.serveReal b.seq = (x.fadingIn b).conceal := rfl
  have completed : (x.fadingIn b).conceal.completeReal { b with served := true } = (x.fadedIn b).conceal := by
    simp only [Conceal.completeReal, Stream.fadingIn, if_true]
    rfl
  have fades : (x.fadingIn b).conceal.fadeIn = some b.seq := rfl
  simp only [DrawAcc.serveFilled, DrawAcc.fadingIn, conceal, completed, state, posts, again, fades, if_true, List.append_nil,
    fadeInFrames_succ]
  split
  · rfl
  · rfl

/-- The 48 positions from 48k on are those of a FILLED slot whose fade-in is due (R77, R110). -/
structure Stream.FadesInAt (x : Stream) (k : Nat) (b : Block) : Prop where
  placed : ∀ n : Nat, n < 48 → x.place (((48 * k : Nat) : Int) + n) = some (b.seq, n)
  deep : 0 < x.depth
  sized : x.ring.length = x.depth
  filled : x.slotAt b.seq = .filled b
  due : x.conceal.fadeInDue = true

theorem fadingIn_slot {x : Stream} {k : Nat} {b : Block} (h : x.FadesInAt k b) :
    (x.fadingIn b).slotAt b.seq = .filled { b with served := true } := slotAt_setSlot h.deep h.sized b.seq _

theorem step_steady {ctx : DrawContext} (h : ctx.slip = .steady) (i : Fin 32) (pos : Int) (a : DrawAcc) (n : Nat) :
    DrawAcc.step ctx i pos a n = a.serve i ctx.hbc ctx.limit (pos + n) := if_neg (by rw [h]; nofun)

/-- A position of the block after its first is served. -/
theorem serve_later {x : Stream} {k : Nat} {b : Block} (h : x.FadesInAt k b) (i : Fin 32) (hbc : Word) (limit : Nat) {n : Nat}
    (hn : n < 48) : (DrawAcc.fadingIn x i b n).serve i hbc limit (((48 * k : Nat) : Int) + n) =
      if n = 47 then { DrawAcc.fadingIn x i b (n + 1) with x := x.fadedIn b, completed := [b.seq] } else .fadingIn x i b (n + 1) := by
  have place : (DrawAcc.fadingIn x i b n).x.place (((48 * k : Nat) : Int) + n) = some (b.seq, n) := h.placed n hn
  rw [serve_filled rfl place (fadingIn_slot h) rfl, serveFilled_later]

/-- The positions of a block that fades in, before its last. -/
theorem serve_block {x : Stream} {k : Nat} {b : Block} (h : x.FadesInAt k b) {ctx : DrawContext} (hc : ctx.slip = .steady) (i : Fin 32)
    {n : Nat} (hn : n < 47) : (List.range (n + 1)).foldl (DrawAcc.step ctx i ((48 * k : Nat) : Int))
      (.silent x []) = .fadingIn x i b (n + 1) := by
  induction n with
  | zero =>
    have place : (DrawAcc.silent x []).x.place (((48 * k : Nat) : Int) + (0 : Nat)) = some (b.seq, 0) := h.placed 0 (by omega)
    rw [List.range_one, List.foldl_cons, List.foldl_nil, step_steady hc, serve_filled rfl place h.filled rfl, serveFilled_first h.due]
  | succ n ih =>
    rw [List.range_succ, List.foldl_append, ih (by omega), List.foldl_cons, List.foldl_nil, step_steady hc, serve_later h i _ _ (by omega),
      if_neg (by omega)]

/-- The whole block served: it is completed, and the last real block (R108, R110). -/
theorem visit_block {x : Stream} {k : Nat} {b : Block} (h : x.FadesInAt k b) {ctx : DrawContext} (hc : ctx.slip = .steady) (i : Fin 32) :
    x.visit ctx i ((48 * k : Nat) : Int) = { DrawAcc.fadingIn x i b 48 with x := x.fadedIn b, completed := [b.seq] } := by
  have sources : ctx.slip.sources = 47 + 1 := by rw [hc]; rfl
  have before := serve_block h hc i (by omega : 46 < 47)
  rw [DrawAcc.silent] at before
  rw [Stream.visit, sources, List.range_succ, List.foldl_append, before, List.foldl_cons, List.foldl_nil,
    step_steady hc, serve_later h i _ _ (by omega), if_pos rfl]

/-! ## The record after the draw -/

/-- The record when the block's slot has been released (R79). -/
def Stream.pastBlock (x : Stream) (b : Block) : Stream :=
  { (x.fadedIn b).setSlot b.seq .empty with ePlay := some (b.seq + 1) }

theorem clearServedTo_absent {x : Stream} (h : x.servedTo = none) (last : Int) : x.clearServedTo last = x := by
  simp only [Stream.clearServedTo, h, Option.any_none, Bool.false_eq_true, if_false]
  rw [← h]

/-- With no early warning a held headroom test says nothing (R83). -/
theorem headroomTest_off {x : Stream} (h : x.headroomArmed = true) (i : Fin 32) (next : Int) : x.headroomTest i 0 next = (x, []) := by
  unfold Stream.headroomTest
  split
  · simp [h]
  · rfl

theorem afterDraw_armed (x : Stream) (i : Fin 32) (hbc : Word) (last : Int) (qs : List Word) (first : Option Word) :
    (x.afterDraw i hbc last qs first).1.headroomArmed = x.headroomArmed ∧ (x.afterDraw i hbc last qs first).1.servedTo = x.servedTo := by
  unfold Stream.afterDraw
  split
  · split <;> exact ⟨rfl, rfl⟩
  · split <;> exact ⟨rfl, rfl⟩
  · exact ⟨rfl, rfl⟩

/-- A draw of one whole block that fades in, on a stream with no early warning and no served-to position. -/
theorem draw_block {x : Stream} {k : Nat} {b : Block} (h : x.FadesInAt k b) {ctx : DrawContext} (hc : ctx.slip = .steady)
    (hfade : ctx.fade = false) (hw : ctx.warning = 0) (ha : x.headroomArmed = true) (ht : x.servedTo = none) (i : Fin 32) :
    ∃ last first, x.draw ctx i ((48 * k : Nat) : Int) =
      (((x.pastBlock b).afterDraw i ctx.hbc last [b.seq] (some b.arrival)).1, { frames := x.fadeInFrames b 48, first := first },
        x.resumePosts i b.seq ++ ((x.pastBlock b).afterDraw i ctx.hbc last [b.seq] (some b.arrival)).2) := by
  refine ⟨((48 * k : Nat) : Int) + ctx.slip.sources - 1, x.firstSlot ((48 * k : Nat) : Int), ?_⟩
  have released : (x.fadedIn b).release [b.seq] = x.pastBlock b := rfl
  have arrival : (DrawAcc.fadingIn x i b 48).firstArrival = some b.arrival := rfl
  obtain ⟨armed, served⟩ := afterDraw_armed (x.pastBlock b) i ctx.hbc (((48 * k : Nat) : Int) + ctx.slip.sources - 1) [b.seq]
    (some b.arrival)
  simp only [Stream.draw, visit_block h hc i, released, arrival]
  rw [clearServedTo_absent (served.trans ht), hw, headroomTest_off (armed.trans ha), List.append_nil, hfade, hc]
  rfl

/-- A stream that goes on after its draw: playing, or before its end block (R80, R81). -/
theorem afterDraw_goes_on {x : Stream} {q : Word} (h : x.state = .playing ∨ (x.state = .draining ∧ x.endSeq ≠ some q)) (i : Fin 32)
    (hbc : Word) (last : Int) (first : Option Word) : x.afterDraw i hbc last [q] first = (x, []) := by
  obtain state | ⟨state, other⟩ := h
  · simp only [Stream.afterDraw, state]
  · have ahead : x.endSeq.any [q].contains = false := by
      cases e : x.endSeq with
      | none => rfl
      | some z => simpa using fun h : z = q => other (h ▸ e)
    simp only [Stream.afterDraw, state, ahead, Bool.false_eq_true, if_false]

/-- A DRAINING stream whose end block the draw has completed ends (R81). -/
theorem afterDraw_ends {x : Stream} {q : Word} (hs : x.state = .draining) (he : x.endSeq = some q) (i : Fin 32) (hbc : Word)
    (last : Int) (first : Option Word) : x.afterDraw i hbc last [q] first =
      ({ x with state := .ended, clock := x.clock.drop }, [{ kind := .streamEnded, subject := i.val, detail := q.toInt }]) := by
  have reached : x.endSeq.any [q].contains = true := by rw [he]; simp
  have detail : x.endSeq.getD 0 = q := by rw [he]; rfl
  simp only [Stream.afterDraw, hs, reached, detail, if_true]

/-- The state move after a draw leaves the resume record and every slot (R80, R81). -/
theorem afterDraw_leaves (x : Stream) (i : Fin 32) (hbc : Word) (last : Int) (qs : List Word) (first : Option Word) :
    (x.afterDraw i hbc last qs first).1.resume = x.resume ∧ ∀ q, (x.afterDraw i hbc last qs first).1.slotAt q = x.slotAt q := by
  unfold Stream.afterDraw
  split
  · split <;> exact ⟨rfl, fun _ => rfl⟩
  · split <;> exact ⟨rfl, fun _ => rfl⟩
  · exact ⟨rfl, fun _ => rfl⟩

theorem pastBlock_slot {x : Stream} {k : Nat} {b : Block} (h : x.FadesInAt k b) : (x.pastBlock b).slotAt b.seq = .empty := by
  have deep : 0 < (x.fadedIn b).depth := h.deep
  have sized : (x.fadedIn b).ring.length = (x.fadedIn b).depth := List.length_set.trans h.sized
  exact slotAt_setSlot deep sized b.seq .empty

/-- The state that a stream resumes in, or keeps (R117). -/
theorem resumeState_of (x : Stream) : (x.state = .playing → x.resumeState = .playing) ∧
    (x.state = .draining → x.resumeState = .draining) ∧ (x.state = .outage → x.endSeq = none → x.resumeState = .playing) ∧
    (x.state = .outage → x.endSeq ≠ none → x.resumeState = .draining) := by
  refine ⟨fun h => ?_, fun h => ?_, fun h e => ?_, fun h e => ?_⟩
  · rw [Stream.resumeState, h]
  · rw [Stream.resumeState, h]
  · rw [Stream.resumeState, h, e]; rfl
  · obtain ⟨z, hz⟩ := Option.ne_none_iff_exists'.mp e
    rw [Stream.resumeState, h, hz]; rfl

theorem resumePosts_eq {x : Stream} {r : Resume} (h : x.state = .outage → x.resume = some r) (i : Fin 32) (q : Word) :
    x.resumePosts i q =
      if x.state = .outage then [{ kind := .streamResumed, subject := i.val, detail := sdiff q r.nextExpected }] else [] := by
  unfold Stream.resumePosts
  split
  · next outage => rw [if_pos outage, h outage]; rfl
  · next other => rw [if_neg other]

theorem pastBlock_leaves (x : Stream) (b : Block) : (x.pastBlock b).state = x.resumeState ∧ (x.pastBlock b).endSeq = x.endSeq ∧
    (x.pastBlock b).clock = x.clock ∧ (x.pastBlock b).resume = x.resume ∧ (x.pastBlock b).counters = x.counters := by
  simp only [Stream.pastBlock, Stream.fadedIn, Stream.fadingIn, Stream.setSlot, and_self]

theorem pastBlock_conceal (x : Stream) (b : Block) : (x.pastBlock b).ePlay = some (b.seq + 1) ∧ (x.pastBlock b).conceal =
    { x.conceal with
      lastReal := some { seq := b.seq, sourceTime := b.sourceTime, samples := b.samples }
      fadeInDue := false, fadeIn := none, missingRun := 0 } := ⟨rfl, rfl⟩

/-! ## The whole draw -/

/-- Settles O42: the block's 48 positions fade in, its slot is released, and the state moves after the draw. -/
theorem firstRealBlockFadesIn : Obligations.FirstRealBlockFadesIn := by
  rintro x ctx i k seq0 st0 q b r d resumed ended rfl hc hfade hw ha ho hq he ht hd hl hs rfl hdue hend hres hstate rfl rfl
  have fades : x.FadesInAt k b := ⟨fun n hn => place_in_block ho hq he ht hend hn, hd, hl, hs, hdue⟩
  obtain ⟨last, first, e⟩ := draw_block fades hc hfade hw ha ht i
  obtain ⟨playing, draining, resumes, drains⟩ := resumeState_of x
  obtain ⟨past, sameEnd, sameClock, sameResume, sameCounters⟩ := pastBlock_leaves x b
  obtain ⟨pastEPlay, pastConceal⟩ := pastBlock_conceal x b
  have empty := pastBlock_slot fades
  rw [e, ← resumePosts_eq hres]
  generalize x.pastBlock b = y at past sameEnd sameClock sameResume sameCounters pastEPlay pastConceal empty ⊢
  have buffer := afterDraw_buffer y i ctx.hbc last [b.seq] (some b.arrival)
  simp only [Stream.buffer, Prod.mk.injEq] at buffer
  obtain ⟨-, ring, ePlay, counters, conceal⟩ := buffer
  obtain ⟨resume, slots⟩ := afterDraw_leaves y i ctx.hbc last [b.seq] (some b.arrival)
  refine ⟨fun n hn => fadeInFrames_getD x b hn, conceal.trans pastConceal, ePlay.trans pastEPlay, (slots _).trans empty,
    resume.trans sameResume, counters.trans sameCounters, fun h => ?_, fun h other => ?_, fun h reached => ?_⟩
  · have up := past.trans (h.elim playing fun h => resumes h.1 h.2)
    rw [afterDraw_goes_on (.inl up), List.append_nil]
    exact ⟨up, sameClock, rfl⟩
  · have up := past.trans (h.elim draining fun h => drains h.1 h.2)
    rw [afterDraw_goes_on (.inr ⟨up, sameEnd ▸ other⟩), List.append_nil]
    exact ⟨up, sameClock, rfl⟩
  · have up := past.trans (h.elim draining fun h => drains h (by rw [reached]; nofun))
    rw [afterDraw_ends up (sameEnd.trans reached), ← sameClock]
    exact ⟨rfl, rfl, rfl⟩

end Sys2Proof.Machine
end

section
/-! SUPPORT. GROUP_SET and GROUP_RECENTRE (R48 to R50, R58, R59, R91): their checks, the latency error that a recentre uses, and its
adjustment. -/

namespace Sys2Proof.Machine

/-! ## GROUP_SET -/

/-- A hold-back is too large for the smallest depth of a group exactly when it is for the depth of some member (R27, R49). -/
theorem smallestDepth_holds_iff (s : State) (g : Fin 16) (h : Nat) : ((s.smallestDepth g).all fun d => depthHolds d h) = true ↔
    ¬∃ i ∈ (s.group g).members, ((s.stream i).depth - 2) * 48 < h := by
  unfold State.smallestDepth
  cases e : ((s.group g).members.map fun i => (s.stream i).depth).min? with
  | none =>
    have empty := List.map_eq_nil_iff.mp (List.min?_eq_none_iff.mp e)
    simp [empty]
  | some d =>
    obtain ⟨mem, least⟩ := List.min?_eq_some_iff.mp e
    obtain ⟨j, hj, rfl⟩ := List.mem_map.mp mem
    simp only [Option.all_some, depthHolds, decide_eq_true_eq, not_exists, not_and, Nat.not_lt]
    refine ⟨fun holds i hi => ?_, fun all => all j hj⟩
    have := least _ (List.mem_map_of_mem hi)
    omega

/-- The values that GROUP_SET stores are in range (R49). -/
theorem groupSet_inRange_iff (h l w : Nat) :
    (decide (48 ≤ h) && decide (h ≤ 12192) && decide (4 ≤ l) && decide (l ≤ 1000) && decide (w ≤ 64)) = true ↔
      ¬(h < 48 ∨ 12192 < h ∨ l < 4 ∨ 1000 < l ∨ 64 < w) := by
  simp only [Bool.and_eq_true, decide_eq_true_eq]
  omega

/-- GROUP_SET as it is served (R49). -/
theorem serveGroupSet_eq (s : State) (g : Fin 16) (h l : Half) (w : Byte) :
    serveGroupSet s ([byteOf g.val] ++ be16 h.toNat ++ be16 l.toNat ++ [w]) =
      if h.toNat < 48 ∨ 12192 < h.toNat ∨ l.toNat < 4 ∨ 1000 < l.toNat ∨ 64 < w.toNat then .error .badValue
      else if ∃ i ∈ (s.group g).members, ((s.stream i).depth - 2) * 48 < h.toNat then .error .depthTooSmall
      else .ok (s.setGroup g { s.group g with hold := h.toNat, outageLimit := l.toNat, warning := w.toNat },
        be16 h.toNat ++ be16 l.toNat ++ [w]) := by
  have group : toFin? 16 (field1 ([byteOf g.val] ++ be16 h.toNat ++ be16 l.toNat ++ [w]) 0) = some g := toFin?_group g
  have hold : field2 ([byteOf g.val] ++ be16 h.toNat ++ be16 l.toNat ++ [w]) 1 = h.toNat :=
    field2_append [byteOf g.val] (be16 l.toNat ++ [w]) h.isLt
  have limit : field2 ([byteOf g.val] ++ be16 h.toNat ++ be16 l.toNat ++ [w]) 3 = l.toNat :=
    field2_append ([byteOf g.val] ++ be16 h.toNat) [w] l.isLt
  have warning : field1 ([byteOf g.val] ++ be16 h.toNat ++ be16 l.toNat ++ [w]) 5 = w.toNat := rfl
  have again : byteOf w.toNat = w := by simp [byteOf]
  simp only [serveGroupSet, group, hold, limit, warning, again, require_bind]
  simp only [← Bool.not_eq_true, groupSet_inRange_iff, smallestDepth_holds_iff, not_not]
  rfl

/-! ## GROUP_RECENTRE -/

/-- The adjustment of a recentre is the multiple of 48 nearest to the error, and a half goes away from zero (R58). -/
theorem recentreAdj_nearest (e : Int) : recentreAdj e % 48 = 0 ∧ 2 * (e - recentreAdj e).natAbs ≤ 48 ∧
    (2 * (e - recentreAdj e).natAbs = 48 → e.natAbs < (recentreAdj e).natAbs) := by
  unfold recentreAdj divHalfAway
  split <;> omega

/-- The largest minimum is that of a member, and at least that of every other (R91). -/
theorem largestMin_memberMinima {s : State} {g : Fin 16} {j : Fin 32} {m : Word} (hj : j ∈ (s.group g).members)
    (hm : (s.stream j).clock.current = some m)
    (h : ∀ k ∈ (s.group g).members, ∀ v, (s.stream k).clock.current = some v → v.toInt ≤ m.toInt) :
    largestMin (s.memberMinima g) = some m.toInt := by
  refine List.max?_eq_some_iff.mpr ⟨?_, fun x hx => ?_⟩
  · exact List.mem_filterMap.mpr ⟨_, List.mem_map_of_mem hj, by rw [hm]; rfl⟩
  · obtain ⟨_, listed, e⟩ := List.mem_filterMap.mp hx
    obtain ⟨k, hk, rfl⟩ := List.mem_map.mp listed
    obtain ⟨v, hv, rfl⟩ := Option.map_eq_some_iff.mp e
    exact h k hk v hv

theorem largestMin_absent {s : State} {g : Fin 16} (h : ∀ j ∈ (s.group g).members, (s.stream j).clock.current = none) :
    largestMin (s.memberMinima g) = none := by
  have empty : (s.memberMinima g).filterMap (fun m => m.2.map BitVec.toInt) = [] := by
    refine List.filterMap_eq_nil_iff.mpr fun _ hm => ?_
    obtain ⟨j, hj, rfl⟩ := List.mem_map.mp hm
    rw [h j hj]
    rfl
  rw [largestMin, empty]
  rfl

theorem groupRecentre_refused {s : State} {i : Fin 16} (hn : s.Next 0x33 [byteOf i.val])
    (h : (s.group i).anchored = false ∨ (s.group i).pending ≠ none ∨ s.requestError i = none) :
    exec .groupRecentre s = .next (s.answer [5]) := by
  refine take_refused (st := .badState) hn rfl ?_
  simp only [serveGroupRecentre, toFin?_group, Bool.and_eq_true, Option.isNone_iff_eq_none]
  split
  · next granted =>
    obtain ⟨anchored, noPending⟩ := granted
    simp only [anchored, noPending, Bool.true_eq_false, ne_eq, not_true_eq_false, false_or] at h
    rw [h]
  · rfl

/-- A granted GROUP_RECENTRE sets the adjustment pending that is nearest to its error (R58, R59). -/
theorem groupRecentre_granted {s : State} {i : Fin 16} {e : Int} (hn : s.Next 0x33 [byteOf i.val]) (ha : (s.group i).anchored = true)
    (hp : (s.group i).pending = none) (he : s.requestError i = some e) :
    ∃ adj : Int, adj % 48 = 0 ∧ 2 * (e - adj).natAbs ≤ 48 ∧ (2 * (e - adj).natAbs = 48 → e.natAbs < adj.natAbs) ∧
      exec .groupRecentre s =
        .next ((s.setGroup i { s.group i with pending := some adj }).answer ([0] ++ beInt e ++ beInt adj)) := by
  have served : serveGroupRecentre s [byteOf i.val] =
      .ok (s.setGroup i { s.group i with pending := some (recentreAdj e) }, beInt e ++ beInt (recentreAdj e)) := by
    simp only [serveGroupRecentre, toFin?_group, ha, hp, he, Option.isNone_none, Bool.and_self, if_true]
  obtain ⟨multiple, near, away⟩ := recentreAdj_nearest e
  exact ⟨recentreAdj e, multiple, near, away, take_granted hn rfl served⟩

/-- The error of a window in progress with a minimum, and otherwise that of the last report (R59, R91). -/
theorem requestError_of_largest {s : State} {i : Fin 16} {q o : Word} {m : Int} (hq : (s.group i).q = some q)
    (ho : (s.group i).oRef = some o) (hm : largestMin (s.memberMinima i) = some m) :
    s.requestError i = some (sdiff q o - m - (s.group i).hold) := by
  simp only [State.requestError, Group.latencyError, hm, hq, ho, Option.map_some, Option.getD_some]

theorem requestError_of_report {s : State} {i : Fin 16} (hm : largestMin (s.memberMinima i) = none) :
    s.requestError i = (s.group i).report.bind (·.e) := by
  simp only [State.requestError, Group.latencyError, hm, Option.map_none]

/-! ## Both requests -/

/-- Settles O34: the checks of GROUP_SET in order, and the error that GROUP_RECENTRE takes. -/
theorem groupSetAndRecentre : Obligations.GroupSetAndRecentre := by
  refine ⟨fun s g h l w b => ⟨fun hn => ?_, fun hn hb => ?_⟩, ?_⟩
  · have served := serveGroupSet_eq s g h l w
    split_ifs at served ⊢ with range depth
    · exact take_refused hn rfl served
    · exact take_refused hn rfl served
    · exact take_granted hn rfl served
  · have unknown : toFin? 16 (field1 ([b] ++ be16 h.toNat ++ be16 l.toNat ++ [w]) 0) = none := toFin?_beyond hb
    refine take_refused (st := .notFound) hn rfl ?_
    simp only [serveGroupSet, unknown]
  · rintro s i g done hn rfl rfl
    refine ⟨fun h => groupRecentre_refused hn (h.imp_right .inl), fun q o ha hp hq ho =>
      ⟨fun j m hj hm hmax => ?_, fun absent => ?_⟩⟩
    · exact groupRecentre_granted hn ha hp (requestError_of_largest hq ho (largestMin_memberMinima hj hm hmax))
    · have reported := requestError_of_report (largestMin_absent absent)
      refine ⟨fun r e hr he => groupRecentre_granted hn ha hp (reported.trans (by rw [hr]; exact he)), fun none =>
        groupRecentre_refused hn (.inr (.inr (reported.trans ?_)))⟩
      cases e : (s.group i).report with
      | none => rfl
      | some r => exact none r e

end Sys2Proof.Machine
end

section
/-! SUPPORT. The arrival of a packet at a stream that takes it (R9, R17 to R20), and a packet that leaves its stream's timeline (R37, R38,
R56, R65). -/

namespace Sys2Proof.Machine

/-! ## The arrival -/

/-- The state in which a datagram that a port has received finds the part (R9). -/
def State.receivedBy (s : State) (port : PortId) (n : Fin 48) : State :=
  (s.atSample n).setPort port { (s.atSample n).port port with received := ((s.atSample n).port port).received + 1 }

@[simp] theorem receivedBy_stream (s : State) (port : PortId) (n : Fin 48) (i : Fin 32) : (s.receivedBy port n).stream i = s.stream i := by
  rw [State.receivedBy, setPort_stream, atSample_stream]

@[simp] theorem receivedBy_group (s : State) (port : PortId) (n : Fin 48) (g : Fin 16) : (s.receivedBy port n).group g = s.group g := by
  rw [State.receivedBy, setPort_group, atSample_group]

@[simp] theorem receivedBy_groups (s : State) (port : PortId) (n : Fin 48) : (s.receivedBy port n).groups = s.groups := by
  rw [State.receivedBy, setPort_groups, atSample_groups]

@[simp] theorem receivedBy_signals (s : State) (port : PortId) (n : Fin 48) : (s.receivedBy port n).signals = s.signals := by
  rw [State.receivedBy, setPort_signals, atSample_signals]

@[simp] theorem receivedBy_notices (s : State) (port : PortId) (n : Fin 48) : (s.receivedBy port n).notices = s.notices := by
  rw [State.receivedBy, setPort_notices, atSample_notices]

@[simp] theorem receivedBy_hbc (s : State) (port : PortId) (n : Fin 48) : (s.receivedBy port n).clock.hbc = s.clock.hbc := by
  rw [State.receivedBy, setPort_clock, atSample_hbc]

@[simp] theorem receivedBy_hs (s : State) (port : PortId) (n : Fin 48) : (s.receivedBy port n).hs = (s.atSample n).hs := by
  rw [State.receivedBy, State.hs, setPort_clock]
  rfl

@[simp] theorem receivedBy_received (s : State) (port : PortId) (n : Fin 48) :
    ((s.receivedBy port n).port port).received = (s.port port).received + 1 := by
  rw [State.receivedBy, setPort_port_self, atSample_port]

/-- A well-formed datagram of a bound flow reaches its stream (R9, R17, R18). -/
theorem arrival_bound {s : State} {port : PortId} {n : Fin 48} {d : List Byte} {p : Packet} {i : Fin 32} {path : PathId}
    (up : ((s.atSample n).port port).state = .up) (read : judgeDatagram d = .wellFormed p) (bound : s.BoundTo port p.flowId i path) :
    exec (.packetArrival port n d) s = .next ((s.receivedBy port n).ingestStream port i path p) := by
  have found : (s.receivedBy port n).lookup port p.flowId = some (i, path) := by
    rw [State.receivedBy, setPort_lookup, ← bound.lookup]
    simp only [State.lookup, atSample_flows]
  have arrives : exec (.packetArrival port n d) s = .next ((s.atSample n).arrival port d) := rfl
  rw [arrives, arrival_up up]
  exact congrArg Host.Outcome.next (ingest_found read found)

/-- A stream with a timeline takes a packet of its own format, unless its pair is at fault (R19, R20). -/
theorem ingestStream_drawn {s : State} {i : Fin 32} {path : PathId} {p : Packet} (hd : (s.stream i).state.drawn = true)
    (on : ¬(path = .b ∧ (s.stream i).pair = .pairFault)) (same : (s.stream i).formatMatches p = true) (port : PortId) :
    s.ingestStream port i path p = s.laterPacket i path p := by
  have ne (st : StreamState) (h : st.drawn = false) : (s.stream i).state ≠ st := by
    rintro e
    rw [e, h] at hd
    cases hd
  rw [ingestStream_started (ne _ rfl) (ne _ rfl) (ne _ rfl), if_neg on, if_pos same, if_neg (ne _ rfl)]

/-- A stream in ACQUIRING takes its first packet (R19, R20, R66). -/
theorem ingestStream_acquiring {s : State} {i : Fin 32} {path : PathId} {p : Packet} (hs : (s.stream i).state = .acquiring)
    (on : ¬(path = .b ∧ (s.stream i).pair = .pairFault)) (same : (s.stream i).formatMatches p = true) (port : PortId) :
    s.ingestStream port i path p = s.firstPacket i path p := by
  rw [ingestStream_started (by rw [hs]; nofun) (by rw [hs]; nofun) (by rw [hs]; nofun), if_neg on, if_pos same, if_pos hs]

/-! ## A relock (R56) -/

theorem relocks_iff (st : StreamState) : st.relocks = true ↔ st ∈ [StreamState.acquiring, .primed, .playing, .outage, .draining] := by
  cases st <;> decide

theorem relocked_eq (x : Stream) : x.relocked =
    if x.state ∈ [StreamState.acquiring, .primed, .playing, .outage, .draining] then x.leaveTimeline .acquiring else x :=
  if_congr (relocks_iff x.state) rfl rfl

/-- A stream's record after a relock: a member leaves its timeline when it has one or waits for one, and loses its window minimum and
window pair mismatches in any case (R53, R56). -/
theorem relock_stream (s : State) (g : Fin 16) (cause j : Fin 32) : (s.relock g cause).stream j =
    if j ∈ (s.group g).members then
      { (s.stream j).relocked with clock := (s.stream j).relocked.clock.drop, windowMismatches := 0 } else s.stream j := by
  have mapped := mapMembers_stream s g Stream.relocked j
  have unanchored := unanchor_stream (s.mapMembers g Stream.relocked) g j
  have members : ((s.mapMembers g Stream.relocked).group g).members = (s.group g).members := rfl
  simp only [List.contains_iff_mem] at mapped
  rw [members, mapped] at unanchored
  refine Eq.trans ?_ (unanchored.trans ?_)
  · rfl
  · split <;> rfl

theorem relock_group_self (s : State) (g : Fin 16) (cause : Fin 32) : (s.relock g cause).group g = (s.group g).unanchor :=
  unanchor_group_self (s.mapMembers g Stream.relocked) g

theorem relock_group_ne (s : State) {g h : Fin 16} (e : h ≠ g) (cause : Fin 32) : (s.relock g cause).group h = s.group h :=
  unanchor_group_ne (s.mapMembers g Stream.relocked) e

theorem relock_notices (s : State) (g : Fin 16) (cause : Fin 32) : (s.relock g cause).notices =
    s.notices.post s.clock.hbc { kind := .groupRelock, subject := g.val, detail := (cause.val : Int) } := rfl

/-- A relock touches streams, groups and notices alone. -/
theorem relock_frame (s : State) (g : Fin 16) (cause : Fin 32) : s.relock g cause =
    { s with
      streams := (s.relock g cause).streams, groups := (s.relock g cause).groups, notices := (s.relock g cause).notices } := rfl

/-! ## A timeline reject -/

/-- A packet that leaves the timeline is rejected on its path (R65). -/
theorem laterPacket_off {s : State} {i : Fin 32} {p : Packet} {seq0 st0 e : Word} (ho : (s.stream i).origin = some (seq0, st0))
    (he : (s.stream i).ePlay = some e) (off : p.sourceTime ≠ st0 + 48 * (e + (p.seq - e.truncate 16).signExtend 32 - seq0)) :
    s.laterPacket i .a p = s.rejectA i ∧ s.laterPacket i .b p = s.rejectB i := by
  have leaves : ¬onTimeline ((s.stream i).origin.getD (0, 0)) (extendSeq ((s.stream i).ePlay.getD 0) p.seq) p.sourceTime = true := by
    rw [ho, he]
    simpa only [onTimeline, extendSeq, Option.getD_some, beq_iff_eq] using off
  exact ⟨if_neg leaves, if_neg leaves⟩

/-- A break before the fourth (R65). -/
theorem rejectA_break {s : State} {i : Fin 32} (h : (s.stream i).breaks < 3) : s.rejectA i = s.setStream i { s.stream i with
    counters := { (s.stream i).counters with timelineRejects := (s.stream i).counters.timelineRejects + 1 }
    breaks := (s.stream i).breaks + 1 } := if_pos (by omega)

/-- The fourth break relocks the group (R56, R65). -/
theorem rejectA_relock {s : State} {i : Fin 32} (h : (s.stream i).breaks = 3) : s.rejectA i = (s.setStream i { s.stream i with
    counters := { (s.stream i).counters with timelineRejects := (s.stream i).counters.timelineRejects + 1 }
    breaks := (s.stream i).breaks + 1 }).relock (s.stream i).group i := if_neg (by omega)

/-- A reject on path B of a stream that is not PAIRED, or has a break, is counted alone (R37, R65). -/
theorem rejectB_counted {s : State} {i : Fin 32} (h : (s.stream i).pair ≠ .paired ∨ (s.stream i).breaks ≠ 0) : s.rejectB i =
    s.setStream i { s.stream i with
      counters := { (s.stream i).counters with timelineRejects := (s.stream i).counters.timelineRejects + 1 } } :=
  if_neg fun paired => h.elim (· paired.1) (· paired.2)

/-- A pair mismatch, and the pair fault at the fourth of a window (R37, R38). -/
theorem rejectB_mismatch {s : State} {i : Fin 32} (hp : (s.stream i).pair = .paired) (hb : (s.stream i).breaks = 0) {y : Stream}
    (hy : y = { s.stream i with
      counters := { (s.stream i).counters with
        timelineRejects := (s.stream i).counters.timelineRejects + 1
        pairMismatches := (s.stream i).counters.pairMismatches + 1 }
      windowMismatches := (s.stream i).windowMismatches + 1 }) :
    s.rejectB i = if (s.stream i).windowMismatches < 3 then s.setStream i y
      else (s.setStream i { y with pair := .pairFault }).post
        { kind := .pairFault, subject := i.val, detail := ((s.stream i).group.val : Int) } := by
  subst hy
  have fourth : (s.stream i).windowMismatches + 1 < 4 ↔ (s.stream i).windowMismatches < 3 := by omega
  simp only [State.rejectB, if_pos (And.intro hp hb), fourth]

/-- A member's record after a relock, the cause's with its own counters and break count. -/
theorem relock_member {s u : State} {g : Fin 16} {i : Fin 32} {c : StreamCounters} {n : Nat}
    (hu : u = s.setStream i { s.stream i with counters := c, breaks := n })
    (hd : (s.stream i).state.drawn = true) (cause : Fin 32) {j : Fin 32} (hj : j ∈ (s.group g).members) {y : Stream}
    (hy : y = { s.stream j with
      counters := if j = i then c else (s.stream j).counters
      clock := { (s.stream j).clock with current := none, transits := 0 }
      windowMismatches := 0 }) : (u.relock g cause).stream j = y.relocked := by
  subst hy
  rw [hu, relock_stream, setStream_group, if_pos hj]
  by_cases e : j = i
  · subst e
    rw [setStream_stream_self]
    simp only [Stream.relocked, relocks_of_drawn hd, if_true]
    rfl
  · rw [setStream_stream_ne _ _ e, if_neg e]
    unfold Stream.relocked
    split
    · rfl
    · rfl

/-- Settles O28: the packet is rejected, and path A's fourth break relocks the group while path B's mismatches fault the pair. -/
theorem timelineRejectsBreakAPathOrThePair : Obligations.TimelineRejectsBreakAPathOrThePair := by
  rintro s t0 port n d p i path x seq0 st0 e rfl up read bound rfl drawn paired channels format packing test ho he off
  obtain ⟨pathA, pathB⟩ := laterPacket_off (s := s.receivedBy port n) ((receivedBy_stream s port n i).symm ▸ ho)
    ((receivedBy_stream s port n i).symm ▸ he) off
  have arrives : exec (.packetArrival port n d) s = .next ((s.receivedBy port n).laterPacket i path p) := by
    rw [arrival_bound up read bound, ingestStream_drawn]
    · rwa [receivedBy_stream]
    · rwa [receivedBy_stream]
    · rw [receivedBy_stream, formatMatches_iff]
      exact ⟨channels, format, packing, test⟩
  have same := receivedBy_stream s port n i
  have received : (s.atSample n).setPort port
      { (s.atSample n).port port with received := ((s.atSample n).port port).received + 1 } = s.receivedBy port n := rfl
  rw [arrives, received]
  refine ⟨?_, ?_, ?_, ?_⟩
  · rintro rfl hb
    rw [pathA, rejectA_break (by rw [same]; exact hb), same]
  · rintro rfl hb hi
    have relocks := rejectA_relock (s := s.receivedBy port n) (i := i) (by rw [same]; exact hb)
    rw [same] at relocks
    refine ⟨_, rfl, fun j y hj hy => ?_, fun j hj => ?_, ?_, fun h hne => ?_, ?_, ?_⟩
    · have member := relock_member (s := s.receivedBy port n) (by rw [same]) (by rw [same]; exact drawn) i
        (n := (s.stream i).breaks + 1) (y := y) (g := (s.stream i).group)
        (by rw [receivedBy_group]; exact hj) (by rw [receivedBy_stream]; exact hy)
      rw [pathA, relocks, member, relocked_eq, hy]
      rfl
    · rw [pathA, relocks, relock_stream, setStream_group, receivedBy_group, if_neg hj,
        setStream_stream_ne _ _ (by rintro rfl; exact hj hi), receivedBy_stream]
    · rw [pathA, relocks, relock_group_self, setStream_group, receivedBy_group]
      rfl
    · rw [pathA, relocks, relock_group_ne _ hne, setStream_group, receivedBy_group]
    · rw [pathA, relocks, relock_notices, setStream_notices, setStream_clock, receivedBy_notices, receivedBy_hbc]
    · rw [pathA, relocks]
      exact relock_frame _ _ _
  · rintro rfl hp
    rw [pathB, rejectB_counted (by rw [same]; exact hp), same]
  · rintro rfl hp hb
    rw [pathB, rejectB_mismatch (by rw [same]; exact hp) (by rw [same]; exact hb) rfl, same]

end Sys2Proof.Machine
end

section
/-! SUPPORT. One block offer (R68 to R73): its class, and the effect of each class. -/

namespace Sys2Proof.Machine

/-! ## The class of a block (R68) -/

theorem pastEnd_iff (x : Stream) (seq : Word) : x.endSeq.any (fun q => 0 < sdiff seq q) = true ↔ ∃ q, x.endSeq = some q ∧ 0 < sdiff seq q := by
  cases x.endSeq with
  | none => simp
  | some q => simp

theorem isConcealed_iff (y : Slot) (seq : Word) : y.isConcealed seq = true ↔ y = .concealed seq := by
  cases y <;> simp [Slot.isConcealed]

theorem isFilled_iff (y : Slot) (seq : Word) : y.isFilled seq = true ↔ ∃ b, y = .filled b ∧ b.seq = seq := by
  cases y <;> simp [Slot.isFilled]

theorem classify_afterEnd {x : Stream} {seq : Word} (h : ∃ q, x.endSeq = some q ∧ 0 < sdiff seq q) : x.classify seq = .afterEnd :=
  if_pos ((pastEnd_iff x seq).mpr h)

section
variable {x : Stream} {seq e : Word} (within : ¬∃ q, x.endSeq = some q ∧ 0 < sdiff seq q) (he : x.ePlay = some e)
include within he

theorem classify_late (h : sdiff seq e < 0 ∨ x.slotAt seq = .concealed seq) : x.classify seq = .late := by
  rw [Stream.classify, if_neg (mt (pastEnd_iff x seq).mp within), he]
  refine if_pos ?_
  simpa only [Option.getD_some, Bool.or_eq_true, decide_eq_true_eq, isConcealed_iff] using h

/-- A block that is neither after the end nor late (R68). -/
theorem classify_ahead (h : 0 ≤ sdiff seq e) (hc : x.slotAt seq ≠ .concealed seq) : x.classify seq =
    if (x.depth : Int) ≤ sdiff seq e then .early else if (x.slotAt seq).isFilled seq then .duplicate else .accepted := by
  rw [Stream.classify, if_neg (mt (pastEnd_iff x seq).mp within), he]
  refine if_neg ?_
  simp only [Option.getD_some, Bool.or_eq_true, decide_eq_true_eq, isConcealed_iff]
  exact fun late => late.elim (not_lt.mpr h) hc

theorem classify_early (h : x.depth ≤ sdiff seq e) (hc : x.slotAt seq ≠ .concealed seq) : x.classify seq = .early := by
  rw [classify_ahead within he (le_trans (Int.natCast_nonneg _) h) hc, if_pos h]

theorem classify_duplicate (h : 0 ≤ sdiff seq e) (hd : sdiff seq e < x.depth) (hc : x.slotAt seq ≠ .concealed seq)
    (hf : ∃ b, x.slotAt seq = .filled b ∧ b.seq = seq) : x.classify seq = .duplicate := by
  rw [classify_ahead within he h hc, if_neg (not_le.mpr hd), if_pos ((isFilled_iff _ _).mpr hf)]

theorem classify_accepted (h : 0 ≤ sdiff seq e) (hd : sdiff seq e < x.depth) (hc : x.slotAt seq ≠ .concealed seq)
    (hf : ¬∃ b, x.slotAt seq = .filled b ∧ b.seq = seq) : x.classify seq = .accepted := by
  rw [classify_ahead within he h hc, if_neg (not_le.mpr hd), if_neg (mt (isFilled_iff _ _).mp hf)]

end

/-! ## The effects -/

/-- A delivery on a path clears that path's watch (R75, R76). -/
theorem deliver_eq (x : Stream) (i : Fin 32) (path : PathId) : x.deliver i path =
    ({ x with
      watchA := if path = .a then { mark := false, silent := 0 } else x.watchA
      watchB := if path = .b then { mark := false, silent := 0 } else x.watchB },
    if (x.watch path).mark then
      [{ kind := .pathRestored, subject := 2 * i.val + pathNumber path, detail := (x.watch path).silent.toInt }] else []) := by
  cases path <;> rfl

/-- An end mark is recorded once, and moves PRIMED and PLAYING to DRAINING (R70). -/
theorem recordEnd_eq (x : Stream) (o : Offer) {ends : Bool} (h : ends = (o.endMark && x.endSeq.isNone)) : x.recordEnd o =
    { x with
      endSeq := if ends then some o.seq else x.endSeq
      state := if ends ∧ (x.state = .primed ∨ x.state = .playing) then .draining else x.state } := by
  subst h
  unfold Stream.recordEnd
  cases o.endMark && x.endSeq.isNone with
  | false => simp
  | true => cases hs : x.state <;> simp

theorem firstCopy_eq (c : StreamCounters) (path : PathId) :
    c.firstCopy path = if path = .a then { c with firstA := c.firstA + 1 } else { c with firstB := c.firstB + 1 } := by
  cases path <;> rfl

/-- DIRECT lines follow in PRIMED, PLAYING and DRAINING, which an end mark does not leave (R70, R155). -/
theorem directFollows_iff (st : StreamState) (ends : Bool) :
    (if ends ∧ (st = .primed ∨ st = .playing) then StreamState.draining else st).directFollows = true ↔
      st = .primed ∨ st = .playing ∨ st = .draining := by
  cases st <;> cases ends <;> simp [StreamState.directFollows]

/-- The checker before a block's samples: a gap ends its sync and leaves the consecutive mismatches (R173, log 15). -/
theorem gapTest_eq (c : Checker) (seq : Word) : c.gapTest seq = match c.lastSeq with
    | none => { c with lastSeq := some seq }
    | some l => if seq = l + 1 then { c with lastSeq := some seq } else { c with lastSeq := some seq, gaps := c.gaps + 1, sync := false } := by
  unfold Checker.gapTest
  dsimp only
  cases c.lastSeq with
  | none => rfl
  | some l =>
    by_cases h : seq = l + 1
    · simp only [if_pos h]
    · simp only [if_neg h]

/-- An accepted block (R69, R70, R76, R155, R173). -/
theorem accept_eq (a : Ingest) (i : Fin 32) (path : PathId) (o : Offer) {ends : Bool} (h : ends = (o.endMark && a.x.endSeq.isNone)) :
    a.accept i path o = { a with
      x := { a.x with
        counters := a.x.counters.firstCopy path
        earlyRun := 0
        checker := if a.x.test then ((a.x.checker.gapTest o.seq).samples o.samples.flatten).1 else a.x.checker
        ring := a.x.ring.set (o.seq.toNat % a.x.depth) (.filled o.block)
        endSeq := if ends then some o.seq else a.x.endSeq
        state := if ends ∧ (a.x.state = .primed ∨ a.x.state = .playing) then .draining else a.x.state
        watchA := if path = .a then { mark := false, silent := 0 } else a.x.watchA
        watchB := if path = .b then { mark := false, silent := 0 } else a.x.watchB }
      posts := a.posts ++ (if a.x.test then ((a.x.checker.gapTest o.seq).samples o.samples.flatten).2.map fun k : Word =>
          { kind := .testSyncLost, subject := i.val, detail := k.toInt } else []) ++
        (if (a.x.watch path).mark then
          [{ kind := .pathRestored, subject := 2 * i.val + pathNumber path, detail := (a.x.watch path).silent.toInt }] else [])
      cues := a.cues ++ (if a.x.state = .primed ∨ a.x.state = .playing ∨ a.x.state = .draining then o.cue.toList else [])
      accepted := true } := by
  have watch (st : StreamState) (q : Option Word) (r : List Slot) (c : Checker) (n : StreamCounters) :
      Stream.watch { a.x with state := st, endSeq := q, ring := r, checker := c, counters := n, earlyRun := 0 } path = a.x.watch path := by
    cases path <;> rfl
  have recorded (y : Stream) (hy : y.endSeq = a.x.endSeq) := recordEnd_eq y o (ends := ends) (by rw [hy]; exact h)
  unfold Ingest.accept
  dsimp only
  simp only [Stream.setSlot, recorded, deliver_eq, directFollows_iff, watch]
  cases a.x.test with
  | false => rfl
  | true => rfl

/-! ## The offer of each class (R68 to R73) -/

theorem offer_afterEnd {a : Ingest} {o : Offer} (h : a.x.classify o.seq = .afterEnd) (i : Fin 32) (path : PathId) :
    Ingest.offer i path a o =
      { a with x := { a.x with counters := { a.x.counters with afterEnd := a.x.counters.afterEnd + 1 }, earlyRun := 0 } } := by
  simp only [Ingest.offer, h]

theorem offer_late {a : Ingest} {o : Offer} (h : a.x.classify o.seq = .late) (i : Fin 32) (path : PathId) :
    Ingest.offer i path a o =
      { a with x := { a.x with counters := { a.x.counters with late := a.x.counters.late + 1 }, earlyRun := 0 } } := by
  simp only [Ingest.offer, h]

/-- An early block before the eighth in a row (R73). -/
theorem offer_early {a : Ingest} {o : Offer} (h : a.x.classify o.seq = .early) (hr : a.x.earlyRun < 7) (i : Fin 32) (path : PathId) :
    Ingest.offer i path a o = { a with
      x := { a.x with counters := { a.x.counters with early := a.x.counters.early + 1 }, earlyRun := a.x.earlyRun + 1 } } := by
  simp only [Ingest.offer, h, if_pos hr]

/-- The eighth early block in a row calls for the early resync, with its own distance as the detail when it is the first (R73). -/
theorem offer_resync {a : Ingest} {o : Offer} (h : a.x.classify o.seq = .early) (hr : 7 ≤ a.x.earlyRun) {e : Word}
    (he : a.x.ePlay = some e) (i : Fin 32) (path : PathId) : Ingest.offer i path a o = { a with
      x := { a.x with counters := { a.x.counters with early := a.x.counters.early + 1 } }
      resync := some (a.resync.getD (sdiff o.seq e)) } := by
  simp only [Ingest.offer, h, if_neg (not_lt.mpr hr), he, Option.getD_some]
  cases a.resync <;> rfl

theorem offer_duplicate {a : Ingest} {o : Offer} (h : a.x.classify o.seq = .duplicate) (i : Fin 32) (path : PathId) :
    Ingest.offer i path a o = { a with
      x := { a.x with
        counters := { a.x.counters with duplicates := a.x.counters.duplicates + 1 }
        earlyRun := 0
        watchA := if path = .a then { mark := false, silent := 0 } else a.x.watchA
        watchB := if path = .b then { mark := false, silent := 0 } else a.x.watchB }
      posts := a.posts ++ if (a.x.watch path).mark then
        [{ kind := .pathRestored, subject := 2 * i.val + pathNumber path, detail := (a.x.watch path).silent.toInt }] else [] } := by
  simp only [Ingest.offer, h, deliver_eq]
  cases path <;> rfl

theorem offer_accepted {a : Ingest} {o : Offer} (h : a.x.classify o.seq = .accepted) (i : Fin 32) (path : PathId) :
    Ingest.offer i path a o = a.accept i path o := by
  simp only [Ingest.offer, h]

/-- The offers of a packet are taken one after the other (R64). -/
theorem ingest_append (x : Stream) (i : Fin 32) (path : PathId) (os : List Offer) (o : Offer) :
    x.ingest i path (os ++ [o]) = Ingest.offer i path (x.ingest i path os) o := by
  simp only [Stream.ingest, List.foldl_append, List.foldl_cons, List.foldl_nil]

end Sys2Proof.Machine
end

section
/-! SUPPORT. A packet on its stream's timeline (R21, R63, R64, R73, R85, R155), and the early resync that it may bring. -/

namespace Sys2Proof.Machine

/-! ## The offers of a packet -/

/-- Offer j of a packet (R21, R63). -/
def Packet.offerAt (p : Packet) (ext hbc : Word) (j : Nat) : Offer :=
  { seq := ext + BitVec.ofNat 32 j, sourceTime := p.sourceTime + BitVec.ofNat 32 (48 * j), arrival := hbc
    cue := if p.cuePresent then some p.cue else none, endMark := p.endFlag && decide (j + 1 = p.packing), samples := p.blocks.getD j [] }

theorem chunks_length {α : Type} (size count : Nat) (l : List α) : (chunks size count l).length = count := by
  induction count generalizing l with
  | zero => rfl
  | succ count ih => rw [chunks, List.length_cons, ih]

theorem blocks_length (p : Packet) : p.blocks.length = p.packing := by
  rw [Packet.blocks, List.length_map, chunks_length]

/-- A packet offers its blocks in their order. -/
theorem offers_eq (p : Packet) (ext hbc : Word) : p.offers ext hbc = (List.range p.packing).map (p.offerAt ext hbc) := by
  have length : (p.offers ext hbc).length = p.packing := by rw [Packet.offers, List.length_map, List.length_zipIdx, blocks_length]
  refine List.ext_getElem (by rw [length, List.length_map, List.length_range]) fun j h _ => ?_
  have place : j < p.blocks.length := by rw [blocks_length, ← length]; exact h
  simp only [Packet.offers, List.getElem_map, List.getElem_zipIdx, List.getElem_range, Packet.offerAt, Nat.zero_add,
    List.getD_eq_getElem?_getD, List.getElem?_eq_getElem place, Option.getD_some]
  rfl

/-! ## The cue words of a packet -/

/-- An offer hands on its own cue word, or none. -/
theorem mem_offer_cues {a : Ingest} {i : Fin 32} {path : PathId} {o : Offer} {c : Half} (h : c ∈ (Ingest.offer i path a o).cues) :
    c ∈ a.cues ∨ o.cue = some c := by
  revert h
  unfold Ingest.offer
  dsimp only
  split
  · exact .inl
  · exact .inl
  · split
    · exact .inl
    · exact .inl
  · exact .inl
  · rw [accept_eq a i path o rfl]
    intro h
    obtain h | h := List.mem_append.mp h
    · exact .inl h
    · split at h
      · exact .inr (Option.mem_toList.mp h)
      · exact absurd h List.not_mem_nil

/-- Every cue word that a packet's blocks hand on is the packet's. -/
theorem mem_ingest_cues {x : Stream} {i : Fin 32} {path : PathId} {p : Packet} {ext hbc : Word} {c : Half}
    (h : c ∈ (x.ingest i path (p.offers ext hbc)).cues) : c = p.cue := by
  have own (o : Offer) (ho : o ∈ p.offers ext hbc) : o.cue = some c → c = p.cue := by
    rw [offers_eq] at ho
    obtain ⟨j, -, rfl⟩ := List.mem_map.mp ho
    simp only [Packet.offerAt]
    split
    · exact fun e => (Option.some.inj e).symm
    · nofun
  have through (os : List Offer) (hos : ∀ o ∈ os, o ∈ p.offers ext hbc) (a : Ingest) (ha : c ∈ a.cues → c = p.cue)
      (hc : c ∈ (os.foldl (Ingest.offer i path) a).cues) : c = p.cue := by
    induction os generalizing a with
    | nil => exact ha hc
    | cons o os ih =>
      refine ih (fun q hq => hos q (List.mem_cons_of_mem o hq)) _ (fun hm => ?_) hc
      exact (mem_offer_cues hm).elim ha (own o (hos o List.mem_cons_self))
  exact through _ (fun _ ho => ho) { x := x, posts := [], cues := [], accepted := false, resync := none } nofun h

/-- The DIRECT lines of a stream after a packet whose blocks handed on cue words (R155). -/
def SignalRouter.cued (r : SignalRouter) (i : Fin 32) (cue : Half) (any : Prop) [Decidable any] : SignalRouter :=
  { r with lines := vmap r.lines fun _ l =>
      if any ∧ l.mode = .direct ∧ l.stream = i then { l with current := cue.getLsbD l.bit.val ^^ l.invert } else l }

theorem vmap_congr {α β : Type} {n : Nat} {v : Vector α n} {f g : Fin n → α → β} (h : ∀ k, f k (v.get k) = g k (v.get k)) :
    vmap v f = vmap v g := by
  simp only [vmap, h]

theorem vmap_vmap {α β γ : Type} {n : Nat} (v : Vector α n) (f : Fin n → α → β) (g : Fin n → β → γ) :
    vmap (vmap v f) g = vmap v fun k x => g k (f k x) := by
  simp only [vmap, vgen_get]

theorem vmap_id {α : Type} {n : Nat} (v : Vector α n) : (vmap v fun _ x => x) = v := by
  refine Vector.ext fun k hk => ?_
  have entry := vmap_get v (fun _ x => x) ⟨k, hk⟩
  exact entry

theorem cued_none (r : SignalRouter) (i : Fin 32) (c : Half) {any : Prop} [Decidable any] (h : ¬any) : r.cued i c any = r := by
  have same : r.lines = vmap r.lines fun _ l =>
      if any ∧ l.mode = .direct ∧ l.stream = i then { l with current := c.getLsbD l.bit.val ^^ l.invert } else l := by
    refine Eq.trans (vmap_id r.lines).symm (vmap_congr fun k => ?_)
    rw [if_neg fun e => h e.1]
  rw [SignalRouter.cued, ← same]

/-- A cue word that comes again changes no line. -/
theorem directCue_cued (r : SignalRouter) (i : Fin 32) (c : Half) {any any' : Prop} [Decidable any] [Decidable any'] (h : any') :
    (r.cued i c any).directCue i c = r.cued i c any' := by
  refine congrArg (fun lines => { r with lines := lines }) ((vmap_vmap _ _ _).trans (vmap_congr fun k => ?_))
  by_cases hl : (r.lines.get k).mode = .direct ∧ (r.lines.get k).stream = i
  · by_cases ha : any
    · rw [if_pos (And.intro ha hl), if_pos (And.intro h hl)]
      exact if_pos hl
    · have none : ¬(any ∧ (r.lines.get k).mode = .direct ∧ (r.lines.get k).stream = i) := fun e => ha e.1
      rw [if_neg none, if_pos (And.intro h hl)]
      exact if_pos hl
  · have none : ¬(any ∧ (r.lines.get k).mode = .direct ∧ (r.lines.get k).stream = i) := fun e => hl e.2
    rw [if_neg none, if_neg hl]
    exact (if_neg fun e => hl e.2).symm

/-- Cue words that are all one word move the lines once (R155). -/
theorem directCues_eq (r : SignalRouter) (i : Fin 32) (c : Half) {cs : List Half} (h : ∀ d ∈ cs, d = c) :
    cs.foldl (fun r d => r.directCue i d) r = r.cued i c (cs ≠ []) := by
  induction cs using List.reverseRecOn with
  | nil => exact (cued_none r i c (by simp)).symm
  | append_singleton cs d ih =>
    obtain rfl := h d (by simp)
    rw [List.foldl_append, ih fun e he => h e (by simp [he]), List.foldl_cons, List.foldl_nil,
      directCue_cued (any' := cs ++ [d] ≠ []) _ _ _ (by simp)]

/-! ## The state after a packet on the timeline -/

theorem vset_twice {α : Type} {n : Nat} (v : Vector α n) (i : Fin n) (x y : α) : vset (vset v i x) i y = vset v i y := by
  refine Vector.ext fun k hk => ?_
  simp only [vset, Vector.getElem_set]
  split <;> rfl

/-- The blocks of a packet leave the stream's record, their notices and the DIRECT lines (R64, R69, R155). -/
theorem classifyPacket_eq (s : State) (i : Fin 32) {a : Ingest} {c : Half} (h : ∀ d ∈ a.cues, d = c) : s.classifyPacket i a =
    { s.setStream i a.x with
      notices := s.notices.postAll s.clock.hbc a.posts, signals := s.signals.cued i c (a.cues ≠ []) } := by
  simp only [State.classifyPacket, postAll_signals, setStream_signals, directCues_eq _ i c h]
  rfl

theorem take_eq (c : StreamClock) (o : Word) : c.take o = { c with
    current := some (match c.current with
      | none => o
      | some m => if o.toInt < m.toInt then o else m)
    transits := c.transits + 1
    stopped := false } := by
  unfold StreamClock.take
  cases c.current with
  | none => rfl
  | some m => simp only [apply_ite]

/-- The transit of a packet is the one further change of its stream's record (R85). -/
theorem transit_classified (s : State) (i : Fin 32) {a : Ingest} {c : Half} (h : ∀ d ∈ a.cues, d = c) (sourceTime : Word) :
    (s.classifyPacket i a).transit i sourceTime =
      { s.setStream i { a.x with clock := a.x.clock.take (s.hs - sourceTime - (s.group a.x.group).oRef.getD 0) } with
        notices := s.notices.postAll s.clock.hbc a.posts, signals := s.signals.cued i c (a.cues ≠ []) } := by
  have twice := vset_twice s.streams i a.x { a.x with clock := a.x.clock.take (s.hs - sourceTime - (s.group a.x.group).oRef.getD 0) }
  have record : (s.classifyPacket i a).stream i = a.x := setStream_stream_self s i a.x
  have clock : (s.classifyPacket i a).hs = s.hs := rfl
  have groups (g : Fin 16) : (s.classifyPacket i a).group g = s.group g := rfl
  rw [State.transit, record, clock, groups, classifyPacket_eq s i h]
  simp only [State.setStream, twice]

/-- The state that a packet on the timeline leaves, before an early resync (R64, R69, R85). -/
theorem ingested_eq (s : State) (i : Fin 32) (path : PathId) (p : Packet) {a : Ingest} (ha : a = s.ingestOf i path p) {r : Word}
    (hr : (s.group (s.stream i).group).oRef = some r) {y : Stream}
    (hy : y = if a.accepted then { a.x with clock := a.x.clock.take (s.hs - p.sourceTime - r) } else a.x) :
    s.ingested i path p = { s.setStream i y with
      notices := s.notices.postAll s.clock.hbc a.posts, signals := s.signals.cued i p.cue (a.cues ≠ []) } := by
  subst ha hy
  have own (d : Half) (hd : d ∈ (s.ingestOf i path p).cues) : d = p.cue := mem_ingest_cues hd
  have group : (s.ingestOf i path p).x.group = (s.stream i).group := (ingestOf_continues s i path p).sameAdmission.group
  unfold State.ingested
  split
  · rw [transit_classified s i own, group, hr]
    rfl
  · exact classifyPacket_eq s i own

end Sys2Proof.Machine
end

section
/-! SUPPORT. The early resync of a packet on the timeline (R53, R73, R74), and a later packet as a whole (R64 to R73). -/

namespace Sys2Proof.Machine

/-! ## A later packet on its timeline -/

/-- A packet on the timeline leaves what its blocks leave, and an early resync when they call for one (R65, R73). -/
theorem laterPacket_on {s : State} {i : Fin 32} {p : Packet} {seq0 st0 e : Word} (ho : (s.stream i).origin = some (seq0, st0))
    (he : (s.stream i).ePlay = some e) (on : p.sourceTime = st0 + 48 * (extendSeq e p.seq - seq0)) (path : PathId) :
    ((s.ingestOf i path p).resync = none → s.laterPacket i path p = s.ingested i path p) ∧
    (∀ d, (s.ingestOf i path p).resync = some d → s.laterPacket i path p = (s.ingested i path p).earlyResync i d) := by
  have keeps : onTimeline ((s.stream i).origin.getD (0, 0)) (extendSeq ((s.stream i).ePlay.getD 0) p.seq) p.sourceTime = true := by
    rw [ho, he]
    simpa only [onTimeline, Option.getD_some, beq_iff_eq] using on
  have taken : s.laterPacket i path p = match (s.ingestOf i path p).resync with
      | some d => (s.ingested i path p).earlyResync i d
      | none => s.ingested i path p := by
    unfold State.laterPacket
    dsimp only
    rw [if_pos keeps]
    cases path <;> rfl
  exact ⟨fun h => by rw [taken, h], fun d h => by rw [taken, h]⟩

/-! ## The early resync (R74) -/

/-- The state of an early resync before its group is judged. -/
def State.resynced (s : State) (i : Fin 32) (d : Int) : State :=
  (s.setStream i ((s.stream i).leaveTimeline .acquiring)).post { kind := .earlyResync, subject := i.val, detail := d }

theorem resynced_stream_self (s : State) (i : Fin 32) (d : Int) : (s.resynced i d).stream i = (s.stream i).leaveTimeline .acquiring :=
  setStream_stream_self _ _ _

theorem resynced_stream_ne (s : State) {i j : Fin 32} (h : j ≠ i) (d : Int) : (s.resynced i d).stream j = s.stream j :=
  setStream_stream_ne _ _ h

/-- An early resync unanchors the group when no other member holds its timeline (R53, R74). -/
theorem earlyResync_eq {s : State} {i : Fin 32} {g : Fin 16} (hg : g = (s.stream i).group) {left : Bool}
    (h : left = true ↔ (s.group g).anchored = true ∧
      ∀ j ∈ (s.group g).members, j ≠ i → (s.stream j).state.holdsTimeline = false) (d : Int) :
    s.earlyResync i d = if left then (s.resynced i d).unanchor g else s.resynced i d := by
  have resynced : s.earlyResync i d = (s.resynced i d).unanchorIfLeft g := by rw [hg]; rfl
  rw [resynced]
  cases left with
  | true =>
    obtain ⟨anchored, none⟩ := h.mp rfl
    refine unanchorIfLeft_of_left anchored fun j hj => ?_
    by_cases e : j = i
    · rw [e, resynced_stream_self]; rfl
    · rw [resynced_stream_ne s e]; exact none j hj e
  | false =>
    refine unanchorIfLeft_of_held ?_
    by_cases anchored : (s.group g).anchored = true
    · have held : ¬∀ j ∈ (s.group g).members, j ≠ i → (s.stream j).state.holdsTimeline = false := fun none =>
        Bool.false_ne_true (h.mpr ⟨anchored, none⟩)
      simp only [not_forall, Bool.not_eq_false] at held
      obtain ⟨j, hj, e, holds⟩ := held
      exact .inr ⟨j, hj, by rw [resynced_stream_ne s e]; exact holds⟩
    · exact .inl (Bool.eq_false_iff.mpr anchored)

theorem earlyResync_notices (s : State) (i : Fin 32) (d : Int) : (s.earlyResync i d).notices =
    s.notices.post s.clock.hbc { kind := .earlyResync, subject := i.val, detail := d } := by
  rw [State.earlyResync, unanchorIfLeft_frame]
  rfl

/-- An early resync touches streams, groups and notices alone. -/
theorem earlyResync_frame (s : State) (i : Fin 32) (d : Int) : s.earlyResync i d =
    { s with
      streams := (s.earlyResync i d).streams, groups := (s.earlyResync i d).groups, notices := (s.earlyResync i d).notices } := by
  rw [State.earlyResync, unanchorIfLeft_frame]
  rfl

/-- The streams and groups after an early resync: the stream itself, its fellow members, and its group (R53, R74). -/
theorem earlyResync_records {s : State} {i : Fin 32} {g : Fin 16} {y : Stream} (hy : y = s.stream i) (hg : g = y.group) {left : Bool}
    (h : left = true ↔ (s.group g).anchored = true ∧
      ∀ j ∈ (s.group g).members, j ≠ i → (s.stream j).state.holdsTimeline = false) (d : Int) :
    (s.earlyResync i d).stream i =
      { y.leaveTimeline .acquiring with windowMismatches := if left ∧ i ∈ (s.group g).members then 0 else y.windowMismatches } ∧
    (∀ j, j ≠ i → (s.earlyResync i d).stream j = if left ∧ j ∈ (s.group g).members then
      { s.stream j with clock := (s.stream j).clock.drop, windowMismatches := 0 } else s.stream j) ∧
    (s.earlyResync i d).group g = (if left then (s.group g).unanchor else s.group g) ∧
    (∀ h, h ≠ g → (s.earlyResync i d).group h = s.group h) := by
  subst hy
  rw [earlyResync_eq hg h]
  have members : ((s.resynced i d).group g).members = (s.group g).members := rfl
  cases left with
  | true =>
    simp only [if_true, true_and]
    refine ⟨?_, fun j e => ?_, unanchor_group_self _ g, fun h e => unanchor_group_ne _ e⟩
    · rw [unanchor_stream, members, resynced_stream_self]
      split <;> rfl
    · rw [unanchor_stream, members, resynced_stream_ne s e]
  | false =>
    simp only [Bool.false_eq_true, if_false, false_and]
    exact ⟨resynced_stream_self s i d, fun j e => resynced_stream_ne s e d, rfl, fun h _ => rfl⟩

/-! ## The whole packet -/

/-- A packet that a path brings to a stream with a timeline (R9, R17 to R20). -/
theorem State.Delivers.later {s : State} {port : PortId} {n : Fin 48} {d : List Byte} {p : Packet} {i : Fin 32} {path : PathId}
    (h : s.Delivers port n d p i path) (hd : (s.stream i).state.drawn = true) :
    exec (.packetArrival port n d) s = .next ((s.receivedBy port n).laterPacket i path p) := by
  rw [arrival_bound h.up h.read h.bound, ingestStream_drawn]
  · rwa [receivedBy_stream]
  · rw [receivedBy_stream]; exact h.paired
  · rw [receivedBy_stream, formatMatches_iff]
    exact ⟨h.channels, h.format, h.packing, h.test⟩

/-- Settles O27: the packet's blocks are offered in order, an early resync follows when they call for one, and each offer has the effect
of its class. -/
theorem blockOfALaterPacketIsClassified : Obligations.BlockOfALaterPacketIsClassified := by
  refine ⟨?_, fun x i path => ⟨rfl, ingest_append x i path⟩, ?_⟩
  · rintro s t0 u port n d p i path x y g seq0 st0 e ext off r a ht0 delivers drawn ho he rfl on rfl hr rfl rfl ha hy hu
    obtain rfl : t0 = s.receivedBy port n := ht0
    have same := receivedBy_stream s port n i
    have offered : a = (s.receivedBy port n).ingestOf i path p := by
      rw [ha, State.ingestOf, same, he, receivedBy_hbc, offers_eq]
      cases path <;> rfl
    obtain ⟨calm, resync⟩ := laterPacket_on (s := s.receivedBy port n) (by rw [same]; exact ho) (by rw [same]; exact he) on path
    have left : u = (s.receivedBy port n).ingested i path p := by
      rw [ingested_eq (s.receivedBy port n) i path p offered (r := r) (y := y) (by rw [same, receivedBy_group]; exact hr), hu]
      · rw [receivedBy_notices, receivedBy_signals, receivedBy_hbc]
        rfl
      · rw [hy, receivedBy_hs]
        simp only [take_eq] <;> rfl
    rw [← offered, ← left] at calm resync
    refine ⟨fun h => (delivers.later drawn).trans (congrArg _ (calm h)), fun detail h =>
      ⟨u.earlyResync i detail, (delivers.later drawn).trans (congrArg _ (resync detail h)), ?_, fun left hleft => ?_⟩⟩
    · rw [earlyResync_notices, hu]
      exact congrArg (fun hbc => NoticeQueue.post _ hbc _) (receivedBy_hbc s port n)
    · have self : y = u.stream i := by rw [hu]; exact (setStream_stream_self _ i y).symm
      have others (j : Fin 32) (hj : j ≠ i) : u.stream j = s.stream j := by
        rw [hu]
        exact (setStream_stream_ne _ y hj).trans (receivedBy_stream s port n j)
      have groups (h : Fin 16) : u.group h = s.group h := by rw [hu]; exact receivedBy_group s port n h
      have ingested : a.x.group = (s.stream i).group := by
        rw [offered, ← same]
        exact (ingestOf_continues _ i path p).sameAdmission.group
      have group : y.group = (s.stream i).group := by rw [hy]; split <;> exact ingested
      rw [← group, ← groups y.group] at hleft ⊢
      have judged : left = true ↔ (u.group y.group).anchored = true ∧
          ∀ j ∈ (u.group y.group).members, j ≠ i → (u.stream j).state.holdsTimeline = false := by
        rw [hleft]
        refine and_congr_right fun _ => forall_congr' fun j => forall_congr' fun _ => forall_congr' fun hj => ?_
        rw [others j hj]
      obtain ⟨own, fellows, itsGroup, otherGroups⟩ := earlyResync_records self rfl judged detail
      refine ⟨own, fun j hj => ?_, itsGroup, fun h hh => (otherGroups h hh).trans (groups h), earlyResync_frame u i detail⟩
      rw [fellows j hj, others j hj]
      rfl
  · rintro a b i path o x e rfl rfl he hl hd
    refine ⟨fun past => offer_afterEnd (classify_afterEnd past) i path, fun within => ⟨fun late => ?_, fun early hc => ?_, ?_⟩⟩
    · exact offer_late (classify_late within he late) i path
    · have isEarly := classify_early within he early hc
      exact ⟨fun few => offer_early isEarly few i path, fun many => offer_resync isEarly many he i path⟩
    · rintro restored rfl ahead inRing hc
      refine ⟨fun filled => offer_duplicate (classify_duplicate within he ahead inRing hc filled) i path, fun free c ends hends hcheck => ?_⟩
      rw [offer_accepted (classify_accepted within he ahead inRing hc free), accept_eq a i path o hends, firstCopy_eq]
      rw [hcheck, gapTest_eq] <;> rfl

end Sys2Proof.Machine
end

section
/-! SUPPORT. The blocks of a first packet (R66 to R70): the ring is EMPTY, the blocks below E_play are late and the rest are stored. -/

namespace Sys2Proof.Machine

/-! ## Sequences near the origin -/

/-- The distance of a packet's block j from an E_play that lies at or after its first block (R63, R66). -/
theorem sdiff_from_origin {seq0 e : Word} {j : Nat} (hj : j < 4) (he : (e - seq0).toNat < 2147483648) :
    sdiff (seq0 + BitVec.ofNat 32 j) e = (j : Int) - (e - seq0).toNat := by
  have apart : seq0 + BitVec.ofNat 32 j - e = BitVec.ofNat 32 j - (e - seq0) := by ring
  rw [sdiff, apart]
  generalize e - seq0 = k at he ⊢
  rw [BitVec.toInt_eq_toNat_bmod, BitVec.toNat_sub, BitVec.toNat_ofNat, Int.bmod_def]
  omega

/-- The sequences of a packet's blocks do not wrap: the first is a 16-bit wire sequence (R63, R66). -/
theorem seq_toNat {seq0 : Word} (h : seq0.toNat < 65536) {j : Nat} (hj : j < 4) : (seq0 + BitVec.ofNat 32 j).toNat = seq0.toNat + j := by
  rw [BitVec.toNat_add, BitVec.toNat_ofNat]
  omega

/-- The blocks of a packet go to different slots (R67). -/
theorem slotIndex_ne {depth : Nat} (hd : depth ∈ [16, 32, 64, 128, 256]) (a : Nat) {j m : Nat} (hj : j < m) (hm : m < 4) :
    (a + j) % depth ≠ (a + m) % depth := by
  simp only [List.mem_cons, List.not_mem_nil, or_false] at hd
  obtain rfl | rfl | rfl | rfl | rfl := hd <;> omega

/-! ## The packing of a parsed packet -/

theorem parsePacket_packing {d : List Byte} {p : Packet} (h : parsePacket d = some p) : 1 ≤ p.packing ∧ p.packing ≤ 4 := by
  unfold parsePacket at h
  dsimp only at h
  split at h
  · next k f hk _ =>
    split at h
    · obtain rfl := Option.some.inj h
      obtain ⟨hn, rfl⟩ := packingOf_eq_some.mp hk
      have small (n : Nat) (h : n < 3) : 1 ≤ 2 ^ n ∧ 2 ^ n ≤ 4 := by interval_cases n <;> decide
      exact small _ hn
    · cases h
  · cases h

/-- A well-formed packet carries one to four blocks (R1, R5). -/
theorem wellFormed_packing {d : List Byte} {p : Packet} (h : judgeDatagram d = .wellFormed p) : 1 ≤ p.packing ∧ p.packing ≤ 4 := by
  unfold judgeDatagram at h
  split at h
  · cases h
  · split at h
    · split at h
      · next q hq =>
        cases h
        exact parsePacket_packing hq
      · cases h
    · cases h

/-! ## The blocks of the first packet, in order -/

/-- The record of a stream that a first packet has primed, before the packet's blocks (R66). -/
structure Stream.Primed (y : Stream) (seq0 e : Word) : Prop where
  first : seq0.toNat < 65536
  near : (e - seq0).toNat < 2147483648
  ePlay : y.ePlay = some e
  state : y.state = .primed
  endSeq : y.endSeq = none
  depth : y.depth ∈ [16, 32, 64, 128, 256]
  ring : y.ring = List.replicate y.depth .empty
  watchA : y.watchA = { mark := false, silent := 0 }
  watchB : y.watchB = { mark := false, silent := 0 }
  earlyRun : y.earlyRun = 0

/-- The counters of a path after blocks were late and accepted (R69). -/
def StreamCounters.begun (c : StreamCounters) (path : PathId) (late accepted : Nat) : StreamCounters :=
  if path = .a then { c with late := c.late + BitVec.ofNat 32 late, firstA := c.firstA + BitVec.ofNat 32 accepted }
  else { c with late := c.late + BitVec.ofNat 32 late, firstB := c.firstB + BitVec.ofNat 32 accepted }

/-- What the first m blocks of a first packet leave, those below `late` being late and the others stored (R68 to R70). -/
structure Ingest.Begun (a : Ingest) (y : Stream) (p : Packet) (seq0 hbc : Word) (path : PathId) (late m : Nat) : Prop where
  kept : { a.x with
    state := y.state, endSeq := y.endSeq, ring := y.ring, checker := y.checker, counters := y.counters, earlyRun := y.earlyRun
    watchA := y.watchA, watchB := y.watchB } = y
  earlyRun : a.x.earlyRun = 0
  watch : ∀ q, a.x.watch q = { mark := false, silent := 0 }
  state : a.x.state = if p.endFlag ∧ late < m ∧ m = p.packing then .draining else .primed
  endSeq : a.x.endSeq = if p.endFlag ∧ late < m ∧ m = p.packing then some (seq0 + BitVec.ofNat 32 (p.packing - 1)) else none
  counters : a.x.counters = y.counters.begun path (min m late) (m - late)
  cues : a.cues ≠ [] ↔ p.cuePresent = true ∧ late < m
  sized : a.x.ring.length = y.depth
  stored : ∀ j, late ≤ j → j < m → a.x.ring.getD ((seq0.toNat + j) % y.depth) .empty = .filled (p.offerAt seq0 hbc j).block
  empty : ∀ k, k < y.depth → (∀ j, late ≤ j → j < m → k ≠ (seq0.toNat + j) % y.depth) → a.x.ring.getD k .empty = .empty

section
variable {y : Stream} {p : Packet} {seq0 e hbc : Word} {path : PathId} {late : Nat}

theorem begun_nothing (hy : y.Primed seq0 e) (i : Fin 32) (late : Nat) (hbc : Word) : (y.ingest i path []).Begun y p seq0 hbc path late 0 where
  kept := rfl
  earlyRun := hy.earlyRun
  watch
    | .a => hy.watchA
    | .b => hy.watchB
  state := by simp [Stream.ingest, hy.state]
  endSeq := by simp [Stream.ingest, hy.endSeq]
  counters := by
    simp only [StreamCounters.begun, Nat.zero_min, Nat.zero_sub]
    split <;> simp [Stream.ingest]
  cues := by simp [Stream.ingest]
  sized := by simp [Stream.ingest, hy.ring]
  stored := nofun
  empty k hk _ := by simp [Stream.ingest, hy.ring]

/-- The counters after one more late block. -/
theorem begun_late_succ (c : StreamCounters) (path : PathId) {gap m : Nat} (h : m < gap) :
    { c.begun path (min m gap) (m - gap) with late := (c.begun path (min m gap) (m - gap)).late + 1 } =
      c.begun path (min (m + 1) gap) (m + 1 - gap) := by
  have late : c.late + BitVec.ofNat 32 m + 1 = c.late + BitVec.ofNat 32 (m + 1) := by rw [add_assoc, BitVec.ofNat_add]; rfl
  rw [min_eq_left h.le, min_eq_left h, Nat.sub_eq_zero_of_le h.le, Nat.sub_eq_zero_of_le h]
  unfold StreamCounters.begun
  split <;> simp only [late]

/-- The counters after one more first copy. -/
theorem begun_accepted_succ (c : StreamCounters) (path : PathId) {gap m : Nat} (h : gap ≤ m) :
    (c.begun path (min m gap) (m - gap)).firstCopy path = c.begun path (min (m + 1) gap) (m + 1 - gap) := by
  have first (w : Word) : w + BitVec.ofNat 32 (m - gap) + 1 = w + BitVec.ofNat 32 (m + 1 - gap) := by
    rw [Nat.sub_add_comm h, add_assoc, BitVec.ofNat_add]
    rfl
  rw [min_eq_right h, min_eq_right (by omega)]
  cases path
  · simp only [StreamCounters.begun, StreamCounters.firstCopy, if_true, first]
  · simp only [StreamCounters.begun, StreamCounters.firstCopy, reduceCtorEq, if_false, first]

theorem begun_depth {a : Ingest} {m : Nat} (ha : a.Begun y p seq0 hbc path late m) : a.x.depth = y.depth := by
  have kept := congrArg Stream.depth ha.kept
  exact kept

theorem begun_open {a : Ingest} {m : Nat} (ha : a.Begun y p seq0 hbc path late m) (hp : m < p.packing) : a.x.endSeq = none := by
  rw [ha.endSeq, if_neg (by omega)]

theorem begun_within {a : Ingest} {m : Nat} (ha : a.Begun y p seq0 hbc path late m) (hp : m < p.packing) (seq : Word) :
    ¬∃ q, a.x.endSeq = some q ∧ 0 < sdiff seq q := by
  rintro ⟨q, hq, -⟩
  rw [begun_open ha hp] at hq
  cases hq

section
variable {a : Ingest} {m : Nat} (hy : y.Primed seq0 e) (ha : a.Begun y p seq0 hbc path (e - seq0).toNat m) (hm : m < 4) (hp : m < p.packing)
include hy ha hm hp

/-- A block below E_play is late (R68). -/
theorem begun_late (hl : m < (e - seq0).toNat) (i : Fin 32) :
    (Ingest.offer i path a (p.offerAt seq0 hbc m)).Begun y p seq0 hbc path (e - seq0).toNat (m + 1) := by
  have ePlay : a.x.ePlay = some e := (congrArg Stream.ePlay ha.kept).trans hy.ePlay
  have below : sdiff (p.offerAt seq0 hbc m).seq e < 0 := by
    have := sdiff_from_origin hm hy.near
    simp only [Packet.offerAt]
    omega
  have late : ¬(e - seq0).toNat < m + 1 := by omega
  rw [offer_late (classify_late (begun_within ha hp _) ePlay (.inl below)) i path]
  exact {
    kept := ha.kept
    earlyRun := rfl
    watch := fun q => by cases q <;> [exact ha.watch .a; exact ha.watch .b]
    state := by rw [ha.state, if_neg (by omega), if_neg (by omega)]
    endSeq := by rw [ha.endSeq, if_neg (by omega), if_neg (by omega)]
    counters := by rw [ha.counters]; exact begun_late_succ _ path hl
    cues := ha.cues.trans (and_congr_right fun _ => by omega)
    sized := ha.sized
    stored := fun j hj hjm => by omega
    empty := fun k hk _ => ha.empty k hk fun j hj hjm => by omega }

/-- A block from E_play on is stored (R68 to R70). -/
theorem begun_accepted (hl : (e - seq0).toNat ≤ m) (i : Fin 32) :
    (Ingest.offer i path a (p.offerAt seq0 hbc m)).Begun y p seq0 hbc path (e - seq0).toNat (m + 1) := by
  have ePlay : a.x.ePlay = some e := (congrArg Stream.ePlay ha.kept).trans hy.ePlay
  have depth := begun_depth ha
  have deep : 16 ≤ y.depth := by
    have := hy.depth
    simp only [List.mem_cons, List.not_mem_nil, or_false] at this
    omega
  have ahead : sdiff (p.offerAt seq0 hbc m).seq e = (m : Int) - (e - seq0).toNat := sdiff_from_origin hm hy.near
  have place : (p.offerAt seq0 hbc m).seq.toNat % a.x.depth = (seq0.toNat + m) % y.depth := by
    rw [depth]
    exact congrArg (· % y.depth) (seq_toNat hy.first hm)
  have inRing : (seq0.toNat + m) % y.depth < y.depth := Nat.mod_lt _ (by omega)
  have free : a.x.slotAt (p.offerAt seq0 hbc m).seq = .empty := by
    rw [Stream.slotAt, place]
    exact ha.empty _ inRing fun j _ hj e => slotIndex_ne hy.depth _ hj hm e.symm
  have accepted : a.x.classify (p.offerAt seq0 hbc m).seq = .accepted :=
    classify_accepted (begun_within ha hp _) ePlay (by omega) (by omega) (by rw [free]; nofun) (by rw [free]; nofun)
  have primed : a.x.state = .primed := by rw [ha.state, if_neg (by omega)]
  have ends : (p.endFlag && decide (m + 1 = p.packing)) = ((p.offerAt seq0 hbc m).endMark && a.x.endSeq.isNone) := by
    rw [begun_open ha hp, Option.isNone_none, Bool.and_true]
    rfl
  rw [offer_accepted accepted, accept_eq a i path _ ends, place]
  have last : (p.endFlag && decide (m + 1 = p.packing)) = true ↔ p.endFlag = true ∧ (e - seq0).toNat < m + 1 ∧ m + 1 = p.packing := by
    simp only [Bool.and_eq_true, decide_eq_true_eq]
    exact and_congr_right fun _ => (and_iff_right (by omega)).symm
  exact {
    kept := ha.kept
    earlyRun := rfl
    watch := fun q => by
      have before := ha.watch q
      cases path <;> cases q
      · rfl
      · exact before
      · exact before
      · rfl
    state := by simp only [primed, last, true_or, and_true]
    endSeq := by
      have sequence (h : m + 1 = p.packing) : (p.offerAt seq0 hbc m).seq = seq0 + BitVec.ofNat 32 (p.packing - 1) := by
        rw [← h]
        rfl
      rw [begun_open ha hp]
      by_cases h : p.endFlag = true ∧ (e - seq0).toNat < m + 1 ∧ m + 1 = p.packing
      · rw [if_pos (last.mpr h), if_pos h, sequence h.2.2]
      · rw [if_neg (mt last.mp h), if_neg h]
    counters := by rw [ha.counters]; exact begun_accepted_succ _ path hl
    cues := by
      have own : (p.offerAt seq0 hbc m).cue.toList = if p.cuePresent then [p.cue] else [] := by
        simp only [Packet.offerAt]
        split <;> rfl
      have before := ha.cues
      simp only [primed, true_or, if_true, own, ne_eq, List.append_eq_nil_iff]
      rw [ne_eq] at before
      cases hc : p.cuePresent with
      | false => simpa [hc] using before
      | true => exact iff_of_true (by simp) ⟨rfl, Nat.lt_succ_of_le hl⟩
    sized := List.length_set.trans ha.sized
    stored := fun j hj hjm => by
      rw [List.getD_eq_getElem?_getD]
      obtain rfl | before := eq_or_lt_of_le (Nat.le_of_lt_succ hjm)
      · rw [List.getElem?_set_self (by rw [ha.sized]; exact inRing), Option.getD_some]
      · rw [List.getElem?_set_ne (slotIndex_ne hy.depth _ before hm).symm, ← List.getD_eq_getElem?_getD]
        exact ha.stored j hj before
    empty := fun k hk h => by
      have other : (seq0.toNat + m) % y.depth ≠ k := (h m hl (Nat.lt_succ_self m)).symm
      rw [List.getD_eq_getElem?_getD, List.getElem?_set_ne other, ← List.getD_eq_getElem?_getD]
      exact ha.empty k hk fun j hj hjm => h j hj (Nat.lt_succ_of_lt hjm) }

end

/-- What the blocks of a first packet leave (R68 to R70). -/
theorem ingest_begun (hy : y.Primed seq0 e) (hp : p.packing ≤ 4) (i : Fin 32) (path : PathId) (hbc : Word) :
    (y.ingest i path (p.offers seq0 hbc)).Begun y p seq0 hbc path (e - seq0).toNat p.packing := by
  have through (m : Nat) (hm : m ≤ p.packing) :
      (y.ingest i path ((List.range m).map (p.offerAt seq0 hbc))).Begun y p seq0 hbc path (e - seq0).toNat m := by
    induction m with
    | zero => exact begun_nothing hy i _ hbc
    | succ m ih =>
      have before := ih (by omega)
      rw [List.range_succ, List.map_append, List.map_cons, List.map_nil, ingest_append]
      by_cases hl : m < (e - seq0).toNat
      · exact begun_late hy before (by omega) (by omega) hl i
      · exact begun_accepted hy before (by omega) (by omega) (by omega) i
  rw [offers_eq]
  exact through p.packing le_rfl

end

end Sys2Proof.Machine
end

section
/-! SUPPORT. The first packet of a stream (R52, R66, R85): the anchoring, the priming and the transit, and what the packet leaves. -/

namespace Sys2Proof.Machine

/-! ## The anchoring (R52) -/

/-- A stream's record after an anchoring: a member's clock state is emptied (R52, R86). -/
theorem anchor_stream (s : State) (g : Fin 16) (at_ st : Word) (j : Fin 32) : (s.anchor g at_ st).stream j =
    if j ∈ (s.group g).members then { s.stream j with clock := { current := none, transits := 0, last := none, stopped := false } }
    else s.stream j := by
  have mapped := mapMembers_stream s g (fun x => { x with clock := .cleared }) j
  simp only [List.contains_iff_mem] at mapped
  exact mapped

theorem anchor_group_self (s : State) (g : Fin 16) (at_ st : Word) : (s.anchor g at_ st).group g = (s.group g).anchor at_ st :=
  setGroup_group_self _ _ _

theorem anchor_group_ne (s : State) {g h : Fin 16} (e : h ≠ g) (at_ st : Word) : (s.anchor g at_ st).group h = s.group h :=
  setGroup_group_ne _ _ e

theorem anchoredFor_anchored {s : State} {i : Fin 32} (h : (s.group (s.stream i).group).anchored = true) (p : Packet) :
    s.anchoredFor i p = s := if_pos h

theorem anchoredFor_unanchored {s : State} {i : Fin 32} (h : (s.group (s.stream i).group).anchored = false) (p : Packet) :
    s.anchoredFor i p = s.anchor (s.stream i).group s.hs p.sourceTime := if_neg (by rw [h]; nofun)

/-- An anchoring touches streams and groups alone. -/
theorem anchoredFor_frame (s : State) (i : Fin 32) (p : Packet) :
    s.anchoredFor i p = { s with streams := (s.anchoredFor i p).streams, groups := (s.anchoredFor i p).groups } := by
  unfold State.anchoredFor
  split
  · rfl
  · rfl

/-! ## The priming (R66, R85) -/

/-- The record of a stream that a first packet has primed and that has taken the packet's transit (R66, R85). -/
def Stream.primedAt (x : Stream) (p : Packet) (e : Word) (c : StreamClock) : Stream :=
  { x with
    origin := some (p.seq.zeroExtend 32, p.sourceTime), ePlay := some e, breaks := 0, earlyRun := 0
    watchA := { mark := false, silent := 0 }, watchB := { mark := false, silent := 0 }
    counters := { x.counters with skipped := x.counters.skipped + (e - p.seq.zeroExtend 32) }
    state := .primed, clock := c }

/-- E_play of a first packet: the sequence that holds the read position of the next draw, or the packet's own (R66). -/
theorem firstEPlay_eq (seq0 : Word) (pos : Int) :
    firstEPlay seq0 pos = if pos < 0 then seq0 else seq0 + BitVec.ofNat 32 (pos.toNat / 48) := by
  unfold firstEPlay
  split
  · rfl
  · next h =>
    obtain ⟨n, rfl⟩ := Int.eq_ofNat_of_zero_le (not_lt.mp h)
    rw [word, divTrunc, Int.toNat_natCast, ← Int.ofNat_tdiv, BitVec.ofInt_natCast]

/-- E_play lies at most a read position's blocks after the origin (R66). -/
theorem firstEPlay_near (seq0 : Word) {x : Word} : (firstEPlay seq0 x.toInt - seq0).toNat < 2147483648 := by
  rw [firstEPlay_eq]
  split
  · simp
  · have bound : x.toInt < 2147483648 := by have := BitVec.toInt_lt (x := x); omega
    rw [add_sub_cancel_left, BitVec.toNat_ofNat]
    omega

/-- The record that a first packet's blocks find (R66, R85). -/
theorem primedBy_stream_self {s : State} {i : Fin 32} {p : Packet} {x : Stream} {g : Group} {q o : Word}
    (hx : x = (s.anchoredFor i p).stream i) (hg : g = (s.anchoredFor i p).group (s.stream i).group) (hq : g.q = some q)
    (ho : g.oRef = some o) : (s.primedBy i p).stream i =
      x.primedAt p (firstEPlay (p.seq.zeroExtend 32) ((s.clock.hbc + 1) * 48 - q - p.sourceTime).toInt)
        (x.clock.take (s.hs - p.sourceTime - o)) := by
  have group : x.group = (s.stream i).group := by
    rw [hx]
    exact (anchoredFor_stands s i p i).sameAdmission.group
  have hs : (s.anchoredFor i p).hs = s.hs := by rw [anchoredFor_frame]; rfl
  have transit (u : State) {z : Stream} {h : Fin 16} (e : z.group = h) : ((u.setStream i z).transit i p.sourceTime).stream i =
      { z with clock := z.clock.take (u.hs - p.sourceTime - (u.group h).oRef.getD 0) } := by
    rw [State.transit, setStream_stream_self, setStream_stream_self, e]
    rfl
  have primed : (x.prime p q s.clock.hbc).group = (s.stream i).group := group
  rw [State.primedBy, ← hx, ← hg, hq, Option.getD_some, transit _ primed, hs, ← hg, ho]
  rfl

/-! ## What the packet leaves -/

theorem primedBy_frame (s : State) (i : Fin 32) (p : Packet) :
    s.primedBy i p = { s with streams := (s.primedBy i p).streams, groups := (s.primedBy i p).groups } := by
  unfold State.primedBy
  rw [anchoredFor_frame]
  rfl

/-- A first packet leaves what its blocks leave of the primed record, and its cue words on the DIRECT lines (R66, R69, R155). -/
theorem firstPacket_leaves {s : State} {i : Fin 32} {p : Packet} {y : Stream} (hy : y = (s.primedBy i p).stream i) (path : PathId)
    {a : Ingest} (ha : a = y.ingest i path (p.offers (p.seq.zeroExtend 32) s.clock.hbc)) :
    (s.firstPacket i path p).stream i = a.x ∧ (s.firstPacket i path p).signals = s.signals.cued i p.cue (a.cues ≠ []) ∧
    ∀ q, (s.firstPacket i path p).port q = s.port q := by
  have own (d : Half) (hd : d ∈ a.cues) : d = p.cue := by rw [ha] at hd; exact mem_ingest_cues hd
  have signals : (s.primedBy i p).signals = s.signals := by rw [primedBy_frame]
  have port (q : PortId) : (s.primedBy i p).port q = s.port q := by rw [primedBy_frame]; cases q <;> rfl
  rw [firstPacket_eq, ← hy, ← ha, classifyPacket_eq _ _ own]
  refine ⟨setStream_stream_self _ _ _, ?_, fun q => ?_⟩
  · rw [← signals]
  · rw [← port q]
    cases q <;> rfl

/-- A packet that a path brings to a stream in ACQUIRING (R9, R17 to R20, R66). -/
theorem State.Delivers.first {s : State} {port : PortId} {n : Fin 48} {d : List Byte} {p : Packet} {i : Fin 32} {path : PathId}
    (h : s.Delivers port n d p i path) (ha : (s.stream i).state = .acquiring) :
    exec (.packetArrival port n d) s = .next ((s.receivedBy port n).firstPacket i path p) := by
  rw [arrival_bound h.up h.read h.bound, ingestStream_acquiring]
  · rwa [receivedBy_stream]
  · rw [receivedBy_stream]; exact h.paired
  · rw [receivedBy_stream, formatMatches_iff]
    exact ⟨h.channels, h.format, h.packing, h.test⟩

theorem primedAt_primed {x : Stream} (hd : x.depth ∈ [16, 32, 64, 128, 256]) (hr : x.ring = List.replicate x.depth .empty)
    (he : x.endSeq = none) (p : Packet) {e : Word} (near : (e - p.seq.zeroExtend 32).toNat < 2147483648) (c : StreamClock) :
    (x.primedAt p e c).Primed (p.seq.zeroExtend 32) e where
  first := by
    have wire : (p.seq.zeroExtend 32).toNat = p.seq.toNat % 4294967296 := BitVec.toNat_setWidth 32 p.seq
    have := p.seq.isLt
    omega
  near := near
  ePlay := rfl
  state := rfl
  endSeq := he
  depth := hd
  ring := hr
  watchA := rfl
  watchB := rfl
  earlyRun := rfl

/-- What the blocks leave of a primed record besides its ring, end and counters. -/
theorem begun_record {a : Ingest} {x : Stream} {p : Packet} {e seq0 hbc : Word} {c : StreamClock} {path : PathId} {late m : Nat}
    (h : a.Begun (x.primedAt p e c) p seq0 hbc path late m) : a.x.origin = some (p.seq.zeroExtend 32, p.sourceTime) ∧
    a.x.ePlay = some e ∧ a.x.breaks = 0 ∧ a.x.clock = c := by
  have origin := congrArg Stream.origin h.kept
  have ePlay := congrArg Stream.ePlay h.kept
  have breaks := congrArg Stream.breaks h.kept
  have clock := congrArg Stream.clock h.kept
  exact ⟨origin, ePlay, breaks, clock⟩

/-- A first packet that anchors its group is read before or at its own first block: the hold-back is a block or more (R48, R52, R66). -/
theorem firstEPlay_anchoring (hbc st : Word) (sample : Fin 48) {hold : Nat} (hh : 48 ≤ hold ∧ hold ≤ 12192) (seq0 : Word) :
    firstEPlay seq0 ((hbc + 1) * 48 - (hbc * 48 + BitVec.ofNat 32 sample.val - st + BitVec.ofNat 32 hold) - st).toInt = seq0 := by
  have pos : (hbc + 1) * 48 - (hbc * 48 + BitVec.ofNat 32 sample.val - st + BitVec.ofNat 32 hold) - st =
      48 - BitVec.ofNat 32 sample.val - BitVec.ofNat 32 hold := by ring
  have behind : (48 - BitVec.ofNat 32 sample.val - BitVec.ofNat 32 hold : Word).toInt ≤ 0 := by
    rw [BitVec.toInt_eq_toNat_bmod, BitVec.toNat_sub, BitVec.toNat_sub, BitVec.toNat_ofNat, BitVec.toNat_ofNat, Int.bmod_def]
    have := sample.isLt
    have : (48 : Word).toNat = 48 := rfl
    omega
  rw [pos, firstEPlay_eq]
  split
  · rfl
  · rw [show (48 - BitVec.ofNat 32 sample.val - BitVec.ofNat 32 hold : Word).toInt.toNat = 0 by omega]
    simp

/-- What a first packet leaves of its stream's slots, state and watches, of its DIRECT lines and of its port, the blocks below `late`
being late (R66 to R70, R155). -/
def State.TookFirst (s t : State) (port : PortId) (p : Packet) (i : Fin 32) (late : Nat) : Prop :=
  (∀ j, late ≤ j → j < p.packing → (t.stream i).slotAt (p.seq.zeroExtend 32 + BitVec.ofNat 32 j) =
    .filled (p.offerAt (p.seq.zeroExtend 32) s.clock.hbc j).block) ∧
  (∀ k, k < (s.stream i).depth → (∀ j, late ≤ j → j < p.packing → k ≠ ((p.seq.zeroExtend 32).toNat + j) % (s.stream i).depth) →
    (t.stream i).ring.getD k .empty = .empty) ∧
  (t.stream i).ring.length = (s.stream i).depth ∧ (t.stream i).origin = some (p.seq.zeroExtend 32, p.sourceTime) ∧
  (t.stream i).state = (if p.endFlag ∧ late < p.packing then .draining else .primed) ∧
  (t.stream i).endSeq = (if p.endFlag ∧ late < p.packing then some (p.seq.zeroExtend 32 + BitVec.ofNat 32 (p.packing - 1)) else none) ∧
  (t.stream i).breaks = 0 ∧ (t.stream i).earlyRun = 0 ∧ (∀ q, (t.stream i).watch q = { mark := false, silent := 0 }) ∧
  (∀ k, t.line k = if (s.line k).mode = .direct ∧ (s.line k).stream = i ∧ p.cuePresent = true ∧ late < p.packing then
    { s.line k with current := p.cue.getLsbD (s.line k).bit.val ^^ (s.line k).invert } else s.line k) ∧
  (t.port port).received = (s.port port).received + 1

/-- The blocks of a first packet, from the record that it has primed (R66 to R70). -/
theorem firstPacket_took {s : State} {port : PortId} {n : Fin 48} {p : Packet} {i : Fin 32} {path : PathId} {e : Word} {c : StreamClock}
    {late : Nat} (depth : (s.stream i).depth ∈ [16, 32, 64, 128, 256])
    (ring : (s.stream i).ring = List.replicate (s.stream i).depth .empty) (noEnd : (s.stream i).endSeq = none) (packing : p.packing ≤ 4)
    (near : (e - p.seq.zeroExtend 32).toNat < 2147483648)
    (primed : ((s.receivedBy port n).primedBy i p).stream i = (s.stream i).primedAt p e c)
    (hlate : late = min p.packing (e - p.seq.zeroExtend 32).toNat) :
    s.TookFirst ((s.receivedBy port n).firstPacket i path p) port p i late ∧
    (((s.receivedBy port n).firstPacket i path p).stream i).ePlay = some e ∧
    (((s.receivedBy port n).firstPacket i path p).stream i).clock = c ∧
    (((s.receivedBy port n).firstPacket i path p).stream i).counters =
      ((s.stream i).primedAt p e c).counters.begun path late (p.packing - late) := by
  obtain ⟨record, signals, ports⟩ := firstPacket_leaves primed.symm path rfl
  have begun := ingest_begun (primedAt_primed depth ring noEnd p near c) packing i path (s.receivedBy port n).clock.hbc
  obtain ⟨origin, ePlay, breaks, clock⟩ := begun_record begun
  generalize ((s.stream i).primedAt p e c).ingest i path
    (p.offers (p.seq.zeroExtend 32) (s.receivedBy port n).clock.hbc) = a at begun origin ePlay breaks clock record signals
  have reached : (e - p.seq.zeroExtend 32).toNat < p.packing ↔ late < p.packing := by omega
  have small : (p.seq.zeroExtend 32).toNat < 65536 := (primedAt_primed depth ring noEnd p near c).first
  have lastStored : p.endFlag = true ∧ (e - p.seq.zeroExtend 32).toNat < p.packing ∧ p.packing = p.packing ↔
      p.endFlag = true ∧ late < p.packing := and_congr_right fun _ => (and_iff_left rfl).trans reached
  refine ⟨?_, by rw [record]; exact ePlay, by rw [record]; exact clock, ?_⟩
  · unfold State.TookFirst
    rw [record, ports]
    refine ⟨fun j hj hp => ?_, fun k hk h => ?_, begun.sized, origin, ?_, ?_, breaks, begun.earlyRun, begun.watch, fun k => ?_,
      receivedBy_received s port n⟩
    · have atSeq : (p.seq.zeroExtend 32 + BitVec.ofNat 32 j).toNat = (p.seq.zeroExtend 32).toNat + j := seq_toNat small (by omega)
      have stored := begun.stored j (by omega) hp
      rw [Stream.slotAt, atSeq, begun_depth begun, stored, receivedBy_hbc]
    · exact begun.empty k hk fun j hj hp => h j (by omega) hp
    · exact begun.state.trans (if_congr lastStored rfl rfl)
    · exact begun.endSeq.trans (if_congr lastStored rfl rfl)
    · have line : ((s.receivedBy port n).firstPacket i path p).line k =
          ((s.receivedBy port n).signals.cued i p.cue (a.cues ≠ [])).lines.get k :=
        congrArg (fun r : SignalRouter => r.lines.get k) signals
      rw [line, receivedBy_signals, SignalRouter.cued, vmap_get]
      have heard : (a.cues ≠ [] ∧ (s.line k).mode = .direct ∧ (s.line k).stream = i) ↔
          (s.line k).mode = .direct ∧ (s.line k).stream = i ∧ p.cuePresent = true ∧ late < p.packing := by
        rw [begun.cues, reached]
        tauto
      exact if_congr heard rfl rfl
  · rw [record, begun.counters]
    congr 1 <;> omega

/-- Settles O26: the anchoring or the group's own timeline primes the stream, and the packet's blocks are taken from E_play on. -/
theorem firstPacketAnchorsTheGroup : Obligations.FirstPacketAnchorsTheGroup := by
  rintro s port n d p i path x g seq0 accepted delivers rfl rfl rfl acquiring member depth ring noEnd hacc
  obtain rfl : accepted = fun t late => s.TookFirst t port p i late := hacc
  have packing := (wellFormed_packing delivers.read).2
  have arrives := delivers.first acquiring
  have same := receivedBy_stream s port n i
  have group (h : Fin 16) : ((s.receivedBy port n).firstPacket i path p).group h = ((s.receivedBy port n).anchoredFor i p).group h := by
    simp only [State.group, firstPacket_groups]
  refine ⟨fun unanchored inRange => ?_, fun q o e off pos late anchored hq ho hpos he hlate hoff => ?_⟩
  · have anchoring : (s.receivedBy port n).anchoredFor i p =
        (s.receivedBy port n).anchor (s.stream i).group (s.receivedBy port n).hs p.sourceTime := by
      rw [anchoredFor_unanchored (by rw [same, receivedBy_group]; exact unanchored), same]
    have primed := primedBy_stream_self (s := s.receivedBy port n) (i := i) (p := p)
      (x := { s.stream i with clock := { current := none, transits := 0, last := none, stopped := false } })
      (g := (s.group (s.stream i).group).anchor (s.receivedBy port n).hs p.sourceTime)
      (by rw [anchoring, anchor_stream, receivedBy_group, same, if_pos member]) (by rw [anchoring, same, anchor_group_self, receivedBy_group])
      rfl rfl
    have own : firstEPlay (p.seq.zeroExtend 32) (((s.receivedBy port n).clock.hbc + 1) * 48 -
        ((s.receivedBy port n).hs - p.sourceTime + BitVec.ofNat 32 (s.group (s.stream i).group).hold) - p.sourceTime).toInt =
        p.seq.zeroExtend 32 :=
      firstEPlay_anchoring (s.receivedBy port n).clock.hbc p.sourceTime (s.receivedBy port n).clock.sample inRange.hold _
    rw [own, sub_self] at primed
    have atOrigin : (p.seq.zeroExtend 32 - p.seq.zeroExtend 32 : Word) = 0 := sub_self _
    obtain ⟨taken, ePlay, clock, counters⟩ := firstPacket_took (path := path) (late := 0)
      (c := { current := some 0, transits := 1, last := none, stopped := false }) depth ring noEnd packing
      (by rw [atOrigin]; decide) primed (by rw [atOrigin]; simp)
    refine ⟨_, arrives, taken, ?_, fun h hh => ?_, fun j hj => ?_, ePlay, clock, counters.trans ?_⟩
    · rw [group, anchoring, anchor_group_self, receivedBy_group, receivedBy_hs]
      rfl
    · rw [group, anchoring, anchor_group_ne _ hh, receivedBy_group]
    · rw [firstPacket_stream_ne _ path p hj, anchoring, anchor_stream, receivedBy_group, receivedBy_stream]
    · have noLate (w : Word) : w + BitVec.ofNat 32 0 = w := BitVec.add_zero w
      simp only [StreamCounters.begun, Stream.primedAt, atOrigin, noLate, add_zero, Nat.sub_zero]
  · have standing : (s.receivedBy port n).anchoredFor i p = s.receivedBy port n :=
      anchoredFor_anchored (by rw [same, receivedBy_group]; exact anchored) p
    have primed := primedBy_stream_self (s := s.receivedBy port n) (i := i) (p := p) (x := s.stream i)
      (by rw [standing, same]) (by rw [standing, same, receivedBy_group]) hq ho
    have position : e = firstEPlay (p.seq.zeroExtend 32) (((s.receivedBy port n).clock.hbc + 1) * 48 - q - p.sourceTime).toInt := by
      rw [firstEPlay_eq, receivedBy_hbc, he, hpos]
    have near : (e - p.seq.zeroExtend 32).toNat < 2147483648 := by rw [position]; exact firstEPlay_near _
    rw [← position, receivedBy_hs, ← hoff] at primed
    obtain ⟨taken, ePlay, clock, counters⟩ := firstPacket_took (path := path) depth ring noEnd packing near primed hlate
    refine ⟨_, arrives, taken, ?_, fun j hj => ?_, ePlay, clock.trans (take_eq _ _), counters⟩
    · rw [firstPacket_groups, standing, receivedBy_groups]
    · rw [firstPacket_stream_ne _ path p hj, standing, receivedBy_stream]

end Sys2Proof.Machine
end

section
/-! SUPPORT. The path watches at a boundary (R75, R76): no group stage moves a watch, and each watched path counts the boundary; and O38. -/

namespace Sys2Proof.Machine

/-! ## The path watches through the group stages -/

/-- The two path watches of a stream, with the flow that path B is watched by (R75). -/
def Stream.paths (x : Stream) : PathWatch × PathWatch × Option Flow := (x.watchA, x.watchB, x.flowB)

theorem watch_of_paths {x y : Stream} (h : y.paths = x.paths) (p : PathId) : y.watch p = x.watch p ∧ y.flowB = x.flowB := by
  simp only [Stream.paths, Prod.mk.injEq] at h
  obtain ⟨watchA, watchB, flowB⟩ := h
  cases p with
  | a => exact ⟨watchA, flowB⟩
  | b => exact ⟨watchB, flowB⟩

theorem serveMissing_paths (a : DrawAcc) (i : Fin 32) (hbc : Word) (limit : Nat) (q : Word) (n : Nat) :
    (a.serveMissing i hbc limit q n).x.paths = a.x.paths := by
  unfold DrawAcc.serveMissing
  dsimp only
  split
  · split <;> rfl
  · rfl

theorem serve_paths (a : DrawAcc) (i : Fin 32) (hbc : Word) (limit : Nat) (pos : Int) :
    (a.serve i hbc limit pos).x.paths = a.x.paths := by
  unfold DrawAcc.serve
  split
  · rfl
  split
  · rfl
  split
  · split
    · rfl
    · exact serveMissing_paths a i hbc limit _ _
  · split
    · rfl
    · exact serveMissing_paths a i hbc limit _ _
  · exact serveMissing_paths a i hbc limit _ _

theorem omitted_paths (a : DrawAcc) (pos : Int) : (a.omitted pos).x.paths = a.x.paths := by
  unfold DrawAcc.omitted
  split
  · rfl
  split
  · rfl
  split
  · split
    · split <;> rfl
    · split <;> rfl
    · rfl
  · rfl

theorem visit_paths (x : Stream) (ctx : DrawContext) (i : Fin 32) (pos : Int) : (x.visit ctx i pos).x.paths = x.paths := by
  have step (a : DrawAcc) (k : Nat) : (DrawAcc.step ctx i pos a k).x.paths = a.x.paths := by
    unfold DrawAcc.step
    split
    · exact omitted_paths a _
    · exact serve_paths a i ctx.hbc ctx.limit _
  exact foldl_rel (R := fun a b : DrawAcc => b.x.paths = a.x.paths) (fun _ => rfl) (fun e f => f.trans e) (fun a k _ => step a k) _

theorem release_paths (x : Stream) (qs : List Word) : (x.release qs).paths = x.paths := by
  have step (y : Stream) (q : Word) : ({ y.setSlot q .empty with ePlay := some (q + 1) } : Stream).paths = y.paths := rfl
  exact foldl_rel (R := fun x y : Stream => y.paths = x.paths) (fun _ => rfl) (fun e f => f.trans e) (fun y q _ => step y q) x

theorem afterDraw_paths (x : Stream) (i : Fin 32) (hbc : Word) (last : Int) (completed : List Word) (first : Option Word) :
    (x.afterDraw i hbc last completed first).1.paths = x.paths := by
  unfold Stream.afterDraw
  split
  · split <;> rfl
  · split <;> rfl
  · rfl

theorem headroomTest_paths (x : Stream) (i : Fin 32) (warning : Nat) (next : Int) : (x.headroomTest i warning next).1.paths = x.paths := by
  unfold Stream.headroomTest
  split
  · dsimp only
    split
    · rfl
    · split <;> rfl
  · rfl

/-- A draw moves no path watch. -/
theorem draw_paths (x : Stream) (ctx : DrawContext) (i : Fin 32) (pos : Int) : (x.draw ctx i pos).1.paths = x.paths := by
  have cleared (y : Stream) (last : Int) : (y.clearServedTo last).paths = y.paths := rfl
  calc (x.draw ctx i pos).1.paths
    _ = _ := headroomTest_paths _ i ctx.warning _
    _ = _ := cleared _ _
    _ = _ := afterDraw_paths _ i ctx.hbc _ _ _
    _ = _ := release_paths _ _
    _ = x.paths := visit_paths x ctx i pos

theorem passOver_paths (x : Stream) (hi : Word) : (x.passOver hi).paths = x.paths := by
  unfold Stream.passOver
  dsimp only
  split <;> rfl

/-- A recentre moves no path watch. -/
theorem recentre_paths (x : Stream) (i : Fin 32) (stop adj : Int) : (x.recentre i stop adj).1.paths = x.paths := by
  have forward : (x.recentreForward i stop adj).1.paths = x.paths := by
    unfold Stream.recentreForward
    dsimp only
    split
    · exact passOver_paths x _
    · split
      · rfl
      · exact passOver_paths x _
  unfold Stream.recentre
  split
  · rfl
  split
  · exact forward
  · rfl

/-- Two states agree on a stream's path watches. -/
def State.SamePaths (j : Fin 32) (s t : State) : Prop := (t.stream j).paths = (s.stream j).paths

theorem State.SamePaths.refl {j : Fin 32} (s : State) : s.SamePaths j s := Eq.refl _

theorem State.SamePaths.trans {j : Fin 32} {s t u : State} (h : s.SamePaths j t) (k : t.SamePaths j u) : s.SamePaths j u :=
  Eq.trans k h

theorem State.SamePaths.of_streams {j : Fin 32} {s t : State} (h : t.streams = s.streams) : s.SamePaths j t := by
  simp only [State.SamePaths, State.stream, h]

theorem State.SamePaths.setStream {j : Fin 32} {s : State} {i : Fin 32} {y : Stream} (h : y.paths = (s.stream i).paths) :
    s.SamePaths j (s.setStream i y) := by
  unfold State.SamePaths
  by_cases e : j = i
  · rw [e, setStream_stream_self, h]
  · rw [setStream_stream_ne _ _ e]

theorem stage4_paths (s : State) (g : Fin 16) (j : Fin 32) : s.SamePaths j (s.stage4 g) := by
  refine stage4_rel .refl .trans .of_streams s g (fun ctx q a i _ => ?_) (fun ctx q adj t i _ => ?_)
  · unfold drawMember
    dsimp only
    split
    · exact State.SamePaths.setStream (draw_paths _ ctx i _)
    · exact .refl _
  · unfold recentreMember
    dsimp only
    split
    · exact State.SamePaths.setStream (recentre_paths _ i _ adj)
    · exact .refl _

theorem advanceWindow_paths (s : State) (g : Fin 16) (j : Fin 32) : s.SamePaths j (s.advanceWindow g) := by
  unfold State.advanceWindow
  dsimp only
  split
  · exact .of_streams rfl
  split
  · exact .of_streams rfl
  · unfold State.SamePaths
    rw [windowEnd_stream]
    split <;> rfl

/-- The group stages of a boundary move no path watch. -/
theorem groupsBoundary_paths (s : State) (j : Fin 32) : s.SamePaths j s.groupsBoundary.1 := by
  rw [groupsBoundary_eq]
  refine foldl_rel .refl .trans (fun t g _ => ?_) s
  by_cases h : (t.group g).anchored = true
  · rw [groupBoundary_eq h]
    exact (stage4_paths t g j).trans (advanceWindow_paths _ g j)
  · rw [groupBoundary_group_unanchored t g (Bool.eq_false_iff.mpr h)]
    exact .refl _

/-! ## The watches at the boundary -/

/-- The count and the mark of a watched path at a boundary (R75). -/
theorem pathWatch_boundary_eq (w : PathWatch) : w.boundary = { silent := w.silent + 1, mark := w.mark || w.silent == 99 } := by
  have mark : (w.mark || w.silentDue) = (w.mark || w.silent == 99) := by
    rw [Bool.eq_iff_iff]
    simp only [Bool.or_eq_true, silentDue_iff, beq_iff_eq]
    cases w.mark <;> simp
  rw [PathWatch.boundary, mark]

/-- A watched path of a stream takes its boundary (R75). -/
theorem watchBoundary_watched {x y : Stream} {p : PathId} (hx : x.state.pathWatched = true) (hb : p = .b → y.flowB ≠ none) :
    (Stream.watchBoundary x y).watch p = (y.watch p).boundary := by
  rw [Stream.watchBoundary, if_pos hx]
  cases p with
  | a => rfl
  | b => exact if_pos (Option.isSome_iff_ne_none.mpr (hb rfl))

theorem watchBoundary_ePlay (x y : Stream) : (Stream.watchBoundary x y).ePlay = y.ePlay := by
  unfold Stream.watchBoundary
  split <;> rfl

/-- The notices of a stream hold that of each watched path that goes silent (R76, log 9). -/
theorem watchPosts_of_due {x y : Stream} {p : PathId} (hx : x.state.pathWatched = true) (hb : p = .b → y.flowB ≠ none)
    (due : (y.watch p).silentDue = true) (i : Fin 32) : ∃ e : Word, (e = x.ePlay.getD 0 ∨ e = y.ePlay.getD 0) ∧
      { kind := .pathSilent, subject := 2 * i.val + pathNumber p, detail := e.toInt } ∈ Stream.watchPosts x y i := by
  refine ⟨(if Config.pathWatchAfterDraw then y.ePlay else x.ePlay).getD 0, ?_, ?_⟩
  · split
    · exact .inr rfl
    · exact .inl rfl
  · have own (e : Word) : { kind := .pathSilent, subject := 2 * i.val + pathNumber p, detail := e.toInt } ∈ (y.watch p).posts i p e := by
      rw [PathWatch.posts, if_pos due]
      exact List.mem_singleton_self _
    simp only [Stream.watchPosts, hx, if_true]
    cases p with
    | a => exact List.mem_append_left _ (own _)
    | b =>
      rw [if_pos (Option.isSome_iff_ne_none.mpr (hb rfl))]
      exact List.mem_append_right _ (own _)

/-- The notices of each stream's path watches are posted at a boundary (R76). -/
theorem boundary_posts_watches (s : State) (inp : BoundaryInput) (i : Fin 32) {p : Post}
    (hp : p ∈ Stream.watchPosts (s.stream i) ((s.beforeDraws inp).groupsBoundary.1.stream i) i) :
    s.Posted (s.boundary inp) (s.boundary inp).clock.hbc p := by
  have listed : p ∈ s.watchPostsAt inp := by
    rw [State.watchPostsAt, vmap, vgen_toList]
    exact List.mem_flatten_of_mem (List.mem_map_of_mem (List.mem_finRange i)) hp
  obtain ⟨qs, parts⟩ := boundary_parts s inp
  rw [boundary_hbc]
  refine ⟨_, ?_, congrArg State.notices parts⟩
  simp only [List.mem_append]
  exact .inl (.inl (.inr listed))

/-- Settles O38: the group stages move no watch, each watched path then counts the boundary, and the hundredth posts its notice. -/
theorem pathWatchMarksASilentPath : Obligations.PathWatchMarksASilentPath := by
  rintro s inp i p x low rfl hb
  have kept : ((s.beforeDraws inp).groupsBoundary.1.stream i).paths = (s.stream i).paths := by
    rw [groupsBoundary_paths (s.beforeDraws inp) i, beforeDraws_eq]
    rfl
  have own := boundary_stream s inp i
  have posts {q : Post} := boundary_posts_watches s inp i (p := q)
  generalize (s.beforeDraws inp).groupsBoundary.1.stream i = y at kept own posts
  obtain ⟨watch, flowB⟩ := watch_of_paths kept p
  rw [← flowB] at hb
  refine ⟨s.boundary inp, exec_houseBlockBoundary low inp, fun h => ?_, fun primed playing draining => ?_⟩
  · have watched := (pathWatched_iff _).mpr h
    refine ⟨by rw [own, watchBoundary_watched watched hb, watch, pathWatch_boundary_eq], fun hs hm => ⟨?_, ?_⟩⟩
    · rw [(row_of_due rfl (pathSilentDue_iff s i p)).2.2 ⟨h, hs, hm, flowB ▸ hb⟩, exec_houseBlockBoundary low]
    · obtain ⟨e, he, mem⟩ := watchPosts_of_due watched hb ((silentDue_iff _).mpr ⟨watch ▸ hs, watch ▸ hm⟩) i
      exact ⟨e, by rwa [own, watchBoundary_ePlay], posts mem⟩
  · have unwatched : ¬(s.stream i).state.pathWatched = true := by
      rw [pathWatched_iff]
      rintro (h | h | h)
      · exact primed h
      · exact playing h
      · exact draining h
    rw [own, Stream.watchBoundary, if_neg unwatched, watch]

end Sys2Proof.Machine
end

section
/-! SUPPORT. The positions of a draw in runs (R77, R78): a run of positions of one FILLED, CONCEALED or missing slot, and the draw that
its runs make up. -/

namespace Sys2Proof.Machine

/-! ## Runs of positions -/

/-- A draw's positions from its `lo`-th on, `len` of them. -/
def DrawAcc.through (a : DrawAcc) (ctx : DrawContext) (i : Fin 32) (pos : Int) (lo len : Nat) : DrawAcc :=
  (List.range' lo len).foldl (DrawAcc.step ctx i pos) a

/-- The positions of a draw from its `lo`-th on are those of a sequence from index `n` on, for a run of `len`. -/
def Stream.RunsAt (x : Stream) (pos : Int) (lo : Nat) (q : Word) (n len : Nat) : Prop :=
  ∀ m, m < len → x.place (pos + ((lo + m : Nat) : Int)) = some (q, n + m)

theorem Stream.RunsAt.first {x : Stream} {pos : Int} {lo len : Nat} {q : Word} {n : Nat} (h : x.RunsAt pos lo q n len) (hl : 0 < len) :
    x.place (pos + (lo : Int)) = some (q, n) := h 0 hl

theorem Stream.RunsAt.shorter {x : Stream} {pos : Int} {lo len : Nat} {q : Word} {n : Nat} (h : x.RunsAt pos lo q n (len + 1)) :
    x.RunsAt pos lo q n len := fun m hm => h m (Nat.lt_succ_of_lt hm)

section Runs

variable {ctx : DrawContext} (hc : ctx.slip = .steady) (i : Fin 32) {pos : Int} {a : DrawAcc} {lo : Nat} {q : Word} {n : Nat}

theorem through_zero (a : DrawAcc) (ctx : DrawContext) (pos : Int) (lo : Nat) : a.through ctx i pos lo 0 = a := rfl

theorem through_add (a : DrawAcc) (ctx : DrawContext) (pos : Int) (lo m len : Nat) :
    a.through ctx i pos lo (m + len) = (a.through ctx i pos lo m).through ctx i pos (lo + m) len := by
  simp only [DrawAcc.through, ← List.foldl_append, List.range'_append_1]

include hc

theorem through_one (a : DrawAcc) (pos : Int) (lo : Nat) : a.through ctx i pos lo 1 = a.serve i ctx.hbc ctx.limit (pos + lo) :=
  step_steady hc i pos a lo

theorem through_succ (a : DrawAcc) (pos : Int) (lo len : Nat) : a.through ctx i pos lo (len + 1) =
    (a.through ctx i pos lo len).serve i ctx.hbc ctx.limit (pos + ((lo + len : Nat) : Int)) := by
  rw [through_add, through_one hc]

/-- A draw with no slip is one run of 48 positions (R77). -/
theorem visit_through (x : Stream) (pos : Int) : x.visit ctx i pos = (DrawAcc.silent x []).through ctx i pos 0 48 := by
  simp only [Stream.visit, hc, DrawAcc.through, ← List.range_eq_range']
  rfl

/-- After R114 has ended the stream every position is silence. -/
theorem through_halted (h : a.halted = true) (lo len : Nat) :
    a.through ctx i pos lo len = { a with out := a.out ++ List.replicate len a.x.silence } := by
  induction len with
  | zero => rw [through_zero, List.replicate_zero, List.append_nil]
  | succ len ih =>
    rw [through_succ hc, ih, DrawAcc.serve, if_pos h, List.replicate_succ', ← List.append_assoc]
    rfl

end Runs

/-! ## A run of a CONCEALED slot (R78, R109) -/

/-- The frames of a CONCEALED slot from index `n` on. -/
def Stream.concealedFrames (x : Stream) (q : Word) (n len : Nat) : List Frame := (List.range len).map fun m => x.concealedFrame q (n + m)

/-- The draw after a run of a CONCEALED slot, which completes the slot when it reaches index 47. -/
def DrawAcc.servedConcealed (a : DrawAcc) (q : Word) (n len : Nat) : DrawAcc :=
  { a with
    x := { a.x with conceal := if n + len = 48 then a.x.conceal.completeMissing q else a.x.conceal }
    out := a.out ++ a.x.concealedFrames q n len
    completed := if n + len = 48 then a.completed ++ [q] else a.completed }

theorem serve_concealed {a : DrawAcc} {q : Word} {n : Nat} {pos : Int} (h : a.halted = false) (hp : a.x.place pos = some (q, n))
    (hs : a.x.slotAt q = .concealed q) (i : Fin 32) (hbc : Word) (limit : Nat) :
    a.serve i hbc limit pos = a.serveConcealed q n := by
  simp only [DrawAcc.serve, h, hp, hs, if_true, Bool.false_eq_true, if_false]

theorem concealedFrames_succ (x : Stream) (q : Word) (n len : Nat) :
    x.concealedFrames q n (len + 1) = x.concealedFrames q n len ++ [x.concealedFrame q (n + len)] := by
  simp only [Stream.concealedFrames, List.range_succ, List.map_append, List.map_cons, List.map_nil]

theorem concealedFrames_getD (x : Stream) (q : Word) (n : Nat) {m len : Nat} (h : m < len) :
    (x.concealedFrames q n len).getD m [] = x.concealedFrame q (n + m) := by
  simp only [Stream.concealedFrames, List.getD_eq_getElem?_getD, List.getElem?_map, List.getElem?_range h]
  rfl

theorem concealedFrames_length (x : Stream) (q : Word) (n len : Nat) : (x.concealedFrames q n len).length = len := by
  simp only [Stream.concealedFrames, List.length_map, List.length_range]

theorem through_concealed {ctx : DrawContext} (hc : ctx.slip = .steady) (i : Fin 32) {pos : Int} {a : DrawAcc} {lo : Nat} {q : Word}
    {n len : Nat} (live : a.halted = false) (slot : a.x.slotAt q = .concealed q) (runs : a.x.RunsAt pos lo q n len)
    (short : n + len ≤ 48) (positive : 0 < len) : a.through ctx i pos lo len = a.servedConcealed q n len := by
  induction len with
  | zero => cases positive
  | succ len ih =>
    have before : a.through ctx i pos lo len = { a with out := a.out ++ a.x.concealedFrames q n len } := by
      cases len with
      | zero => simp only [through_zero, Stream.concealedFrames, List.range_zero, List.map_nil, List.append_nil]
      | succ len =>
        rw [ih runs.shorter (by omega) (by omega), DrawAcc.servedConcealed, if_neg (by omega), if_neg (by omega)]
    have served := serve_concealed (a := { a with out := a.out ++ a.x.concealedFrames q n len }) live (runs len (by omega)) slot i
      ctx.hbc ctx.limit
    have last : n + len = 47 ↔ n + (len + 1) = 48 := by omega
    rw [through_succ hc, before, served, DrawAcc.servedConcealed, concealedFrames_succ, ← List.append_assoc]
    simp only [DrawAcc.serveConcealed, last]

/-- A run that stops short of index 47 leaves the record. -/
theorem servedConcealed_within (a : DrawAcc) (q : Word) {n len : Nat} (h : n + len < 48) :
    a.servedConcealed q n len = { a with out := a.out ++ a.x.concealedFrames q n len } := by
  simp only [DrawAcc.servedConcealed, if_neg h.ne]

theorem servedConcealed_end (a : DrawAcc) (q : Word) {n len : Nat} (h : n + len = 48) : a.servedConcealed q n len =
    { a with
      x := { a.x with conceal := a.x.conceal.completeMissing q }
      out := a.out ++ a.x.concealedFrames q n len
      completed := a.completed ++ [q] } := by
  simp only [DrawAcc.servedConcealed, if_pos h]

/-! ## A run of a FILLED slot (R78, R110, R117) -/

/-- A stream whose draw is within a FILLED slot. -/
def Stream.servingReal (x : Stream) (b : Block) : Stream :=
  { x.setSlot b.seq (.filled { b with served := true }) with state := x.resumeState, conceal := x.conceal.serveReal b.seq }

/-- The sample frame of an index of a FILLED slot, faded in when the slot takes the fade-in (R110). -/
def Stream.realFrame (x : Stream) (b : Block) (n : Nat) : Frame :=
  if (x.conceal.serveReal b.seq).fadeIn = some b.seq then fadeFrame (b.samples.getD n x.silence) (n + 1) else b.samples.getD n x.silence

/-- The frames of a FILLED slot from index `n` on. -/
def Stream.realFrames (x : Stream) (b : Block) (n len : Nat) : List Frame := (List.range len).map fun m => x.realFrame b (n + m)

/-- The draw after a run of a FILLED slot, which completes the slot when it reaches index 47. -/
def DrawAcc.servedReal (a : DrawAcc) (i : Fin 32) (b : Block) (n len : Nat) : DrawAcc :=
  { a with
    x := { a.x.servingReal b with
      conceal := if n + len = 48 then (a.x.conceal.serveReal b.seq).completeReal b else a.x.conceal.serveReal b.seq }
    posts := a.posts ++ a.x.resumePosts i b.seq
    out := a.out ++ a.x.realFrames b n len
    completed := if n + len = 48 then a.completed ++ [b.seq] else a.completed
    firstArrival := some (a.firstArrival.getD b.arrival) }

theorem realFrames_succ (x : Stream) (b : Block) (n len : Nat) :
    x.realFrames b n (len + 1) = x.realFrames b n len ++ [x.realFrame b (n + len)] := by
  simp only [Stream.realFrames, List.range_succ, List.map_append, List.map_cons, List.map_nil]

theorem realFrames_getD (x : Stream) (b : Block) (n : Nat) {m len : Nat} (h : m < len) :
    (x.realFrames b n len).getD m [] = x.realFrame b (n + m) := by
  simp only [Stream.realFrames, List.getD_eq_getElem?_getD, List.getElem?_map, List.getElem?_range h]
  rfl

theorem realFrames_length (x : Stream) (b : Block) (n len : Nat) : (x.realFrames b n len).length = len := by
  simp only [Stream.realFrames, List.length_map, List.length_range]

/-- The first position of a run (R110, R117). -/
theorem serveFilled_begins (a : DrawAcc) (i : Fin 32) (b : Block) (n : Nat) : a.serveFilled i b n = a.servedReal i b n 1 := by
  have last : n = 47 ↔ n + 1 = 48 := by omega
  simp only [DrawAcc.serveFilled, DrawAcc.servedReal, last]
  cases a.firstArrival <;> rfl

/-- Only a stream in OUTAGE resumes (R117). -/
theorem resumes_not {x : Stream} (h : x.state ≠ .outage) : x.resumeState = x.state ∧ ∀ i q, x.resumePosts i q = [] := by
  refine ⟨?_, fun i q => ?_⟩
  · unfold Stream.resumeState
    split
    · next e => exact absurd e h
    · rfl
  · unfold Stream.resumePosts
    split
    · next e => exact absurd e h
    · rfl

/-- A later position of a run: the stream has resumed, and the fade-in is taken up (R110, R117). -/
theorem serveFilled_goes_on (a : DrawAcc) (i : Fin 32) (b : Block) {n len : Nat} (h : n + len < 48) :
    (a.servedReal i b n len).serveFilled i { b with served := true } (n + len) = a.servedReal i b n (len + 1) := by
  have within : ¬n + len = 48 := by omega
  have last : n + len = 47 ↔ n + (len + 1) = 48 := by omega
  obtain ⟨state, posts⟩ := resumes_not (x := { a.x.servingReal b with conceal := a.x.conceal.serveReal b.seq })
    (resumeState_ne_outage a.x)
  have again (st : StreamState) (c : Conceal) : Stream.setSlot { a.x.servingReal b with state := st, conceal := c } b.seq
      (.filled { b with served := true }) = { a.x.servingReal b with state := st, conceal := c } := by
    simp only [Stream.servingReal, Stream.setSlot, List.set_set]
  simp only [DrawAcc.serveFilled, DrawAcc.servedReal, if_neg within, last, realFrames_succ, ← List.append_assoc, again, state, posts,
    List.append_nil]
  rfl

/-- A run leaves where the positions of the draw stand. -/
theorem servedReal_place (a : DrawAcc) (i : Fin 32) (b : Block) (n len : Nat) (pos : Int) :
    (a.servedReal i b n len).x.place pos = a.x.place pos := by
  simp only [Stream.place, Stream.seqOf, DrawAcc.servedReal, Stream.servingReal, Stream.setSlot]
  rfl

theorem through_filled {ctx : DrawContext} (hc : ctx.slip = .steady) (i : Fin 32) {pos : Int} {a : DrawAcc} {lo : Nat} {b : Block}
    {n len : Nat} (live : a.halted = false) (deep : 0 < a.x.depth) (sized : a.x.ring.length = a.x.depth)
    (slot : a.x.slotAt b.seq = .filled b) (runs : a.x.RunsAt pos lo b.seq n len) (short : n + len ≤ 48) (positive : 0 < len) :
    a.through ctx i pos lo len = a.servedReal i b n len := by
  induction len with
  | zero => cases positive
  | succ len ih =>
    cases len with
    | zero => rw [through_one hc, serve_filled live (runs.first positive) slot rfl, serveFilled_begins]
    | succ len =>
      have held : (a.servedReal i b n (len + 1)).x.slotAt b.seq = .filled { b with served := true } :=
        slotAt_setSlot deep sized b.seq _
      have placed := (servedReal_place a i b n (len + 1) _).trans (runs (len + 1) (by omega))
      rw [through_succ hc, ih runs.shorter (by omega) (by omega), serve_filled (a := a.servedReal i b n (len + 1)) live placed held rfl,
        serveFilled_goes_on a i b (by omega)]

/-- A stream whose draw has completed a FILLED slot (R108). -/
def Stream.servedReal (x : Stream) (b : Block) : Stream :=
  { x.servingReal b with conceal := (x.conceal.serveReal b.seq).completeReal b }

/-- A run that stops short of index 47 does not complete its slot. -/
theorem servedReal_within (a : DrawAcc) (i : Fin 32) (b : Block) {n len : Nat} (h : n + len < 48) : a.servedReal i b n len =
    { a with
      x := a.x.servingReal b
      posts := a.posts ++ a.x.resumePosts i b.seq
      out := a.out ++ a.x.realFrames b n len
      firstArrival := some (a.firstArrival.getD b.arrival) } := by
  simp only [DrawAcc.servedReal, if_neg h.ne]
  rfl

theorem servedReal_end (a : DrawAcc) (i : Fin 32) (b : Block) {n len : Nat} (h : n + len = 48) : a.servedReal i b n len =
    { a with
      x := a.x.servedReal b
      posts := a.posts ++ a.x.resumePosts i b.seq
      out := a.out ++ a.x.realFrames b n len
      completed := a.completed ++ [b.seq]
      firstArrival := some (a.firstArrival.getD b.arrival) } := by
  simp only [DrawAcc.servedReal, if_pos h]
  rfl

/-! ## A run of a missing slot (R78, R109, R112 to R115) -/

/-- A missing slot brings a PLAYING stream to its outage limit (R112, R113). -/
@[reducible] def Stream.EntersOutage (x : Stream) (limit : Nat) : Prop := x.state = .playing ∧ limit ≤ (x.conceal.missingRun + 1).toNat

/-- The record when a slot has been declared missing, and the stream `enters` OUTAGE or not (R112, R113, R115). -/
def Stream.missing (x : Stream) (q hbc : Word) (enters : Bool) : Stream :=
  { x.declareMissing q with
    state := if enters then .outage else x.state
    resume := if enters then some (x.resumeRecord hbc) else x.resume
    counters := { x.counters with
      missing := x.counters.missing + 1
      outages := if enters then x.counters.outages + 1 else x.counters.outages } }

/-- The notice of an entry to OUTAGE (R113). -/
def Stream.missingPosts (x : Stream) (i : Fin 32) (enters : Bool) : List Post :=
  if enters then [{ kind := .streamOutage, subject := i.val, detail := ((x.conceal.missingRun + 1).toNat : Int) }] else []

/-- The draw when a slot has been declared missing, and the stream `enters` OUTAGE or not. -/
def DrawAcc.declares (a : DrawAcc) (i : Fin 32) (hbc : Word) (enters : Bool) (q : Word) : DrawAcc :=
  { a with x := a.x.missing q hbc enters, posts := a.posts ++ a.x.missingPosts i enters }

/-- The record of a DRAINING stream that a missing slot ends at the outage limit (R114). -/
def Stream.starved (x : Stream) (q : Word) : Stream := { x.declareMissing q with state := .ended, clock := x.clock.drop }

theorem serve_missing {a : DrawAcc} {q : Word} {n : Nat} {pos : Int} (h : a.halted = false) (hp : a.x.place pos = some (q, n))
    (hs : a.x.slotAt q = .empty) (i : Fin 32) (hbc : Word) (limit : Nat) :
    a.serve i hbc limit pos = a.serveMissing i hbc limit q n := by
  simp only [DrawAcc.serve, h, hp, hs, Bool.false_eq_true, if_false]

/-- A stream that a missing slot does not end serves it as a CONCEALED one (R109, R112, R113). -/
theorem serveMissing_goes_on {a : DrawAcc} {limit : Nat} (h : a.x.state = .draining → (a.x.conceal.missingRun + 1).toNat < limit)
    {enters : Bool} (he : enters = true ↔ a.x.EntersOutage limit) (i : Fin 32) (hbc q : Word) (n : Nat) :
    a.serveMissing i hbc limit q n = (a.declares i hbc enters q).serveConcealed q n := by
  have count : (a.x.declareMissing q).conceal.missingRun = a.x.conceal.missingRun + 1 := rfl
  have state : (a.x.declareMissing q).state = a.x.state := rfl
  have below (other : ¬a.x.EntersOutage limit) : DrawAcc.serveConcealed { a with x := a.x.declareMissing q } q n =
      (a.declares i hbc enters q).serveConcealed q n := by
    obtain rfl : enters = false := Bool.eq_false_iff.mpr (mt he.mp other)
    simp only [DrawAcc.declares, Stream.missingPosts, Bool.false_eq_true, if_false, List.append_nil]
    rfl
  unfold DrawAcc.serveMissing
  dsimp only
  rw [count, state]
  split
  · next reached =>
    split
    · next playing =>
      obtain rfl : enters = true := he.mpr ⟨playing, reached⟩
      rfl
    · next draining => exact absurd (h draining) (not_lt.mpr reached)
    · next notPlaying _ => exact below fun enters => notPlaying enters.1
  · next short => exact below fun enters => short enters.2

/-- A DRAINING stream that a missing slot brings to the outage limit ends there (R114). -/
theorem serveMissing_ends {a : DrawAcc} {limit : Nat} (hd : a.x.state = .draining) (h : limit ≤ (a.x.conceal.missingRun + 1).toNat)
    (i : Fin 32) (hbc q : Word) (n : Nat) : a.serveMissing i hbc limit q n =
      { a with
        x := a.x.starved q
        posts := a.posts ++ [{ kind := .streamEnded, subject := i.val, detail := (a.x.endSeq.getD 0).toInt }]
        out := a.out ++ [a.x.silence]
        completed := a.completed ++ [q]
        halted := true } := by
  have reached : limit ≤ (a.x.declareMissing q).conceal.missingRun.toNat := h
  have state : (a.x.declareMissing q).state = .draining := hd
  simp only [DrawAcc.serveMissing, if_pos reached, state]
  rfl

theorem missing_slot {x : Stream} (deep : 0 < x.depth) (sized : x.ring.length = x.depth) (q hbc : Word) (enters : Bool) :
    (x.missing q hbc enters).slotAt q = .concealed q := slotAt_setSlot deep sized q _

theorem missing_place (x : Stream) (q hbc : Word) (enters : Bool) (pos : Int) : (x.missing q hbc enters).place pos = x.place pos := by
  simp only [Stream.place, Stream.seqOf, Stream.missing, Stream.declareMissing, Stream.setSlot]
  rfl

theorem through_missing {ctx : DrawContext} (hc : ctx.slip = .steady) (i : Fin 32) {pos : Int} {a : DrawAcc} {lo : Nat} {q : Word}
    {n len : Nat} (live : a.halted = false) (deep : 0 < a.x.depth) (sized : a.x.ring.length = a.x.depth) (slot : a.x.slotAt q = .empty)
    (goes : a.x.state = .draining → (a.x.conceal.missingRun + 1).toNat < ctx.limit) {enters : Bool}
    (he : enters = true ↔ a.x.EntersOutage ctx.limit) (runs : a.x.RunsAt pos lo q n len)
    (short : n + len ≤ 48) (positive : 0 < len) :
    a.through ctx i pos lo len = (a.declares i ctx.hbc enters q).servedConcealed q n len := by
  obtain ⟨rest, rfl⟩ : ∃ rest, len = 1 + rest := ⟨len - 1, by omega⟩
  have concealed : (a.declares i ctx.hbc enters q).x.slotAt q = .concealed q := missing_slot deep sized q ctx.hbc enters
  have declared : (a.declares i ctx.hbc enters q).halted = false := live
  have declaredRuns : (a.declares i ctx.hbc enters q).x.RunsAt pos lo q n (1 + rest) :=
    fun m hm => (missing_place a.x q ctx.hbc enters _).trans (runs m hm)
  rw [← through_concealed hc i declared concealed declaredRuns short positive, through_add, through_add, through_one hc, through_one hc,
    serve_missing live (runs.first positive) slot, serveMissing_goes_on goes he,
    serve_concealed declared (declaredRuns.first positive) concealed]

/-- What the positions of a missing slot yield after its declaration: the copy of the real block just before it, or silence (R109). -/
theorem missing_frame (x : Stream) (q hbc : Word) (enters : Bool) (n : Nat) :
    (∀ l, x.conceal.lastReal = some l → l.seq + 1 = q →
      (x.missing q hbc enters).concealedFrame q n = fadeFrame (l.samples.getD n x.silence) (47 - n)) ∧
    (x.conceal.fadeOut = none → (∀ l, x.conceal.lastReal = some l → l.seq + 1 ≠ q) →
      (x.missing q hbc enters).concealedFrame q n = x.silence) := by
  have conceal : (x.missing q hbc enters).conceal = x.conceal.declare q := rfl
  have silence : (x.missing q hbc enters).silence = x.silence := rfl
  refine ⟨fun l hl hq => ?_, fun hn hl => ?_⟩
  · simp only [Stream.concealedFrame, conceal, silence, Conceal.declare, hl, Option.any_some, hq, beq_self_eq_true, if_true]
  · have other : x.conceal.lastReal.any (fun l => l.seq + 1 == q) = false := by
      cases e : x.conceal.lastReal with
      | none => rfl
      | some l => simpa using hl l e
    simp only [Stream.concealedFrame, conceal, silence, Conceal.declare, other, Bool.false_eq_true, if_false, hn, reduceCtorEq]

/-! ## Where the runs of a draw stand -/

/-- A position of the k-th block from the origin has its sequence (R77). -/
theorem seqOf_block {x : Stream} {seq0 st0 : Word} (ho : x.origin = some (seq0, st0)) {k p : Nat} (hp : p / 48 = k) :
    x.seqOf (p : Int) = seq0 + BitVec.ofNat 32 k := by
  rw [seqOf_nonneg ho (Int.natCast_nonneg p), Int.toNat_natCast, hp]

/-- A position from E_play on is served from the slot of its sequence (R77, R78). -/
theorem place_from_ePlay {x : Stream} {e q : Word} {p : Nat} (hq : x.seqOf (p : Int) = q) (he : x.ePlay = some e) (ahead : 0 ≤ sdiff q e)
    (ht : x.servedTo = none) (hend : ∀ z, x.endSeq = some z → sdiff q z ≤ 0) : x.place (p : Int) = some (q, p % 48) := by
  have within : x.endSeq.any (fun z => decide (0 < sdiff q z)) = false := by
    cases e : x.endSeq with
    | none => rfl
    | some z => simpa using hend z e
  have index : indexOf (p : Int) = p % 48 := by
    unfold indexOf
    omega
  have fromOrigin : ¬(p : Int) < 0 := by omega
  simp only [Stream.place, hq, within, he, ht, index, Option.getD_some, Option.any_none, if_neg fromOrigin, Bool.false_eq_true,
    if_false, if_neg (not_lt.mpr ahead)]

/-- The positions of a draw that stand in one block from E_play on are a run of its sequence (R77, R78). -/
theorem runsAt_block {x : Stream} {seq0 st0 e q : Word} (ho : x.origin = some (seq0, st0)) {k : Nat} (hq : q = seq0 + BitVec.ofNat 32 k)
    (he : x.ePlay = some e) (ahead : 0 ≤ sdiff q e) (ht : x.servedTo = none) (hend : ∀ z, x.endSeq = some z → sdiff q z ≤ 0)
    {pos lo n len : Nat} (start : pos + lo = 48 * k + n) (short : n + len ≤ 48) : x.RunsAt (pos : Int) lo q n len := by
  intro m hm
  have block : (pos + (lo + m)) / 48 = k := by omega
  have index : (pos + (lo + m)) % 48 = n + m := by omega
  rw [← Int.natCast_add, place_from_ePlay (by rw [seqOf_block ho block, hq]) he ahead ht hend, index]

/-! ## The draw of some runs -/

/-- A draw with no slip, fade-out, early warning and served-to position: what its positions leave is released, and the state moves
(R79, R80, R81). -/
theorem draw_plain {x : Stream} {ctx : DrawContext} (hc : ctx.slip = .steady) (hfade : ctx.fade = false) (hw : ctx.warning = 0)
    {i : Fin 32} {pos : Int} {a : DrawAcc} (visited : x.visit ctx i pos = a) {y : Stream} (released : a.x.release a.completed = y)
    (armed : y.headroomArmed = true) (ht : y.servedTo = none) {moved : Stream × List Post}
    (after : y.afterDraw i ctx.hbc (pos + 47) a.completed a.firstArrival = moved) :
    x.draw ctx i pos = (moved.1, { frames := a.out, first := x.firstSlot pos }, a.posts ++ moved.2) := by
  obtain ⟨stillArmed, stillServed⟩ := afterDraw_armed y i ctx.hbc (pos + 47) a.completed a.firstArrival
  have last : pos + ((Slip.steady.sources : Nat) : Int) - 1 = pos + 47 := by
    rw [show Slip.steady.sources = 48 from rfl]
    omega
  rw [after] at stillArmed stillServed
  simp only [Stream.draw, visited, released, hc, last, after, hfade, hw]
  rw [clearServedTo_absent (stillServed.trans ht), headroomTest_off (stillArmed.trans armed), List.append_nil]
  rfl

end Sys2Proof.Machine
end

section
/-! SUPPORT. A missing block (R78 to R81, R107 to R116): the draw of a whole one, and of one next to a real block in two parts; and O41. -/

namespace Sys2Proof.Machine

/-! ## A missing block drawn whole -/

/-- The sequence of a position that is served from its slot (R77). -/
theorem seqOf_of_place {x : Stream} {pos : Int} {q : Word} {n : Nat} (h : x.place pos = some (q, n)) : x.seqOf pos = q ∧ ¬pos < 0 := by
  unfold Stream.place at h
  dsimp only at h
  split at h
  · cases h
  next fromOrigin =>
    split at h
    · cases h
    split at h
    · cases h
    split at h
    · cases h
    · exact ⟨congrArg Prod.fst (Option.some.inj h), fromOrigin⟩

/-- What supplies output sample 0, of a read position that is served from its slot (R154). -/
theorem firstSlot_at {x : Stream} {pos : Int} {q : Word} {n : Nat} (h : x.place pos = some (q, n)) :
    (∀ b, x.slotAt q = .filled b → b.seq = q → x.firstSlot pos = .real b.cue) ∧
    ((x.slotAt q = .empty ∨ x.slotAt q = .concealed q) → x.firstSlot pos = .noReal) := by
  obtain ⟨own, fromOrigin⟩ := seqOf_of_place h
  refine ⟨fun b hs hb => ?_, fun hs => ?_⟩
  · simp only [Stream.firstSlot, if_neg fromOrigin, own, hs, if_pos hb]
  · rcases hs with hs | hs
    · simp only [Stream.firstSlot, if_neg fromOrigin, own, hs]
    · simp only [Stream.firstSlot, if_neg fromOrigin, own, hs]

/-- The 48 positions from 48k on are those of an EMPTY slot, with no fade-out copy under way (R78, R109). -/
structure Stream.MissesAt (x : Stream) (k : Nat) (q : Word) : Prop where
  runs : x.RunsAt ((48 * k : Nat) : Int) 0 q 0 48
  deep : 0 < x.depth
  sized : x.ring.length = x.depth
  empty : x.slotAt q = .empty
  noCopy : x.conceal.fadeOut = none

theorem Stream.MissesAt.noReal {x : Stream} {k : Nat} {q : Word} (h : x.MissesAt k q) :
    x.firstSlot ((48 * k : Nat) : Int) = .noReal := by
  have first := h.runs.first (by decide)
  rw [Int.natCast_zero, Int.add_zero] at first
  exact (firstSlot_at first).2 (.inl h.empty)

/-- A declaration and the completion of its slot leave no fade-out copy (R108, R109). -/
theorem declare_completeMissing {c : Conceal} (h : c.fadeOut = none) (q : Word) :
    (c.declare q).completeMissing q = { c with fadeInDue := true, missingRun := c.missingRun + 1 } := by
  have ends : (if (if c.lastReal.any (fun l => l.seq + 1 == q) then some q else none) = some q then none
      else if c.lastReal.any (fun l => l.seq + 1 == q) then some q else none) = (none : Option Word) := by
    split
    · exact if_pos rfl
    · exact if_neg nofun
  simp only [Conceal.completeMissing, Conceal.declare, h, ends]

/-- The record when a missing block has been drawn whole and its slot released (R79, R109). -/
def Stream.pastMissing (x : Stream) (q hbc : Word) (enters : Bool) : Stream :=
  { (x.missing q hbc enters).setSlot q .empty with
    ePlay := some (q + 1)
    conceal := { x.conceal with fadeInDue := true, missingRun := x.conceal.missingRun + 1 } }

theorem pastMissing_slot {x : Stream} (deep : 0 < x.depth) (sized : x.ring.length = x.depth) (q hbc : Word) (enters : Bool) :
    (x.pastMissing q hbc enters).slotAt q = .empty :=
  slotAt_setSlot (x := x.missing q hbc enters) deep (List.length_set.trans sized) q .empty

theorem pastMissing_leaves (x : Stream) (q hbc : Word) (enters : Bool) : (x.pastMissing q hbc enters).headroomArmed = x.headroomArmed ∧
    (x.pastMissing q hbc enters).servedTo = x.servedTo ∧ (x.pastMissing q hbc enters).endSeq = x.endSeq ∧
    (x.pastMissing q hbc enters).clock = x.clock := by
  simp only [Stream.pastMissing, Stream.missing, Stream.setSlot, Stream.declareMissing, and_self]

/-- What an entry to OUTAGE, or none, leaves (R113, R115). -/
theorem pastMissing_state (x : Stream) (q hbc : Word) (enters : Bool) :
    (x.pastMissing q hbc enters).state = (if enters then .outage else x.state) ∧
    (x.pastMissing q hbc enters).resume = (if enters then some (x.resumeRecord hbc) else x.resume) := by
  simp only [Stream.pastMissing, Stream.missing, Stream.setSlot, and_self]

theorem starved_leaves (x : Stream) (q : Word) : (x.starved q).headroomArmed = x.headroomArmed ∧ (x.starved q).servedTo = x.servedTo := by
  simp only [Stream.starved, Stream.setSlot, Stream.declareMissing, and_self]

/-- What the draw has counted and concealed (R109, R112, R113). -/
theorem pastMissing_counts (x : Stream) (q hbc : Word) (enters : Bool) : (x.pastMissing q hbc enters).ePlay = some (q + 1) ∧
    (x.pastMissing q hbc enters).counters =
      { x.counters with
        missing := x.counters.missing + 1
        outages := if enters then x.counters.outages + 1 else x.counters.outages } ∧
    (x.pastMissing q hbc enters).conceal = { x.conceal with fadeInDue := true, missingRun := x.conceal.missingRun + 1 } := by
  simp only [Stream.pastMissing, Stream.missing, Stream.setSlot, and_self]

section Whole

variable {x : Stream} {k : Nat} {q : Word} (h : x.MissesAt k q) {ctx : DrawContext} (hc : ctx.slip = .steady)
  (hfade : ctx.fade = false) (hw : ctx.warning = 0) (armed : x.headroomArmed = true) (ht : x.servedTo = none) (i : Fin 32)

include h hc hfade hw armed ht

/-- The draw of a missing block by a stream that it does not end (R78, R79, R109, R112, R113). -/
theorem draw_missing (goes : x.state = .draining → (x.conceal.missingRun + 1).toNat < ctx.limit) {enters : Bool}
    (he : enters = true ↔ x.EntersOutage ctx.limit) {moved : Stream × List Post}
    (after : (x.pastMissing q ctx.hbc enters).afterDraw i ctx.hbc (((48 * k : Nat) : Int) + 47) [q] none = moved) :
    x.draw ctx i ((48 * k : Nat) : Int) =
      (moved.1, { frames := (x.missing q ctx.hbc enters).concealedFrames q 0 48, first := .noReal },
        x.missingPosts i enters ++ moved.2) := by
  have visited : x.visit ctx i ((48 * k : Nat) : Int) =
      ((DrawAcc.silent x []).declares i ctx.hbc enters q).servedConcealed q 0 48 := by
    rw [visit_through hc]
    exact through_missing hc i rfl h.deep h.sized h.empty goes he h.runs (by decide) (by decide)
  have released : (((DrawAcc.silent x []).declares i ctx.hbc enters q).servedConcealed q 0 48).x.release
      (((DrawAcc.silent x []).declares i ctx.hbc enters q).servedConcealed q 0 48).completed = x.pastMissing q ctx.hbc enters := by
    rw [Stream.pastMissing, ← declare_completeMissing h.noCopy q]
    rfl
  obtain ⟨sameArmed, sameServed, -, -⟩ := pastMissing_leaves x q ctx.hbc enters
  rw [draw_plain hc hfade hw visited released (sameArmed.trans armed) (sameServed.trans ht) after, h.noReal]
  rfl

/-- What that draw counts, conceals, releases and yields, whatever state it leaves (R78, R79, R109, R112). -/
theorem draw_missing_leaves (goes : x.state = .draining → (x.conceal.missingRun + 1).toNat < ctx.limit) {enters : Bool}
    (he : enters = true ↔ x.EntersOutage ctx.limit) {d : Stream × Drawn × List Post} (hd : x.draw ctx i ((48 * k : Nat) : Int) = d) :
    d.1.ePlay = some (q + 1) ∧ d.1.slotAt q = .empty ∧
    d.1.counters = { x.counters with
      missing := x.counters.missing + 1
      outages := if enters then x.counters.outages + 1 else x.counters.outages } ∧
    d.1.conceal = { x.conceal with fadeInDue := true, missingRun := x.conceal.missingRun + 1 } ∧ d.2.1.first = .noReal ∧
    ∀ n, n < 48 → d.2.1.frames.getD n [] = (x.missing q ctx.hbc enters).concealedFrame q n := by
  obtain ⟨ePlay, counters, conceal⟩ := pastMissing_counts x q ctx.hbc enters
  have empty := pastMissing_slot h.deep h.sized q ctx.hbc enters
  have whole {moved} := draw_missing (moved := moved) h hc hfade hw armed ht i goes he
  generalize x.pastMissing q ctx.hbc enters = y at whole ePlay counters conceal empty
  have buffer := afterDraw_buffer y i ctx.hbc (((48 * k : Nat) : Int) + 47) [q] none
  simp only [Stream.buffer, Prod.mk.injEq] at buffer
  obtain ⟨-, -, sameEPlay, sameCounters, sameConceal⟩ := buffer
  obtain ⟨-, slots⟩ := afterDraw_leaves y i ctx.hbc (((48 * k : Nat) : Int) + 47) [q] none
  rw [← hd, whole rfl]
  refine ⟨sameEPlay.trans ePlay, (slots q).trans empty, sameCounters.trans counters, sameConceal.trans conceal, rfl, fun n hn => ?_⟩
  rw [concealedFrames_getD _ q 0 hn, Nat.zero_add]

/-- The draw of a missing block that ends a DRAINING stream at the outage limit: silence (R79, R114). -/
theorem draw_starved (draining : x.state = .draining) (reached : ctx.limit ≤ (x.conceal.missingRun + 1).toNat) :
    x.draw ctx i ((48 * k : Nat) : Int) =
      ({ (x.starved q).setSlot q .empty with ePlay := some (q + 1) }, { frames := List.replicate 48 x.silence, first := .noReal },
        [{ kind := .streamEnded, subject := i.val, detail := (x.endSeq.getD 0).toInt }]) := by
  have first := serveMissing_ends (a := DrawAcc.silent x []) draining reached i ctx.hbc q 0
  have visited : x.visit ctx i ((48 * k : Nat) : Int) =
      { x := x.starved q, posts := [{ kind := .streamEnded, subject := i.val, detail := (x.endSeq.getD 0).toInt }]
        out := List.replicate 48 x.silence, completed := [q], firstArrival := none, halted := true } := by
    rw [visit_through hc, show 48 = 1 + 47 from rfl, through_add, through_one hc,
      serve_missing (a := DrawAcc.silent x []) rfl (h.runs.first (by decide)) h.empty, first, through_halted hc i rfl]
    rfl
  have stays : Stream.afterDraw { (x.starved q).setSlot q .empty with ePlay := some (q + 1) } i ctx.hbc (((48 * k : Nat) : Int) + 47)
      [q] none = ({ (x.starved q).setSlot q .empty with ePlay := some (q + 1) }, []) := rfl
  obtain ⟨sameArmed, sameServed⟩ := starved_leaves x q
  rw [draw_plain hc hfade hw visited rfl (sameArmed.trans armed) (sameServed.trans ht) stays, h.noReal]
  rfl

end Whole

/-- A PRIMED stream that has served no real block plays with detail −1 (R80). -/
theorem afterDraw_primed {x : Stream} (h : x.state = .primed) {last : Int} (hl : 0 ≤ last) (i : Fin 32) (hbc : Word) (qs : List Word) :
    x.afterDraw i hbc last qs none =
      ({ x with state := .playing }, [{ kind := .streamPlaying, subject := i.val, detail := -1 }]) := by
  simp only [Stream.afterDraw, h, if_pos hl]

theorem afterDraw_outage {x : Stream} (h : x.state = .outage) (i : Fin 32) (hbc : Word) (last : Int) (qs : List Word)
    (first : Option Word) : x.afterDraw i hbc last qs first = (x, []) := by
  simp only [Stream.afterDraw, h]

/-! ## A draw across a real block and a missing one -/

theorem slotAt_setSlot_apart {x : Stream} {q r : Word} (apart : q.toNat % x.depth ≠ r.toNat % x.depth) (y : Slot) :
    (x.setSlot q y).slotAt r = x.slotAt r := by
  simp only [Stream.slotAt, Stream.setSlot, List.getD_eq_getElem?_getD, List.getElem?_set_ne apart]

/-- Two consecutive sequences have slots of their own (R26, R67). -/
theorem next_slot_apart {depth : Nat} (h : depth ∈ [16, 32, 64, 128, 256]) (q : Word) : q.toNat % depth ≠ (q + 1).toNat % depth := by
  simp only [List.mem_cons, List.not_mem_nil, or_false] at h
  rcases h with rfl | rfl | rfl | rfl | rfl <;> bv_omega

/-- The 48 positions of a draw are the last 48 − m indices of one sequence and the first m of the next, each with a slot of its own. -/
structure Stream.Crosses (x : Stream) (pos : Int) (q : Word) (m : Nat) : Prop where
  some_of_next : 1 ≤ m
  some_of_first : m ≤ 47
  first : x.RunsAt pos 0 q m (48 - m)
  next : x.RunsAt pos (48 - m) (q + 1) 0 m
  deep : 0 < x.depth
  sized : x.ring.length = x.depth
  apart : q.toNat % x.depth ≠ (q + 1).toNat % x.depth

theorem Stream.Crosses.at_first {x : Stream} {pos : Int} {q : Word} {m : Nat} (h : x.Crosses pos q m) : x.place pos = some (q, m) := by
  have first := h.first.first (by have := h.some_of_first; omega)
  rwa [Int.natCast_zero, Int.add_zero] at first

/-- A draw from within the block at E_play, of a stream with no end sequence and no served-to position. -/
theorem crosses_from_ePlay {x : Stream} {seq0 st0 q : Word} (ho : x.origin = some (seq0, st0)) {k : Nat}
    (hq : q = seq0 + BitVec.ofNat 32 k) (he : x.ePlay = some q) (ht : x.servedTo = none) (hend : x.endSeq = none)
    (hd : x.depth ∈ [16, 32, 64, 128, 256]) (hl : x.ring.length = x.depth) {m : Nat} (hm : 1 ≤ m) (hm' : m ≤ 47) :
    x.Crosses ((48 * k + m : Nat) : Int) q m where
  some_of_next := hm
  some_of_first := hm'
  first := runsAt_block ho hq he (by simp [sdiff]) ht (by rw [hend]; nofun) rfl (by omega)
  next := by
    have nextSeq : q + 1 = seq0 + BitVec.ofNat 32 (k + 1) := by
      rw [hq, BitVec.ofNat_add, add_assoc]
      rfl
    exact runsAt_block ho nextSeq he (by simp [sdiff]) ht (by rw [hend]; nofun) (by omega) (by omega)
  deep := by
    simp only [List.mem_cons, List.not_mem_nil, or_false] at hd
    omega
  sized := hl
  apart := next_slot_apart hd q

/-- The record when a real block has been completed and the missing one after it begun (R79, R108, R109). -/
def Stream.pastReal (x : Stream) (b : Block) (hbc : Word) : Stream :=
  { ((x.servedReal b).missing (b.seq + 1) hbc false).setSlot b.seq .empty with ePlay := some (b.seq + 1) }

theorem pastReal_leaves (x : Stream) (b : Block) (hbc : Word) : (x.pastReal b hbc).headroomArmed = x.headroomArmed ∧
    (x.pastReal b hbc).servedTo = x.servedTo ∧ (x.pastReal b hbc).state = x.resumeState ∧
    (x.pastReal b hbc).ePlay = some (b.seq + 1) ∧
    (x.pastReal b hbc).counters = { x.counters with missing := x.counters.missing + 1 } ∧
    (x.pastReal b hbc).conceal = ((x.conceal.serveReal b.seq).completeReal b).declare (b.seq + 1) := by
  simp only [Stream.pastReal, Stream.missing, Stream.declareMissing, Stream.servedReal, Stream.servingReal, Stream.setSlot,
    Bool.false_eq_true, if_false, and_self]

/-- The record when a missing block has been completed and the real one after it begun (R79, R108, R110). -/
def Stream.backToReal (x : Stream) (q : Word) (b : Block) : Stream :=
  { (Stream.servingReal { x with conceal := x.conceal.completeMissing q } b).setSlot q .empty with ePlay := some (q + 1) }

theorem backToReal_leaves (x : Stream) (q : Word) (b : Block) : (x.backToReal q b).headroomArmed = x.headroomArmed ∧
    (x.backToReal q b).servedTo = x.servedTo ∧
    (x.backToReal q b).state = Stream.resumeState { x with conceal := x.conceal.completeMissing q } ∧
    (x.backToReal q b).ePlay = some (q + 1) ∧ (x.backToReal q b).counters = x.counters ∧
    (x.backToReal q b).conceal = (x.conceal.completeMissing q).serveReal b.seq := by
  simp only [Stream.backToReal, Stream.servingReal, Stream.setSlot, and_self]

/-- The concealment state when a real block taken up before has been completed and the next one declared missing (R108, R109, R112). -/
theorem declare_after_real {c : Conceal} (due : c.fadeInDue = false) (fadeIn : c.fadeIn = none) (b : Block) :
    ((c.serveReal b.seq).completeReal b).declare (b.seq + 1) =
      { lastReal := some { seq := b.seq, sourceTime := b.sourceTime, samples := b.samples }, fadeOut := some (b.seq + 1)
        fadeInDue := true, fadeIn := none, missingRun := 1 } := by
  simp only [Conceal.declare, Conceal.completeReal, Conceal.serveReal, due, fadeIn, Option.any_some, beq_self_eq_true,
    Bool.false_eq_true, if_false, if_true, reduceCtorEq]
  rfl

/-- A real block taken up before is served as it is, and one whose fade-in is due is served faded in (R110). -/
theorem realFrame_eq (x : Stream) (b : Block) (n : Nat) :
    (x.conceal.fadeInDue = false → x.conceal.fadeIn = none → x.realFrame b n = b.samples.getD n x.silence) ∧
    (x.conceal.fadeInDue = true → x.realFrame b n = fadeFrame (b.samples.getD n x.silence) (n + 1)) := by
  refine ⟨fun due fadeIn => ?_, fun due => ?_⟩
  · simp only [Stream.realFrame, Conceal.serveReal, due, fadeIn, Bool.false_eq_true, if_false, reduceCtorEq]
  · simp only [Stream.realFrame, Conceal.serveReal, due, if_true]

/-- A draw that has completed one slot and posted nothing. -/
def DrawAcc.crossing (x : Stream) (out : List Frame) (q : Word) (first : Option Word) : DrawAcc :=
  { x := x, posts := [], out := out, completed := [q], firstArrival := first, halted := false }

section Crossing

variable {x : Stream} {pos : Int} {m : Nat} {b : Block} {ctx : DrawContext} (hc : ctx.slip = .steady) (hfade : ctx.fade = false)
  (hw : ctx.warning = 0) (armed : x.headroomArmed = true) (ht : x.servedTo = none) (playing : x.state = .playing) (i : Fin 32)

include hc

theorem visit_crossing {q : Word} (h : x.Crosses pos q m) : x.visit ctx i pos =
    ((DrawAcc.silent x []).through ctx i pos 0 (48 - m)).through ctx i pos (48 - m) m := by
  have split : 48 = 48 - m + m := by have := h.some_of_first; omega
  rw [visit_through hc]
  conv_lhs => rw [split]
  rw [through_add, Nat.zero_add]

include hfade hw armed ht playing

/-- A draw across a real block and a missing one, which does not bring the stream to its outage limit. -/
theorem draw_real_then_missing (h : x.Crosses pos b.seq m) (real : x.slotAt b.seq = .filled b) (empty : x.slotAt (b.seq + 1) = .empty)
    (limit : 1 < ctx.limit) : x.draw ctx i pos =
      (x.pastReal b ctx.hbc,
        { frames := x.realFrames b m (48 - m) ++ ((x.servedReal b).missing (b.seq + 1) ctx.hbc false).concealedFrames (b.seq + 1) 0 m
          first := .real b.cue }, []) := by
  have short := h.some_of_first
  obtain ⟨resumed, noPosts⟩ := resumes_not (x := x) (by rw [playing]; nofun)
  have first : (DrawAcc.silent x []).through ctx i pos 0 (48 - m) =
      .crossing (x.servedReal b) (x.realFrames b m (48 - m)) b.seq (some b.arrival) := by
    rw [through_filled (a := .silent x []) hc i rfl h.deep h.sized real h.first (by omega) (by omega), servedReal_end _ i b (by omega)]
    simp only [DrawAcc.silent, DrawAcc.crossing, noPosts, List.append_nil, List.nil_append, Option.getD_none]
  have stillEmpty : (x.servedReal b).slotAt (b.seq + 1) = .empty := (slotAt_setSlot_apart h.apart _).trans empty
  have below : false = true ↔ (x.servedReal b).EntersOutage ctx.limit :=
    ⟨nofun, fun enters => absurd (show ctx.limit ≤ 1 from enters.2) (by omega)⟩
  have notDraining : (x.servedReal b).state ≠ .draining := by
    rw [show (x.servedReal b).state = x.resumeState from rfl, resumed, playing]
    nofun
  have visited : x.visit ctx i pos =
      .crossing ((x.servedReal b).missing (b.seq + 1) ctx.hbc false)
        (x.realFrames b m (48 - m) ++ ((x.servedReal b).missing (b.seq + 1) ctx.hbc false).concealedFrames (b.seq + 1) 0 m) b.seq
        (some b.arrival) := by
    have next := through_missing (a := .crossing (x.servedReal b) (x.realFrames b m (48 - m)) b.seq (some b.arrival)) hc i rfl h.deep
      (List.length_set.trans h.sized) stillEmpty (fun draining => absurd draining notDraining) below h.next (by omega) h.some_of_next
    rw [visit_crossing hc i h, first, next, servedConcealed_within _ _ (by omega)]
    rfl
  obtain ⟨sameArmed, sameServed, state, -, -, -⟩ := pastReal_leaves x b ctx.hbc
  have goesOn := afterDraw_goes_on (q := b.seq) (.inl (state.trans (resumed.trans playing))) i ctx.hbc (pos + 47) (some b.arrival)
  rw [draw_plain hc hfade hw visited rfl (sameArmed.trans armed) (sameServed.trans ht) goesOn, (firstSlot_at h.at_first).1 b real rfl]
  rfl

/-- A draw across a missing block already declared and a real one. -/
theorem draw_concealed_then_real {q : Word} (h : x.Crosses pos q m) (concealed : x.slotAt q = .concealed q)
    (real : x.slotAt (q + 1) = .filled b) (hb : b.seq = q + 1) : x.draw ctx i pos =
      (x.backToReal q b,
        { frames := x.concealedFrames q m (48 - m) ++ Stream.realFrames { x with conceal := x.conceal.completeMissing q } b 0 m
          first := .noReal }, []) := by
  have short := h.some_of_first
  obtain ⟨y, hy⟩ : ∃ y : Stream, y = { x with conceal := x.conceal.completeMissing q } := ⟨_, rfl⟩
  have state : y.state = .playing := by rw [hy]; exact playing
  obtain ⟨resumed, noPosts⟩ := resumes_not (x := y) (by rw [state]; nofun)
  have first : (DrawAcc.silent x []).through ctx i pos 0 (48 - m) =
      .crossing y (x.concealedFrames q m (48 - m)) q none := by
    rw [through_concealed (a := .silent x []) hc i rfl concealed h.first (by omega) (by omega), servedConcealed_end _ q (by omega), hy]
    rfl
  have next : y.RunsAt pos (48 - m) b.seq 0 m := by rw [hy, hb]; exact h.next
  have slot : y.slotAt b.seq = .filled b := by rw [hy, hb]; exact real
  have visited : x.visit ctx i pos =
      .crossing (y.servingReal b) (x.concealedFrames q m (48 - m) ++ y.realFrames b 0 m) q (some b.arrival) := by
    have second := through_filled (a := .crossing y (x.concealedFrames q m (48 - m)) q none) hc i rfl (by rw [hy]; exact h.deep)
      (by rw [hy]; exact h.sized) slot next (by omega) h.some_of_next
    rw [visit_crossing hc i h, first, second, servedReal_within _ i b (by omega)]
    simp only [DrawAcc.crossing, noPosts, List.append_nil, Option.getD_none]
  obtain ⟨sameArmed, sameServed, resumes, -, -, -⟩ := backToReal_leaves x q b
  rw [← hy] at resumes
  have goesOn := afterDraw_goes_on (q := q) (.inl (resumes.trans (resumed.trans state))) i ctx.hbc (pos + 47) (some b.arrival)
  have released : (y.servingReal b).release [q] = x.backToReal q b := by rw [hy]; rfl
  rw [draw_plain hc hfade hw visited released (sameArmed.trans armed) (sameServed.trans ht) goesOn,
    (firstSlot_at h.at_first).2 (.inr concealed), ← hy]
  rfl

end Crossing

/-! ## What such a draw yields and leaves -/

theorem pastReal_slots {x : Stream} {b : Block} (deep : 0 < x.depth) (sized : x.ring.length = x.depth)
    (apart : b.seq.toNat % x.depth ≠ (b.seq + 1).toNat % x.depth) (hbc : Word) :
    (x.pastReal b hbc).slotAt b.seq = .empty ∧ (x.pastReal b hbc).slotAt (b.seq + 1) = .concealed (b.seq + 1) := by
  have sizedReal : (x.servedReal b).ring.length = x.depth := List.length_set.trans sized
  have declared := missing_slot (x := x.servedReal b) deep sizedReal (b.seq + 1) hbc false
  obtain ⟨depth, length⟩ : ((x.servedReal b).missing (b.seq + 1) hbc false).depth = x.depth ∧
      ((x.servedReal b).missing (b.seq + 1) hbc false).ring.length = x.ring.length := by
    simp only [Stream.missing, Stream.declareMissing, Stream.servedReal, Stream.servingReal, Stream.setSlot, List.length_set, and_self]
  have slots (r : Word) : (x.pastReal b hbc).slotAt r =
      (((x.servedReal b).missing (b.seq + 1) hbc false).setSlot b.seq .empty).slotAt r := rfl
  generalize (x.servedReal b).missing (b.seq + 1) hbc false = y at declared depth length slots
  rw [slots, slots, slotAt_setSlot (by rw [depth]; exact deep) (by rw [length, depth]; exact sized),
    slotAt_setSlot_apart (by rw [depth]; exact apart)]
  exact ⟨rfl, declared⟩

theorem backToReal_slots {x : Stream} {q : Word} {b : Block} (deep : 0 < x.depth) (sized : x.ring.length = x.depth)
    (apart : q.toNat % x.depth ≠ (q + 1).toNat % x.depth) (hb : b.seq = q + 1) :
    (x.backToReal q b).slotAt q = .empty ∧ (x.backToReal q b).slotAt (q + 1) = .filled { b with served := true } := by
  have begun : (Stream.servingReal { x with conceal := x.conceal.completeMissing q } b).slotAt (q + 1) =
      .filled { b with served := true } := by
    rw [← hb]
    exact slotAt_setSlot deep sized b.seq _
  exact ⟨slotAt_setSlot (x := Stream.servingReal { x with conceal := x.conceal.completeMissing q } b) deep
    (List.length_set.trans sized) q .empty,
    (slotAt_setSlot_apart (x := Stream.servingReal { x with conceal := x.conceal.completeMissing q } b) apart .empty).trans begun⟩

/-- The frames of a real block and then of the copy of it (R78, R109). -/
theorem real_then_missing_frame {x : Stream} {b : Block} (due : x.conceal.fadeInDue = false) (fadeIn : x.conceal.fadeIn = none)
    {m n : Nat} (hm : m ≤ 47) (hn : n < 48) (hbc : Word) :
    (x.realFrames b m (48 - m) ++ ((x.servedReal b).missing (b.seq + 1) hbc false).concealedFrames (b.seq + 1) 0 m).getD n [] =
      if m + n < 48 then b.samples.getD (m + n) x.silence else fadeFrame (b.samples.getD (m + n - 48) x.silence) (95 - m - n) := by
  have length := realFrames_length x b m (48 - m)
  by_cases within : m + n < 48
  · rw [if_pos within, List.getD_append _ _ _ _ (by omega), realFrames_getD _ _ _ (by omega), (realFrame_eq x b _).1 due fadeIn]
  · have index : 0 + (n - (48 - m)) = m + n - 48 := by omega
    have fade : 47 - (m + n - 48) = 95 - m - n := by omega
    have copy := (missing_frame (x.servedReal b) (b.seq + 1) hbc false (m + n - 48)).1
      { seq := b.seq, sourceTime := b.sourceTime, samples := b.samples } rfl rfl
    rw [if_neg within, List.getD_append_right _ _ _ _ (by omega), length, concealedFrames_getD _ _ _ (by omega), index, copy, fade]
    rfl

/-- The frames of the rest of a concealed block and then of the real one, faded in (R78, R109, R110). -/
theorem concealed_then_real_frame {x : Stream} {b : Block} (due : x.conceal.fadeInDue = true) (q : Word) {m n : Nat} (hm : m ≤ 47)
    (hn : n < 48) :
    (x.concealedFrames q m (48 - m) ++ Stream.realFrames { x with conceal := x.conceal.completeMissing q } b 0 m).getD n [] =
      if m + n < 48 then x.concealedFrame q (m + n) else fadeFrame (b.samples.getD (m + n - 48) x.silence) (m + n - 47) := by
  have length := concealedFrames_length x q m (48 - m)
  by_cases within : m + n < 48
  · rw [if_pos within, List.getD_append _ _ _ _ (by omega), concealedFrames_getD _ _ _ (by omega)]
  · have index : 0 + (n - (48 - m)) = m + n - 48 := by omega
    have fade : m + n - 48 + 1 = m + n - 47 := by omega
    have real := (realFrame_eq { x with conceal := x.conceal.completeMissing q } b (m + n - 48)).2 due
    rw [if_neg within, List.getD_append_right _ _ _ _ (by omega), length, realFrames_getD _ _ _ (by omega), index, real, fade]
    rfl

/-- The concealment state when the rest of a missing block has been completed and the real one after it taken up (R108, R110). -/
theorem serveReal_after_missing {c : Conceal} (due : c.fadeInDue = true) (q r : Word) : (c.completeMissing q).serveReal r =
    { c with
      fadeOut := if c.fadeOut = some q then none else c.fadeOut
      fadeInDue := false, fadeIn := some r, missingRun := 0 } := by
  simp only [Conceal.serveReal, Conceal.completeMissing, due, if_true]

/-! ## Every clause of O41 -/

/-- Settles O41: a missing block drawn whole, state by state, and the two draws across a real block and a missing one. -/
theorem missingBlockIsConcealed : Obligations.MissingBlockIsConcealed := by
  refine ⟨?_, ?_⟩
  · rintro x ctx i k seq0 st0 q run d rfl hrun hlt hc hfade hw ha ho hq he ht hd hl hs hcopy hend
    obtain rfl : run = (x.conceal.missingRun + 1).toNat := by bv_omega
    have misses : x.MissesAt k q := ⟨runsAt_block ho hq he (by simp [sdiff]) ht hend rfl (by decide), hd, hl, hs, hcopy⟩
    obtain ⟨enters, limit⟩ : ∃ enters : Bool, enters = true ↔ x.EntersOutage ctx.limit :=
      ⟨decide (x.EntersOutage ctx.limit), decide_eq_true_iff⟩
    have whole goes {moved} := draw_missing (moved := moved) misses hc hfade hw ha ht i goes limit
    obtain ⟨-, -, sameEnd, sameClock⟩ := pastMissing_leaves x q ctx.hbc enters
    obtain ⟨state, resume⟩ := pastMissing_state x q ctx.hbc enters
    generalize x.pastMissing q ctx.hbc enters = y at whole sameEnd sameClock state resume
    have below (h : ¬x.EntersOutage ctx.limit) : y.state = x.state ∧ y.resume = x.resume ∧ x.missingPosts i enters = [] := by
      have off : enters = false := Bool.eq_false_iff.mpr (mt limit.mp h)
      simp only [state, resume, Stream.missingPosts, off, Bool.false_eq_true, if_false, and_self]
    have notPlaying {st : StreamState} (h : x.state = st) (other : st ≠ .playing) : ¬x.EntersOutage ctx.limit :=
      fun e => other (h.symm.trans e.1)
    refine ⟨fun h => ?_, fun h => ?_, fun h short => ?_, fun h reached => ?_, fun h => ?_, fun h short other => ?_,
      fun h short ends => ?_, fun e h ends reached => ?_⟩
    · have goes : x.state = .draining → (x.conceal.missingRun + 1).toNat < ctx.limit := by
        intro draining
        rcases h with h | h | h | ⟨-, short⟩
        · cases h.symm.trans draining
        · cases h.symm.trans draining
        · cases h.symm.trans draining
        · exact short
      obtain ⟨ePlay, empty, counters, conceal, first, frames⟩ := draw_missing_leaves misses hc hfade hw ha ht i goes limit rfl
      refine ⟨counters.trans ?_, ePlay, empty, conceal, first, fun l n hn hl hq => ?_, fun n hn hl => ?_⟩
      · rw [if_congr limit rfl rfl]
      · exact (frames n hn).trans ((missing_frame x q ctx.hbc enters n).1 l hl hq)
      · exact (frames n hn).trans ((missing_frame x q ctx.hbc enters n).2 hcopy hl)
    · obtain ⟨stays, sameResume, noPosts⟩ := below (notPlaying h nofun)
      rw [whole (fun e => nomatch h.symm.trans e) (afterDraw_primed (stays.trans h) (by omega) i _ _), noPosts]
      exact ⟨rfl, sameResume, rfl⟩
    · obtain ⟨stays, sameResume, noPosts⟩ := below fun e => not_le.mpr short e.2
      rw [whole (fun e => nomatch h.symm.trans e) (afterDraw_goes_on (.inl (stays.trans h)) i _ _ _), noPosts]
      exact ⟨stays.trans h, sameResume, rfl⟩
    · obtain rfl : enters = true := limit.mpr ⟨h, reached⟩
      rw [whole (fun e => nomatch h.symm.trans e) (afterDraw_outage state i _ _ _ _)]
      refine ⟨state, rfl, resume.trans ?_⟩
      simp only [Stream.resumeRecord, ho, Option.getD_some, if_true] <;> rfl
    · obtain ⟨stays, sameResume, noPosts⟩ := below (notPlaying h nofun)
      rw [whole (fun e => nomatch h.symm.trans e) (afterDraw_outage (stays.trans h) i _ _ _ _), noPosts]
      exact ⟨stays.trans h, sameResume, rfl⟩
    · obtain ⟨stays, sameResume, noPosts⟩ := below (notPlaying h nofun)
      rw [whole (fun _ => short) (afterDraw_goes_on (.inr ⟨stays.trans h, sameEnd ▸ other⟩) i _ _ _), noPosts]
      exact ⟨stays.trans h, sameClock, sameResume, rfl⟩
    · obtain ⟨stays, sameResume, noPosts⟩ := below (notPlaying h nofun)
      rw [whole (fun _ => short) (afterDraw_ends (stays.trans h) (sameEnd.trans ends) i _ _ _), noPosts, ← sameClock]
      exact ⟨rfl, rfl, sameResume, rfl⟩
    · rw [draw_starved misses hc hfade hw ha ht i h reached, ends]
      refine ⟨rfl, rfl, rfl, rfl, ?_, rfl, rfl, rfl, fun n hn => ?_⟩
      · exact slotAt_setSlot (x := x.starved q) hd (List.length_set.trans hl) q .empty
      · rw [List.getD_eq_getElem?_getD, List.getElem?_replicate_of_lt hn]
        rfl
  · rintro x ctx i k m seq0 st0 q b d rfl hm hm' hc hfade hw ha playing ho hq he ht hend hd hl
    have crosses := crosses_from_ePlay ho hq he ht hend hd hl hm hm'
    obtain ⟨resumed, -⟩ := resumes_not (x := x) (by rw [playing]; nofun)
    refine ⟨fun real hb empty due fadeIn limit => ?_, fun concealed real hb due => ?_⟩
    · subst hb
      obtain ⟨-, -, state, ePlay, counters, conceal⟩ := pastReal_leaves x b ctx.hbc
      obtain ⟨released, declared⟩ := pastReal_slots crosses.deep hl crosses.apart ctx.hbc
      rw [draw_real_then_missing hc hfade hw ha ht playing i crosses real empty limit]
      exact ⟨fun n hn => real_then_missing_frame due fadeIn hm' hn ctx.hbc, ePlay, released, declared, counters,
        state.trans (resumed.trans playing), conceal.trans (declare_after_real due fadeIn b), rfl, rfl⟩
    · obtain ⟨-, -, state, ePlay, counters, conceal⟩ := backToReal_leaves x q b
      obtain ⟨released, begun⟩ := backToReal_slots crosses.deep hl crosses.apart hb
      have frame {n : Nat} (hn : n < 48) := concealed_then_real_frame (b := b) due q hm' hn
      rw [draw_concealed_then_real hc hfade hw ha ht playing i crosses concealed real hb]
      refine ⟨fun l n hn copies last => ?_, fun n hn silent => ?_, fun n hn next => ?_, ePlay, released, begun, counters,
        state.trans (resumed.trans playing), conceal.trans ?_, rfl, rfl⟩
      · refine (frame (by omega)).trans ?_
        rw [if_pos hn, Stream.concealedFrame, if_pos copies, last, ← Nat.sub_sub]
        rfl
      · refine (frame (by omega)).trans ?_
        rw [if_pos hn, Stream.concealedFrame, if_neg silent]
        rfl
      · refine (frame hn).trans ?_
        rw [if_neg (not_lt.mpr next)]
        rfl
      · rw [serveReal_after_missing due, hb]

end Sys2Proof.Machine
end

section
/-! SUPPORT. The test sequences (R171 to R174) and the two LFSRs (R98, R171): their shifts, the checker against the generator, and
TEST_QUERY; and O54. -/

namespace Sys2Proof.Machine

/-! ## A shift register -/

/-- A register that shifts one place up and takes a new bit at the bottom. -/
theorem shiftLeft_or_bit {w : Nat} (v : BitVec (w + 1)) (b : Bool) :
    (v <<< 1) ||| (if b = true then 1 else 0) = v.extractLsb' 0 w ++ BitVec.ofBool b := by
  ext j hj
  cases j with
  | zero => cases b <;> simp [BitVec.getElem_append]
  | succ j => cases b <;> simp [BitVec.getElem_append, BitVec.getLsbD_eq_getElem (Nat.lt_of_succ_lt hj)]

/-- The bits of a register that has taken a new one at the bottom. -/
theorem shifted_getLsbD {w : Nat} (v : BitVec (w + 1)) (b : Bool) : (v.extractLsb' 0 w ++ BitVec.ofBool b).getLsbD 0 = b ∧
    ∀ j, j < w → (v.extractLsb' 0 w ++ BitVec.ofBool b).getLsbD (j + 1) = v.getLsbD j := by
  refine ⟨?_, fun j hj => ?_⟩
  · simp only [BitVec.getLsbD_append, BitVec.getLsbD_ofBool]
    simp
  · simp only [BitVec.getLsbD_append, BitVec.getLsbD_extractLsb']
    simp [hj]

/-- A register whose new bit is the exclusive or of its top bit and a lower one shifts to 0 only from 0. -/
theorem shifted_ne_zero {w k : Nat} (hk : k < w) {v : BitVec (w + 1)} (h : v ≠ 0) :
    v.extractLsb' 0 w ++ BitVec.ofBool (v.getLsbD w ^^ v.getLsbD k) ≠ 0 := by
  intro shifted
  obtain ⟨bottom, others⟩ := shifted_getLsbD v (v.getLsbD w ^^ v.getLsbD k)
  have low (j : Nat) (hj : j < w) : v.getLsbD j = false := by
    rw [← others j hj, shifted]
    exact BitVec.getLsbD_zero
  have top : v.getLsbD w = false := by
    rw [shifted, low k hk, Bool.xor_false] at bottom
    exact bottom.symm.trans BitVec.getLsbD_zero
  refine h (BitVec.eq_of_getLsbD_eq fun j hj => ?_)
  refine Eq.trans ?_ BitVec.getLsbD_zero.symm
  obtain below | rfl := Nat.lt_succ_iff_lt_or_eq.mp hj
  · exact low j below
  · exact top

/-! ## The checker (R172) -/

theorem testSample_bits (v : BitVec 23) : (testSample v).getLsbD 0 = false ∧ (testSample v).extractLsb' 1 23 = v := by
  refine ⟨by simp only [testSample, BitVec.getLsbD_append]; rfl, BitVec.eq_of_getLsbD_eq fun j hj => ?_⟩
  simp only [testSample, BitVec.getLsbD_extractLsb', BitVec.getLsbD_append, hj]
  simp

theorem sample_match {c : Checker} (h : c.sync = true) : c.sample (testSample (advanceTest c.lfsr)) =
    ({ c with lfsr := advanceTest c.lfsr, mismatches := 0, checked := c.checked + 1 }, none) := by
  simp only [Checker.sample, h, if_true]

theorem sample_mismatch {c : Checker} (h : c.sync = true) {v : Sample} (hv : v ≠ testSample (advanceTest c.lfsr))
    (hm : c.mismatches ≤ 15) : c.sample v = ({ c with
      lfsr := advanceTest c.lfsr, checked := c.checked + 1, errors := c.errors + 1
      mismatches := if c.mismatches = 15 then 0 else c.mismatches + 1, sync := decide (c.mismatches ≠ 15) },
      if c.mismatches = 15 then some (c.errors + 1) else none) := by
  by_cases last : c.mismatches = 15
  · simp [Checker.sample, h, if_neg hv, last]
  · have short : c.mismatches + 1 < 16 := by omega
    simp [Checker.sample, h, if_neg hv, last, short]

theorem sample_search {c : Checker} (h : c.sync = false) (v : Sample) : c.sample v =
    if v.getLsbD 0 = false ∧ v.extractLsb' 1 23 ≠ 0 then ({ c with sync := true, lfsr := v.extractLsb' 1 23, mismatches := 0 }, none)
    else (c, none) := by
  simp only [Checker.sample, h, Bool.false_eq_true, if_false]

/-- One sample after the other. -/
theorem samples_cons_none {c d : Checker} {v : Sample} (h : c.sample v = (d, none)) (vs : List Sample) :
    c.samples (v :: vs) = d.samples vs := by
  simp only [Checker.samples, List.foldl_cons, h]

/-- A checker in SYNC follows the generator that its state is that of (R171, R172). -/
theorem samples_follow {n : Nat} : ∀ {c : Checker}, c.sync = true → c.samples (testSamples (n + 1) c.lfsr).2 =
    ({ c with lfsr := (testSamples (n + 1) c.lfsr).1, mismatches := 0, checked := c.checked + BitVec.ofNat 32 (n + 1) }, []) := by
  induction n with
  | zero =>
    intro c h
    exact samples_cons_none (sample_match h) []
  | succ n ih =>
    intro c h
    have rest := ih (c := { c with lfsr := advanceTest c.lfsr, mismatches := 0, checked := c.checked + 1 }) h
    have count : c.checked + 1 + BitVec.ofNat 32 (n + 1) = c.checked + BitVec.ofNat 32 (n + 1 + 1) := by
      rw [add_assoc, add_comm (1 : Word), BitVec.ofNat_add (n + 1)]
      rfl
    rw [← count]
    exact (samples_cons_none (sample_match h) _).trans rest

/-! ## TEST_QUERY (R174) -/

theorem serveTestQuery_eq (s : State) (i : Fin 32) (clear : Byte) : serveTestQuery s [byteOf i.val, clear] =
    if 1 < clear.toNat then .error .badValue
    else .ok (if clear = 1 then
        s.setStream i { s.stream i with checker := { (s.stream i).checker with errors := 0, gaps := 0, checked := 0 } } else s,
      (s.stream i).testReport) := by
  have named : toFin? 32 (field1 [byteOf i.val, clear] 0) = some i := toFin?_stream i
  have flag : field1 [byteOf i.val, clear] 1 = clear.toNat := rfl
  have one : clear.toNat = 1 ↔ clear = 1 := by rw [← BitVec.toNat_inj]; rfl
  simp only [serveTestQuery, named, flag, one, require_bind, decide_eq_false_iff_not, Nat.not_le]
  rfl

/-- Settles O54: the two registers, the checker in SYNC and in SEARCH, and TEST_QUERY. -/
theorem checkerFollowsTheTestSequence : Obligations.CheckerFollowsTheTestSequence := by
  refine ⟨fun v => shiftLeft_or_bit v _, fun v => shiftLeft_or_bit v _, fun v => ⟨rfl, fun n => rfl⟩, fun v h => ?_,
    fun v h => ?_, fun c n h hn => ?_, fun c v h hv => ?_, fun c v h hv => ?_, fun c v h hv hm => sample_mismatch h hv hm, ?_, fun s b clear hb hn => ?_⟩
  · exact (shiftLeft_or_bit v _).trans_ne (shifted_ne_zero (by decide : 4 < 5) h)
  · exact (shiftLeft_or_bit v _).trans_ne (shifted_ne_zero (by decide : 17 < 22) h)
  · obtain ⟨n, rfl⟩ := Nat.exists_eq_succ_of_ne_zero hn.ne'
    exact samples_follow h
  · obtain ⟨low, state⟩ := testSample_bits v
    have synced := sample_search h (testSample v)
    rwa [low, state, if_pos ⟨rfl, hv⟩] at synced
  · refine (sample_search h v).trans (if_neg ?_)
    rintro ⟨low, high⟩
    obtain odd | rfl := hv
    · exact absurd (odd.symm.trans low) (by decide)
    · exact high (by decide)
  · rintro s i c clear rfl hn
    have served := serveTestQuery_eq s i clear
    by_cases range : 1 < clear.toNat
    · rw [if_pos range] at served ⊢
      exact take_refused hn rfl served
    · rw [if_neg range] at served ⊢
      exact take_granted hn rfl served
  · have unknown : toFin? 32 (field1 [b, clear] 0) = none := toFin?_beyond hb
    refine take_refused (st := .notFound) hn rfl ?_
    simp only [serveTestQuery, unknown]

end Sys2Proof.Machine
end

section
/-! SUPPORT. The arithmetic of a window end (R87 to R95): the lead and its delta, the latency error, the recentre, the correction rate
and the slip schedule; and O36. -/

namespace Sys2Proof.Machine

/-! ## The lead and the delta (R88) -/

/-- The lead is the first member with a current minimum. -/
theorem leadOf_first {before : List (Fin 32 × Option Word)} (h : ∀ b ∈ before, b.2 = none) (i : Fin 32) (m : Word)
    (after : List (Fin 32 × Option Word)) : leadOf (before ++ (i, some m) :: after) = some (i, m) := by
  induction before with
  | nil => rfl
  | cons b before ih =>
    obtain ⟨absent, rest⟩ := List.forall_mem_cons.mp h
    have others := ih rest
    unfold leadOf at others ⊢
    rw [List.cons_append, List.findSome?_cons, absent]
    exact others

/-- With no current minimum there is no lead. -/
theorem leadOf_absent {mins : List (Fin 32 × Option Word)} (h : ∀ b ∈ mins, b.2 = none) : leadOf mins = none := by
  refine List.findSome?_eq_none_iff.mpr fun b hb => ?_
  rw [h b hb]
  rfl

/-- A lead that was the lead of the last window has its delta against its minimum in the last report. -/
theorem delta_of_lead {g : Group} {mins : List (Fin 32 × Option Word)} {i : Fin 32} {m base : Word} {r : WindowReport}
    (lead : leadOf mins = some (i, m)) (last : g.leadLast = some i) (report : g.report = some r)
    (found : r.members.find? (fun e => e.1 = i) = some (i, some base)) : g.delta mins = some (sdiff m base) := by
  have same : r.members.find? (fun e => e.1 == i) = some (i, some base) := found
  simp only [Group.delta, lead, last, report, same, if_true]

/-- A lead that was not the lead of the last window has no delta. -/
theorem delta_of_new_lead {g : Group} {mins : List (Fin 32 × Option Word)} {i : Fin 32} {m : Word} (lead : leadOf mins = some (i, m))
    (last : g.leadLast ≠ some i) : g.delta mins = none := by
  cases hl : g.leadLast with
  | none => simp only [Group.delta, lead, hl]
  | some j =>
    have other : i ≠ j := fun e => last (hl.trans (congrArg some e.symm))
    cases hr : g.report <;> simp only [Group.delta, lead, hl, hr, if_neg other]

theorem delta_absent {mins : List (Fin 32 × Option Word)} (lead : leadOf mins = none) (g : Group) : g.delta mins = none := by
  simp only [Group.delta, lead]

/-! ## The latency error (R91) -/

/-- The largest current minimum is one of them, and at least every other. -/
theorem largestMin_of_largest {mins : List (Fin 32 × Option Word)} {j : Fin 32} {m : Word} (hj : (j, some m) ∈ mins)
    (h : ∀ k v, (k, some v) ∈ mins → v.toInt ≤ m.toInt) : largestMin mins = some m.toInt := by
  refine List.max?_eq_some_iff.mpr ⟨List.mem_filterMap.mpr ⟨_, hj, rfl⟩, fun x hx => ?_⟩
  obtain ⟨⟨k, w⟩, listed, e⟩ := List.mem_filterMap.mp hx
  obtain ⟨v, rfl, rfl⟩ := Option.map_eq_some_iff.mp e
  exact h k v listed

theorem largestMin_of_absent {mins : List (Fin 32 × Option Word)} (h : ∀ b ∈ mins, b.2 = none) : largestMin mins = none := by
  have empty : mins.filterMap (fun m => m.2.map BitVec.toInt) = [] := by
    refine List.filterMap_eq_nil_iff.mpr fun b hb => ?_
    rw [h b hb]
    rfl
  rw [largestMin, empty]
  rfl

/-! ## The recentre, the correction rate and the slip schedule (R92 to R94) -/

theorem scheduledRecentre_some (e : Int) :
    scheduledRecentre (some e) = if 192 < e.natAbs then some (recentreAdj e) else none := by
  have threshold : Config.recentreThreshold < (e.natAbs : Int) ↔ 192 < e.natAbs := by
    rw [Config.recentreThreshold]
    omega
  simp only [scheduledRecentre, threshold]

theorem clampInt_eq {lo hi : Int} (h : lo ≤ hi) (x : Int) : clampInt lo hi x = max lo (min hi x) := by
  unfold clampInt
  omega

/-- What a recentre takes off the latency error is what it has adjusted (R92, R93). -/
theorem correctionRate_some {d e adj : Int} (scheduled : (scheduledRecentre (some e)).getD 0 = adj) :
    correctionRate d (some e) = max (-2560) (min 2560 (d - 32 * (e - adj))) := by
  rw [← clampInt_eq (by decide), ← scheduled]
  rfl

/-- The slip countdown after a window end (R94). -/
theorem slipCountdownOf_eq (g : Group) (c : Int) (recentred : Bool) : slipCountdownOf g c recentred =
    if c.natAbs < 4 then 0
    else if recentred = true ∨ g.dir ≠ slipDirOf c then 256000 / c.natAbs
    else min g.countdown (256000 / c.natAbs) := by
  by_cases small : c.natAbs < 4
  · simp only [slipCountdownOf, slipIntervalOf, if_pos small]
  · simp only [slipCountdownOf, slipIntervalOf, if_neg small]
    cases recentred with
    | true => rfl
    | false =>
      by_cases turned : g.dir = slipDirOf c
      · have moving : g.dir ≠ .steady := turned ▸ mt (slipDirOf_steady_iff c).mp small
        rw [if_neg Bool.false_ne_true, if_neg moving, if_neg (not_not.mpr turned), if_neg (by simp [turned])]
      · rw [if_neg Bool.false_ne_true, if_pos turned, ite_self, if_pos (.inr turned)]

/-- The record after a window end, step by step, `rec` telling whether it schedules a recentre, of `adj` (R87, R95). -/
theorem windowEnd_eq {g : Group} {mins : List (Fin 32 × Option Word)} {big rec : Bool} {d c adj : Int} (step : isStep (g.delta mins) = big)
    (drift : smoothDrift g.drift (g.delta mins) = d)
    (scheduled : scheduledRecentre (g.latencyError mins) = if rec then some adj else none) (unmoved : rec = false → adj = 0)
    (corr : correctionRate d (g.latencyError mins) = c) (n : Word) : g.windowEnd n mins =
      { g with
        steps := if big then g.steps + 1 else g.steps
        drift := d
        corr := c
        pending := if rec then some adj else g.pending
        dir := slipDirOf c
        interval := slipIntervalOf c
        countdown := slipCountdownOf g c rec
        report := some
          { number := n, lead := (leadOf mins).map (·.1), members := mins, delta := g.delta mins, step := big, drift := d
            e := g.latencyError mins, adj := adj, corr := c, dir := slipDirOf c, interval := slipIntervalOf c }
        leadLast := (leadOf mins).map (·.1)
        window := some (n + 1, 0) } := by
  simp only [Group.windowEnd, step, drift, corr, scheduled]
  cases rec with
  | true => rfl
  | false =>
    rw [unmoved rfl]
    rfl

/-! ## Every clause of O36 -/

/-- Settles O36: the lead with its delta, the latency error, and the steps that follow from the two. -/
theorem windowEndArithmetic : Obligations.WindowEndArithmetic := by
  refine ⟨fun g n before after i m h => ?_, fun g n mins h => ?_, fun g mins q o j m hq ho hj hm => ?_, ?_⟩
  · have lead := leadOf_first h i m after
    exact ⟨fun r base last report found => delta_of_lead lead last report found, delta_of_new_lead lead,
      congrArg (Option.map Prod.fst) lead⟩
  · have lead := leadOf_absent h
    exact ⟨delta_absent lead g, by rw [Group.latencyError, largestMin_of_absent h]; rfl, congrArg (Option.map Prod.fst) lead⟩
  · simp only [Group.latencyError, largestMin_of_largest hj hm, hq, ho, Option.map_some, Option.getD_some]
  · rintro g n mins big d c adj rec r hbig hd hrec hadj hc rfl
    have step : isStep (g.delta mins) = big := by rw [hbig]; cases g.delta mins <;> rfl
    have drift : smoothDrift g.drift (g.delta mins) = d := by
      rw [hd, ← step]
      cases g.delta mins <;> rfl
    have scheduled : scheduledRecentre (g.latencyError mins) = if rec then some adj else none := by
      cases e : g.latencyError mins with
      | none =>
        rw [e] at hrec
        rw [show rec = false from hrec]
        rfl
      | some x =>
        rw [e] at hrec hadj
        have far : rec = decide (192 < x.natAbs) := hrec
        have moved : adj = if rec then recentreAdj x else 0 := hadj
        rw [scheduledRecentre_some, moved, far]
        by_cases large : 192 < x.natAbs
        · rw [decide_eq_true large, if_pos large]
          rfl
        · rw [decide_eq_false large, if_neg large]
          rfl
    have unmoved : rec = false → adj = 0 := by
      rintro rfl
      rw [hadj]
      cases g.latencyError mins <;> rfl
    have corr : correctionRate d (g.latencyError mins) = c := by
      rw [hc]
      cases e : g.latencyError mins with
      | none => rfl
      | some x =>
        refine correctionRate_some ?_
        rw [← e, scheduled]
        cases rec with
        | true => rfl
        | false => exact (unmoved rfl).symm
    rw [windowEnd_eq step drift scheduled unmoved corr n]
    exact ⟨rfl, rfl, rfl, rfl, rfl, rfl, slipCountdownOf_eq g c rec, rfl, rfl, rfl, rfl, rfl, rfl⟩

end Sys2Proof.Machine
end

section
/-! SUPPORT. What a draw hears (R77 to R79, R99, R100, R108): positions that stand in FILLED slots or in silence, with any slip, and the
record that they leave. -/

namespace Sys2Proof.Machine

/-! ## The slip mapping (R99, R100) -/

/-- The source sample of an output sample, counted from the read position: σ of R99 and R100. -/
def Slip.source : Slip → Nat → Nat
  | .steady, n => n
  | .repeatAt p, n => if n < p then n else n - 1
  | .dropAt p, n => if n < p then n else n + 1

/-- A slip falls on one of the positions 1 to 47 (R98). -/
def Slip.InBlock : Slip → Prop
  | .steady => True
  | .repeatAt p => 1 ≤ p ∧ p ≤ 47
  | .dropAt p => 1 ≤ p ∧ p ≤ 47

/-- The positions of a draw that are served: all but the one that a DROP omits. -/
def Slip.serves (slip : Slip) (k : Nat) : Bool := decide (slip ≠ .dropAt k)

theorem range_without (p r : Nat) : (List.range (p + 1 + r)).filter (fun k => Slip.serves (.dropAt p) k) =
    (List.range (p + r)).map (Slip.dropAt p).source := by
  induction r with
  | zero =>
    have below : (List.range p).filter (fun k => Slip.serves (.dropAt p) k) = List.range p :=
      List.filter_eq_self.mpr fun k hk => by
        have := List.mem_range.mp hk
        simp [Slip.serves]; omega
    have same : (List.range p).map (Slip.dropAt p).source = List.range p :=
      (List.map_congr_left fun k hk => if_pos (List.mem_range.mp hk)).trans (List.map_id _)
    rw [Nat.add_zero p, Nat.add_zero (p + 1), List.range_succ, List.filter_append, below, same]
    simp [Slip.serves]
  | succ r ih =>
    rw [← Nat.add_assoc, List.range_succ, List.filter_append, ih, ← Nat.add_assoc, List.range_succ, List.map_append]
    have next : Slip.serves (.dropAt p) (p + 1 + r) = true := decide_eq_true fun e => by injection e; omega
    have above : (Slip.dropAt p).source (p + r) = p + 1 + r := (if_neg (by omega)).trans (by omega)
    simp only [List.filter_cons, next, List.filter_nil, List.map_cons, List.map_nil, above, if_true]

theorem range_repeating {p : Nat} (h : 1 ≤ p) (r : Nat) : List.range p ++ [p - 1] ++ List.range' p r =
    (List.range (p + 1 + r)).map (Slip.repeatAt p).source := by
  induction r with
  | zero =>
    have same : (List.range p).map (Slip.repeatAt p).source = List.range p :=
      (List.map_congr_left fun k hk => if_pos (List.mem_range.mp hk)).trans (List.map_id _)
    rw [List.range'_zero, List.append_nil, Nat.add_zero, List.range_succ, List.map_append, same]
    simp [Slip.source]
  | succ r ih =>
    have above : (Slip.repeatAt p).source (p + 1 + r) = p + r := (if_neg (by omega)).trans (by omega)
    rw [List.range'_concat, ← List.append_assoc, ih, ← Nat.add_assoc, List.range_succ, List.map_append, List.map_cons, List.map_nil,
      above, Nat.one_mul]

/-- The frames that a slip makes of those served, one for each source position served, are those of the slip mapping. -/
theorem mapSlip_served {slip : Slip} (h : slip.InBlock) (f : Nat → Frame) :
    mapSlip slip (((List.range slip.sources).filter slip.serves).map f) = (List.range 48).map fun n => f (slip.source n) := by
  cases slip with
  | steady => rfl
  | dropAt p =>
    obtain ⟨-, hp⟩ := h
    have sources : (Slip.dropAt p).sources = p + 1 + (48 - p) := by
      rw [show (Slip.dropAt p).sources = 49 from rfl]; omega
    rw [sources, range_without, List.map_map, show p + (48 - p) = 48 by omega]
    rfl
  | repeatAt p =>
    obtain ⟨hl, hp⟩ := h
    have all : (List.range (Slip.repeatAt p).sources).filter (Slip.repeatAt p).serves = List.range' 0 47 :=
      List.filter_eq_self.mpr fun _ _ => rfl
    have first : (List.range' 0 47).take p = List.range p := by
      rw [List.take_range'_of_length_ge hp, List.range_eq_range']
    have again : ((List.range' 0 47).drop (p - 1)).take 1 = [p - 1] := by
      rw [List.drop_range', List.take_range'_of_length_ge (by omega), Nat.mul_one, Nat.zero_add, List.range'_one]
    have rest : (List.range' 0 47).drop p = List.range' p (47 - p) := by
      rw [List.drop_range', Nat.mul_one, Nat.zero_add]
    have mapping := congrArg (List.map f) (range_repeating hl (47 - p))
    rw [List.map_map, show p + 1 + (47 - p) = 48 by omega] at mapping
    simp only [mapSlip, all, ← List.map_take, ← List.map_drop, first, again, rest, ← List.map_append]
    exact mapping

/-! ## What a position is heard from -/

/-- The frame of a position: that of its index in a real block, or silence. -/
def Stream.heardFrame (x : Stream) : Option (Block × Nat) → Frame
  | some (b, n) => b.samples.getD n x.silence
  | none => x.silence

/-- The block that a position completes: index 47 is its last (R108). -/
def completedAt : Option (Block × Nat) → Option Block
  | some (b, n) => if n = 47 then some b else none
  | none => none

/-- The blocks that the first k positions complete, in order. -/
def completedBy (src : Nat → Option (Block × Nat)) (k : Nat) : List Block := (List.range k).filterMap fun j => completedAt (src j)

/-- The positions served among the first k. -/
def Slip.servedBy (slip : Slip) (k : Nat) : List Nat := (List.range k).filter slip.serves

theorem completedBy_succ (src : Nat → Option (Block × Nat)) (k : Nat) :
    completedBy src (k + 1) = completedBy src k ++ (completedAt (src k)).toList := by
  rw [completedBy, List.range_succ, List.filterMap_append]
  cases e : completedAt (src k) <;> simp [completedBy, e]

theorem servedBy_succ (slip : Slip) (k : Nat) : slip.servedBy (k + 1) = slip.servedBy k ++ if slip.serves k then [k] else [] := by
  rw [Slip.servedBy, List.range_succ, List.filter_append]
  cases e : slip.serves k <;> simp [Slip.servedBy, e]

/-- The last real block that a block's completion records (R108). -/
def Block.asLastReal (b : Block) : LastReal := { seq := b.seq, sourceTime := b.sourceTime, samples := b.samples }

/-- The concealment state after real blocks alone, `bs` of them completed (R108, R112). -/
def Conceal.past (c : Conceal) (run : Word) (bs : List Block) : Conceal :=
  { c with missingRun := run, lastReal := (bs.getLast?.map Block.asLastReal).or c.lastReal }

/-- The record within a draw that has heard real blocks alone, `bs` of them completed. -/
def Stream.past (x : Stream) (ring : List Slot) (run : Word) (bs : List Block) : Stream :=
  { x with ring := ring, conceal := x.conceal.past run bs }

/-- A stream that neither resumes nor fades in. -/
structure Stream.Calm (x : Stream) : Prop where
  up : x.state ≠ .outage
  due : x.conceal.fadeInDue = false
  fadeIn : x.conceal.fadeIn = none

theorem past_nothing (x : Stream) : x = x.past x.ring x.conceal.missingRun [] := by
  simp only [Stream.past, Conceal.past, List.getLast?_nil, Option.map_none, Option.none_or]

theorem past_serveReal {c : Conceal} (due : c.fadeInDue = false) (run : Word) (bs : List Block) (q : Word) :
    (c.past run bs).serveReal q = c.past 0 bs := by
  simp only [Conceal.past, Conceal.serveReal, due, Bool.false_eq_true, if_false]

theorem past_completeReal {c : Conceal} (fadeIn : c.fadeIn = none) (run : Word) (bs : List Block) (b : Block) (v : Bool) :
    (c.past run bs).completeReal { b with served := v } = c.past run (bs ++ [b]) := by
  simp only [Conceal.past, Conceal.completeReal, fadeIn, reduceCtorEq, if_false, List.getLast?_concat, Option.map_some, Option.some_or]
  rfl

/-- Each position of a draw stands in a FILLED slot, or where silence is served (R78). -/
structure Stream.Hears (x : Stream) (pos : Int) (count : Nat) (src : Nat → Option (Block × Nat)) : Prop where
  silent : ∀ k : Nat, k < count → src k = none → x.place (pos + k) = none
  real : ∀ (k : Nat) (b : Block) (n : Nat), k < count → src k = some (b, n) →
    x.place (pos + k) = some (b.seq, n) ∧ x.slotAt b.seq = .filled b
  deep : 0 < x.depth
  sized : x.ring.length = x.depth

/-- The draw after its first k positions, heard from `src`. -/
structure DrawAcc.Heard (a : DrawAcc) (x : Stream) (slip : Slip) (src : Nat → Option (Block × Nat)) (k : Nat) : Prop where
  record : ∃ ring run, a.x = x.past ring run (completedBy src k) ∧ ring.length = x.ring.length
  slots : ∀ r b, x.slotAt r = .filled b → ∃ v, a.x.slotAt r = .filled { b with served := v }
  posts : a.posts = []
  out : a.out = (slip.servedBy k).map fun j => x.heardFrame (src j)
  completed : a.completed = (completedBy src k).map (·.seq)
  arrival : a.firstArrival = (slip.servedBy k).findSome? fun j => (src j).map (·.1.arrival)
  live : a.halted = false

/-! ## One position (R78, R99) -/

section Position

variable {a : DrawAcc} {x : Stream} {slip : Slip} {src : Nat → Option (Block × Nat)} {k : Nat} (h : a.Heard x slip src k)

include h

theorem heard_place (pos : Int) : a.x.place pos = x.place pos := by
  obtain ⟨ring, run, e, -⟩ := h.record
  rw [e]
  rfl

/-- A position served as silence. -/
theorem heard_silence (silent : src k = none) (serves : slip.serves k = true) : a.serveSilence.Heard x slip src (k + 1) := by
  have done : completedBy src (k + 1) = completedBy src k := by
    rw [completedBy_succ, silent]; exact List.append_nil _
  have served : slip.servedBy (k + 1) = slip.servedBy k ++ [k] := by rw [servedBy_succ, if_pos serves]
  obtain ⟨ring, run, e, sized⟩ := h.record
  refine ⟨⟨ring, run, by rw [done]; exact e, sized⟩, h.slots, h.posts, ?_, by rw [done]; exact h.completed, ?_, h.live⟩
  · rw [served, List.map_append, ← h.out, List.map_cons, silent, DrawAcc.serveSilence, e]
    rfl
  · rw [served, List.findSome?_append, ← h.arrival, List.findSome?_cons, silent]
    exact (Option.or_none).symm

/-- A position that a DROP omits without completing a slot leaves the draw as it is (R99). -/
theorem heard_passed (nothing : completedAt (src k) = none) (omits : slip.serves k = false) : a.Heard x slip src (k + 1) := by
  have done : completedBy src (k + 1) = completedBy src k := by
    rw [completedBy_succ, nothing]; exact List.append_nil _
  have served : slip.servedBy (k + 1) = slip.servedBy k := by
    rw [servedBy_succ, omits]; exact List.append_nil _
  exact ⟨by rw [done]; exact h.record, h.slots, h.posts, by rw [served]; exact h.out, by rw [done]; exact h.completed,
    by rw [served]; exact h.arrival, h.live⟩

/-- A position served from its FILLED slot. -/
theorem heard_real (calm : x.Calm) (deep : 0 < x.depth) (sized : x.ring.length = x.depth) {b : Block} {n : Nat}
    (real : src k = some (b, n)) (slot : x.slotAt b.seq = .filled b) (serves : slip.serves k = true) (i : Fin 32) (v : Bool) :
    (a.serveFilled i { b with served := v } n).Heard x slip src (k + 1) := by
  have done : completedBy src (k + 1) = completedBy src k ++ if n = 47 then [b] else [] := by
    rw [completedBy_succ, real, completedAt]
    split <;> rfl
  have served : slip.servedBy (k + 1) = slip.servedBy k ++ [k] := by rw [servedBy_succ, if_pos serves]
  obtain ⟨ring, run, e, length⟩ := h.record
  obtain ⟨stays, noPosts⟩ := resumes_not (x := a.x) (by rw [e]; exact calm.up)
  have conceal : a.x.conceal.serveReal b.seq = x.conceal.past 0 (completedBy src k) := by
    rw [e]; exact past_serveReal calm.due run _ _
  have unfaded : (x.conceal.past 0 (completedBy src k)).fadeIn ≠ some b.seq := by
    rw [show (x.conceal.past 0 (completedBy src k)).fadeIn = x.conceal.fadeIn from rfl, calm.fadeIn]
    nofun
  have record : (a.serveFilled i { b with served := v } n).x =
      x.past (ring.set (b.seq.toNat % x.depth) (.filled { b with served := true })) 0 (completedBy src (k + 1)) := by
    rw [done]
    simp only [DrawAcc.serveFilled, conceal, stays, past_completeReal calm.fadeIn]
    split
    · rw [e]; rfl
    · rw [List.append_nil, e]; rfl
  refine ⟨⟨_, _, record, by rw [List.length_set, length]⟩, fun r c hr => ?_, ?_, ?_, ?_, ?_, h.live⟩
  · by_cases same : b.seq.toNat % x.depth = r.toNat % x.depth
    · have own : c = b := by
        have := hr.symm.trans ((congrArg (x.ring.getD · .empty) same.symm).trans slot)
        exact Slot.filled.inj this
      have inRing : r.toNat % x.depth < ring.length := by rw [length, sized]; exact Nat.mod_lt _ deep
      refine ⟨true, ?_⟩
      rw [record, own, same, Stream.slotAt, Stream.past, List.getD_eq_getElem?_getD, List.getElem?_set_self inRing]
      rfl
    · obtain ⟨w, hw⟩ := h.slots r c hr
      refine ⟨w, ?_⟩
      rw [e, Stream.slotAt, Stream.past, List.getD_eq_getElem?_getD] at hw
      rw [record, Stream.slotAt, Stream.past, List.getD_eq_getElem?_getD, List.getElem?_set_ne same, hw]
  · rw [DrawAcc.serveFilled, noPosts, List.append_nil, h.posts]
  · rw [served, List.map_append, ← h.out, List.map_cons, real]
    simp only [DrawAcc.serveFilled, conceal, if_neg unfaded]
    rw [e]
    rfl
  · rw [done, List.map_append, ← h.completed]
    simp only [DrawAcc.serveFilled]
    split
    · rfl
    · exact (List.append_nil _).symm
  · rw [served, List.findSome?_append, ← h.arrival, List.findSome?_cons, real]
    cases e : a.firstArrival <;> simp [DrawAcc.serveFilled, e]

/-- The position that a DROP omits, which completes its slot when it is the last of it (R99, R108). -/
theorem heard_omitted (calm : x.Calm) {pos : Int} {b : Block} {n : Nat} (real : src k = some (b, n)) (place : x.place pos = some (b.seq, n))
    (slot : x.slotAt b.seq = .filled b) (omits : slip.serves k = false) : (a.omitted pos).Heard x slip src (k + 1) := by
  have served : slip.servedBy (k + 1) = slip.servedBy k := by
    rw [servedBy_succ, omits]; exact List.append_nil _
  have placed := (heard_place h pos).trans place
  obtain ⟨v, held⟩ := h.slots _ _ slot
  obtain ⟨ring, run, e, length⟩ := h.record
  by_cases last : n = 47
  · have done : completedBy src (k + 1) = completedBy src k ++ [b] := by
      rw [completedBy_succ, real, completedAt, if_pos last]; rfl
    have completes : a.omitted pos = { a with
        x := { a.x with conceal := a.x.conceal.completeReal { b with served := v } }, completed := a.completed ++ [b.seq] } := by
      simp only [DrawAcc.omitted, h.live, placed, held, last, if_true, Bool.false_eq_true, if_false]
    have record : (a.omitted pos).x = x.past ring run (completedBy src (k + 1)) := by
      rw [completes, done, Stream.past, ← past_completeReal calm.fadeIn run _ b v, e]
      rfl
    refine ⟨⟨ring, run, record, length⟩, ?_, ?_, ?_, ?_, ?_, ?_⟩
    · rw [completes]; exact h.slots
    · rw [completes]; exact h.posts
    · rw [completes, served]; exact h.out
    · rw [completes, done, List.map_append, ← h.completed]; rfl
    · rw [completes, served]; exact h.arrival
    · rw [completes]; exact h.live
  · have leaves : a.omitted pos = a := by simp only [DrawAcc.omitted, placed, if_neg last, ite_self]
    rw [leaves]
    exact heard_passed h (by rw [real]; exact if_neg last) omits

end Position

/-! ## All positions -/

section Draw

variable {x : Stream} {ctx : DrawContext} {pos : Int} {src : Nat → Option (Block × Nat)} (h : x.Hears pos ctx.slip.sources src)
  (calm : x.Calm) (i : Fin 32)

include h calm

theorem heard_step {a : DrawAcc} {k : Nat} (heard : a.Heard x ctx.slip src k) (hk : k < ctx.slip.sources) :
    (DrawAcc.step ctx i pos a k).Heard x ctx.slip src (k + 1) := by
  have place := heard_place heard (pos + k)
  by_cases omits : ctx.slip = .dropAt k
  · have skipped : ctx.slip.serves k = false := by rw [omits]; exact decide_eq_false (not_not.mpr rfl)
    rw [DrawAcc.step, if_pos omits]
    cases e : src k with
    | none =>
      rw [omitted_silence (place.trans (h.silent k hk e))]
      exact heard_passed heard (by rw [e]; rfl) skipped
    | some s =>
      obtain ⟨placed, slot⟩ := h.real k s.1 s.2 hk e
      exact heard_omitted heard calm e placed slot skipped
  · have serves : ctx.slip.serves k = true := decide_eq_true omits
    rw [DrawAcc.step, if_neg omits]
    cases e : src k with
    | none =>
      rw [serve_silence (place.trans (h.silent k hk e))]
      exact heard_silence heard e serves
    | some s =>
      obtain ⟨placed, slot⟩ := h.real k s.1 s.2 hk e
      obtain ⟨v, held⟩ := heard.slots _ _ slot
      rw [serve_filled heard.live (place.trans placed) held rfl]
      exact heard_real heard calm h.deep h.sized e slot serves i v

/-- All positions of the draw. -/
theorem visit_heard : (x.visit ctx i pos).Heard x ctx.slip src ctx.slip.sources := by
  have through (k : Nat) (hk : k ≤ ctx.slip.sources) :
      ((List.range k).foldl (DrawAcc.step ctx i pos) (.silent x [])).Heard x ctx.slip src k := by
    induction k with
    | zero => exact ⟨⟨_, _, past_nothing x, rfl⟩, fun r b hr => ⟨b.served, hr⟩, rfl, rfl, rfl, rfl, rfl⟩
    | succ k ih =>
      rw [List.range_succ, List.foldl_append, List.foldl_cons, List.foldl_nil]
      exact heard_step h calm i (ih (by omega)) hk
  exact through _ le_rfl

end Draw

/-! ## After the positions (R79, R80, R81) -/

/-- The releases of a draw: each slot is EMPTY, and E_play stands past the last of them (R79). -/
theorem release_leaves {x : Stream} (deep : 0 < x.depth) (sized : x.ring.length = x.depth) (qs : List Word) :
    ∃ ring, x.release qs = { x with ring := ring, ePlay := (qs.getLast?.map (· + 1)).or x.ePlay } ∧ ring.length = x.depth ∧
      ∀ q ∈ qs, (x.release qs).slotAt q = .empty := by
  induction qs using List.reverseRecOn with
  | nil => exact ⟨x.ring, rfl, sized, nofun⟩
  | append_singleton qs q ih =>
    obtain ⟨ring, e, length, empty⟩ := ih
    have next : x.release (qs ++ [q]) = { (x.release qs).setSlot q .empty with ePlay := some (q + 1) } := by
      simp only [Stream.release, List.foldl_append, List.foldl_cons, List.foldl_nil]
    have depth : (x.release qs).depth = x.depth := by rw [e]
    have sameLength : (x.release qs).ring.length = (x.release qs).depth := by rw [e]; exact length
    refine ⟨ring.set (q.toNat % x.depth) .empty, ?_, by rw [List.length_set, length], fun r hr => ?_⟩
    · rw [next, e, List.getLast?_concat]
      rfl
    · have slot : (x.release (qs ++ [q])).slotAt r = ((x.release qs).setSlot q .empty).slotAt r := by rw [next]; rfl
      rw [slot]
      by_cases same : q.toNat % (x.release qs).depth = r.toNat % (x.release qs).depth
      · have own := slotAt_setSlot (by rw [depth]; exact deep) sameLength q .empty
        exact (congrArg (((x.release qs).setSlot q .empty).ring.getD · .empty) same.symm).trans own
      · rw [slotAt_setSlot_apart same]
        refine empty r ?_
        obtain hr | hr := List.mem_append.mp hr
        · exact hr
        · exact absurd (by rw [List.mem_singleton.mp hr]) same

/-- The headroom test moves the arming alone (R83). -/
theorem headroomTest_leaves (x : Stream) (i : Fin 32) (warning : Nat) (next : Int) :
    ∃ armed, (x.headroomTest i warning next).1 = { x with headroomArmed := armed } := by
  unfold Stream.headroomTest
  split
  · dsimp only
    split
    · exact ⟨_, rfl⟩
    · split
      · exact ⟨_, rfl⟩
      · exact ⟨_, rfl⟩
  · exact ⟨_, rfl⟩

/-- The record when the completed slots of such a draw have been released (R79). -/
def Stream.drawnPast (x : Stream) (ring : List Slot) (run : Word) (bs : List Block) : Stream :=
  { x.past ring run bs with ePlay := (bs.getLast?.map (·.seq + 1)).or x.ePlay }

/-- The arrival house block of the first FILLED slot that a draw serves (R80). -/
def arrivalHeard (slip : Slip) (src : Nat → Option (Block × Nat)) : Option Word :=
  (slip.servedBy slip.sources).findSome? fun j => (src j).map (·.1.arrival)

/-- A draw of FILLED slots and silence: the slots that it completes are released, the state moves, and the headroom is tested. -/
theorem draw_heard {x : Stream} {ctx : DrawContext} {pos : Int} {src : Nat → Option (Block × Nat)}
    (h : x.Hears pos ctx.slip.sources src) (calm : x.Calm) (inBlock : ctx.slip.InBlock) (unfaded : ctx.fade = false)
    (ht : x.servedTo = none) (i : Fin 32) {bs : List Block} (done : completedBy src ctx.slip.sources = bs) :
    ∃ ring run, (∀ b ∈ bs, (x.drawnPast ring run bs).slotAt b.seq = .empty) ∧
      ∀ moved, (x.drawnPast ring run bs).afterDraw i ctx.hbc (pos + ctx.slip.sources - 1) (bs.map (·.seq))
          (arrivalHeard ctx.slip src) = moved → x.draw ctx i pos =
        ((moved.1.headroomTest i ctx.warning (pos + ctx.slip.sources)).1,
          { frames := (List.range 48).map fun n => x.heardFrame (src (ctx.slip.source n)), first := x.firstSlot pos },
          moved.2 ++ (moved.1.headroomTest i ctx.warning (pos + ctx.slip.sources)).2) := by
  subst done
  have heard := visit_heard h calm i
  obtain ⟨ring, run, e, length⟩ := heard.record
  have deep : 0 < (x.visit ctx i pos).x.depth := by rw [e]; exact h.deep
  have sized : (x.visit ctx i pos).x.ring.length = (x.visit ctx i pos).x.depth := by rw [e]; exact length.trans h.sized
  obtain ⟨after, released, -, empty⟩ := release_leaves deep sized ((completedBy src ctx.slip.sources).map (·.seq))
  have record : (x.visit ctx i pos).x.release ((completedBy src ctx.slip.sources).map (·.seq)) =
      x.drawnPast after run (completedBy src ctx.slip.sources) := by
    rw [released, e, List.getLast?_map, Option.map_map]
    rfl
  rw [record] at empty
  refine ⟨after, run, fun b hb => empty _ (List.mem_map_of_mem hb), ?_⟩
  rintro moved rfl
  obtain ⟨-, served⟩ := afterDraw_armed (x.drawnPast after run (completedBy src ctx.slip.sources)) i ctx.hbc
    (pos + ctx.slip.sources - 1) ((completedBy src ctx.slip.sources).map (·.seq)) (arrivalHeard ctx.slip src)
  have frames := mapSlip_served inBlock fun j => x.heardFrame (src j)
  have arrival : (x.visit ctx i pos).firstArrival = arrivalHeard ctx.slip src := heard.arrival
  simp only [Stream.draw, record, heard.completed, heard.posts, heard.out, arrival, unfaded, List.nil_append]
  rw [clearServedTo_absent (served.trans ht), Slip.servedBy, frames]
  rfl

end Sys2Proof.Machine
end

section
/-! SUPPORT. The draw of real blocks (R77 to R81, R99, R100): from one block into the next, or from the end block into the silence after
it. -/

namespace Sys2Proof.Machine

/-! ## Where a position stands (R78) -/

/-- A position from the origin on is silence after the end sequence, below E_play and below the served-to position, and is else served
from its slot. -/
theorem place_from_origin {x : Stream} {k : Nat} {seq0 st0 e q : Word} (ho : x.origin = some (seq0, st0)) (he : x.ePlay = some e)
    (hq : q = seq0 + BitVec.ofNat 32 (k / 48)) :
    (((∃ z, x.endSeq = some z ∧ 0 < sdiff q z) ∨ sdiff q e < 0 ∨ ∃ u, x.servedTo = some u ∧ (k : Int) < u) → x.place k = none) ∧
    (¬((∃ z, x.endSeq = some z ∧ 0 < sdiff q z) ∨ sdiff q e < 0 ∨ ∃ u, x.servedTo = some u ∧ (k : Int) < u) →
      x.place k = some (q, k % 48)) := by
  have own : x.seqOf (k : Int) = q := (seqOf_block ho rfl).trans hq.symm
  have fromOrigin : ¬(k : Int) < 0 := by omega
  have index : indexOf (k : Int) = k % 48 := by
    unfold indexOf
    omega
  have past : x.endSeq.any (fun z => decide (0 < sdiff q z)) = true ↔ ∃ z, x.endSeq = some z ∧ 0 < sdiff q z := pastEnd_iff x q
  have below : x.servedTo.any (fun u => decide ((k : Int) < u)) = true ↔ ∃ u, x.servedTo = some u ∧ (k : Int) < u := by
    rw [Option.any_eq_true]
    simp only [decide_eq_true_eq]
  simp only [Stream.place, own, index, if_neg fromOrigin, he, Option.getD_some, past, below]
  refine ⟨fun silent => ?_, fun heard => ?_⟩
  · split_ifs with h1 h2 h3
    · rfl
    · rfl
    · rfl
    · exact absurd silent (by simp only [h1, h2, h3, or_self, not_false_eq_true])
  · simp only [not_or] at heard
    obtain ⟨h1, h2, h3⟩ := heard
    rw [if_neg h1, if_neg h2, if_neg h3]

/-! ## One block after another -/

/-- What a draw from index m of a block hears: that block, and then the next one or silence. -/
def twoBlocks (b : Block) (next : Option Block) (m k : Nat) : Option (Block × Nat) :=
  if m + k < 48 then some (b, m + k) else next.map fun c => (c, m + k - 48)

/-- The blocks that are completed when `total` indices from the first block's beginning on are passed. -/
def blocksPassed (b : Block) (next : Option Block) (total : Nat) : List Block :=
  (if 48 ≤ total then [b] else []) ++ if 96 ≤ total then next.toList else []

theorem completedAt_twoBlocks (b : Block) (next : Option Block) (m k : Nat) : completedAt (twoBlocks b next m k) =
    if m + k = 47 then some b else if m + k = 95 then next else none := by
  by_cases within : m + k < 48
  · rw [twoBlocks, if_pos within, if_neg (by omega : ¬m + k = 95)]
    rfl
  · have last : m + k - 48 = 47 ↔ m + k = 95 := by omega
    rw [twoBlocks, if_neg within, if_neg (by omega : ¬m + k = 47)]
    cases next with
    | none => rw [ite_self]; rfl
    | some c => exact if_congr last rfl rfl

theorem completedBy_twoBlocks (b : Block) (next : Option Block) {m : Nat} (hm : m < 48) (k : Nat) :
    completedBy (twoBlocks b next m) k = blocksPassed b next (m + k) := by
  induction k with
  | zero =>
    rw [blocksPassed, if_neg (by omega), if_neg (by omega)]
    rfl
  | succ k ih =>
    rw [completedBy_succ, ih, completedAt_twoBlocks, blocksPassed, blocksPassed]
    obtain first | second | other : m + k = 47 ∨ m + k = 95 ∨ (m + k ≠ 47 ∧ m + k ≠ 95) := by omega
    · rw [if_pos first, if_neg (by omega), if_neg (by omega), if_pos (by omega), if_neg (by omega)]
      rfl
    · rw [if_neg (by omega : ¬m + k = 47), if_pos second, if_pos (by omega), if_neg (by omega), if_pos (by omega), if_pos (by omega)]
      rfl
    · have same (n : Nat) (hn : n = 47 ∨ n = 95) : n + 1 ≤ m + (k + 1) ↔ n + 1 ≤ m + k := by omega
      rw [if_neg other.1, if_neg other.2, Option.toList_none, List.append_nil, if_congr (same 47 (.inl rfl)) rfl rfl,
        if_congr (same 95 (.inr rfl)) rfl rfl]

/-- A slip's draw takes 47 to 49 source positions, serves the first, and maps within the next 48. -/
theorem inBlock_bounds {slip : Slip} (h : slip.InBlock) : 47 ≤ slip.sources ∧ slip.sources ≤ 49 ∧
    slip.serves 0 = true ∧ ∀ n, n < 48 → slip.source n ≤ 48 := by
  cases slip with
  | steady => exact ⟨(by decide : 47 ≤ 48), (by decide : 48 ≤ 49), rfl, fun n hn => hn.le⟩
  | repeatAt p =>
    refine ⟨Nat.le_refl 47, (by decide : 47 ≤ 49), rfl, fun n hn => ?_⟩
    change (if n < p then n else n - 1) ≤ 48
    split <;> omega
  | dropAt p =>
    obtain ⟨hl, -⟩ := h
    refine ⟨(by decide : 47 ≤ 49), Nat.le_refl 49, decide_eq_true fun e => by injection e; omega, fun n hn => ?_⟩
    change (if n < p then n else n + 1) ≤ 48
    split <;> omega

/-- A draw that begins in a real block takes that block's arrival (R80). -/
theorem arrivalHeard_first {slip : Slip} (h : slip.InBlock) {src : Nat → Option (Block × Nat)} {b : Block} {n : Nat}
    (first : src 0 = some (b, n)) : arrivalHeard slip src = some b.arrival := by
  obtain ⟨least, -, serves, -⟩ := inBlock_bounds h
  obtain ⟨k, hk⟩ : ∃ k, slip.sources = k + 1 := ⟨slip.sources - 1, by omega⟩
  rw [arrivalHeard, Slip.servedBy, hk, List.range_succ_eq_map, List.filter_cons, if_pos serves, List.findSome?_cons, first]
  rfl

/-- The slips of R99 and R100 with their mapping. -/
theorem slip_mapping {slip : Slip} {p : Nat} {σ : Nat → Nat} (hl : 1 ≤ p) (hp : p ≤ 47)
    (h : slip = .steady ∧ σ = id ∨ (slip = .repeatAt p ∧ σ = fun n => if n < p then n else n - 1) ∨
      (slip = .dropAt p ∧ σ = fun n => if n < p then n else n + 1)) : slip.InBlock ∧ σ = slip.source := by
  obtain ⟨rfl, rfl⟩ | ⟨rfl, rfl⟩ | ⟨rfl, rfl⟩ := h
  · exact ⟨trivial, rfl⟩
  · exact ⟨⟨hl, hp⟩, rfl⟩
  · exact ⟨⟨hl, hp⟩, rfl⟩

theorem range_map_getD (f : Nat → Frame) {n : Nat} (h : n < 48) : ((List.range 48).map f).getD n [] = f n := by
  rw [List.getD_eq_getElem?_getD, List.getElem?_map, List.getElem?_range h]
  rfl

/-- The record when a draw that has served a real block has moved the state, `ends` telling whether it ends the stream (R80, R81). -/
def Stream.movedOn (x : Stream) (ends : Bool) : Stream :=
  { x with
    state := if ends then .ended else if x.state = .draining then .draining else .playing
    clock := if ends then x.clock.drop else x.clock }

/-- The notices of those moves (R80, R81). -/
def Stream.movePosts (x : Stream) (i : Fin 32) (hbc arrival : Word) (ends : Bool) : List Post :=
  (if x.state = .primed then [{ kind := .streamPlaying, subject := i.val, detail := sdiff hbc arrival }] else []) ++
    if ends then [{ kind := .streamEnded, subject := i.val, detail := (x.endSeq.getD 0).toInt }] else []

/-- The state moves after a draw that has served a real block in PRIMED, PLAYING or DRAINING (R80, R81). -/
theorem afterDraw_heard {x : Stream} (hs : x.state = .primed ∨ x.state = .playing ∨ x.state = .draining) {last : Int} (hl : 0 ≤ last)
    {qs : List Word} {ends : Bool} (he : ends = true ↔ x.state = .draining ∧ ∃ e, x.endSeq = some e ∧ e ∈ qs) (i : Fin 32)
    (hbc arrival : Word) : x.afterDraw i hbc last qs (some arrival) = (x.movedOn ends, x.movePosts i hbc arrival ends) := by
  have notEnding (h : x.state ≠ .draining) : ends = false := Bool.eq_false_iff.mpr fun e => h (he.mp e).1
  obtain primed | playing | draining := hs
  · simp only [Stream.movedOn, Stream.movePosts, Stream.afterDraw, primed, if_pos hl, notEnding (by rw [primed]; nofun),
      Bool.false_eq_true, if_false, reduceCtorEq, if_true, List.append_nil]
  · have still : x.state = .playing := playing
    simp only [Stream.movedOn, Stream.movePosts, Stream.afterDraw, playing, notEnding (by rw [playing]; nofun),
      Bool.false_eq_true, if_false, reduceCtorEq, List.append_nil]
    rw [← still]
  · have reached : x.endSeq.any qs.contains = ends := by
      rw [Bool.eq_iff_iff, he, Option.any_eq_true]
      simp only [draining, true_and, List.contains_iff_mem]
    simp only [Stream.movedOn, Stream.movePosts, Stream.afterDraw, draining, reached, reduceCtorEq, if_false, if_true, List.nil_append]
    cases ends with
    | true => rfl
    | false =>
      simp only [Bool.false_eq_true, if_false]
      rw [← draining]

/-! ## A draw from within a real block (R77 to R81) -/

/-- The block at E_play is in its slot, and what follows it is the next block in its slot, or silence beyond the end sequence. -/
structure Stream.StandsAt (x : Stream) (pos : Nat) (b : Block) (next : Option Block) : Prop where
  origin : ∃ seq0 st0, x.origin = some (seq0, st0) ∧ b.seq = seq0 + BitVec.ofNat 32 (pos / 48)
  ePlay : x.ePlay = some b.seq
  servedTo : x.servedTo = none
  slot : x.slotAt b.seq = .filled b
  within : ∀ z, x.endSeq = some z → sdiff b.seq z ≤ 0
  follows : ∀ c, next = some c → x.slotAt c.seq = .filled c ∧ c.seq = b.seq + 1 ∧ ∀ z, x.endSeq = some z → sdiff c.seq z ≤ 0
  ended : next = none → ∃ z, x.endSeq = some z ∧ 0 < sdiff (b.seq + 1) z
  deep : 0 < x.depth
  sized : x.ring.length = x.depth

theorem standsAt_hears {x : Stream} {pos : Nat} {b : Block} {next : Option Block} (h : x.StandsAt pos b next) {count : Nat}
    (hc : count ≤ 49) : x.Hears pos count (twoBlocks b next (pos % 48)) := by
  obtain ⟨seq0, st0, ho, hq⟩ := h.origin
  have first (k : Nat) (hk : pos % 48 + k < 48) : x.place ((pos : Int) + k) = some (b.seq, pos % 48 + k) := by
    have block : (pos + k) / 48 = pos / 48 := by omega
    have index : (pos + k) % 48 = pos % 48 + k := by omega
    rw [← index, ← Int.natCast_add]
    refine (place_from_origin ho h.ePlay (by rw [hq, block])).2 ?_
    rintro (⟨z, hz, past⟩ | below | ⟨u, hu, -⟩)
    · exact absurd past (not_lt.mpr (h.within z hz))
    · simp [sdiff] at below
    · exact nomatch h.servedTo.symm.trans hu
  have second (k : Nat) (hk : ¬pos % 48 + k < 48) (hk' : k < count) : b.seq + 1 = seq0 + BitVec.ofNat 32 ((pos + k) / 48) ∧
      (pos + k) % 48 = pos % 48 + k - 48 := by
    have block : (pos + k) / 48 = pos / 48 + 1 := by omega
    refine ⟨?_, by omega⟩
    rw [block, hq, BitVec.ofNat_add, add_assoc]
    rfl
  refine ⟨fun k hk silent => ?_, fun k c n hk real => ?_, h.deep, h.sized⟩
  · unfold twoBlocks at silent
    split at silent
    · cases silent
    · next beyond =>
      obtain ⟨seq, -⟩ := second k beyond hk
      rw [← Int.natCast_add]
      exact (place_from_origin ho h.ePlay seq).1 (.inl (h.ended (Option.map_eq_none_iff.mp silent)))
  · unfold twoBlocks at real
    split at real
    · next within =>
      cases real
      exact ⟨first k within, h.slot⟩
    · next beyond =>
      obtain ⟨d, hd, e⟩ := Option.map_eq_some_iff.mp real
      cases e
      obtain ⟨slot, seq, within⟩ := h.follows c hd
      obtain ⟨own, index⟩ := second k beyond hk
      refine ⟨?_, slot⟩
      rw [← index, ← Int.natCast_add, seq]
      refine (place_from_origin ho h.ePlay own).2 ?_
      rintro (⟨z, hz, past⟩ | below | ⟨u, hu, -⟩)
      · exact absurd past (not_lt.mpr (seq ▸ within z hz))
      · simp [sdiff] at below
      · exact nomatch h.servedTo.symm.trans hu

theorem standsAt_first {x : Stream} {pos : Nat} {b : Block} {next : Option Block} (h : x.StandsAt pos b next) :
    x.firstSlot pos = .real b.cue := by
  have hears := standsAt_hears h (count := 1) (by decide)
  have first : twoBlocks b next (pos % 48) 0 = some (b, pos % 48) := if_pos (by omega)
  have place := (hears.real 0 b _ (by decide) first).1
  rw [Int.natCast_zero, Int.add_zero] at place
  exact (firstSlot_at place).1 b h.slot rfl

/-- The draw of a stream from within a real block, `ends` telling whether it completes the end block of a DRAINING stream. -/
theorem draw_standsAt {x : Stream} {pos : Nat} {b : Block} {next : Option Block} (h : x.StandsAt pos b next) (calm : x.Calm)
    {ctx : DrawContext} (inBlock : ctx.slip.InBlock) (unfaded : ctx.fade = false)
    (hs : x.state = .primed ∨ x.state = .playing ∨ x.state = .draining) (i : Fin 32) {bs : List Block}
    (done : blocksPassed b next (pos % 48 + ctx.slip.sources) = bs) {ends : Bool}
    (he : ends = true ↔ x.state = .draining ∧ ∃ e, x.endSeq = some e ∧ e ∈ bs.map (·.seq)) :
    ∃ ring run, (∀ c ∈ bs, ((x.drawnPast ring run bs).movedOn ends).slotAt c.seq = .empty) ∧
      x.draw ctx i pos =
        ((((x.drawnPast ring run bs).movedOn ends).headroomTest i ctx.warning (pos + ctx.slip.sources)).1,
          { frames := (List.range 48).map fun n => x.heardFrame (twoBlocks b next (pos % 48) (ctx.slip.source n)), first := .real b.cue },
          x.movePosts i ctx.hbc b.arrival ends ++
            (((x.drawnPast ring run bs).movedOn ends).headroomTest i ctx.warning (pos + ctx.slip.sources)).2) := by
  obtain ⟨least, most, -, -⟩ := inBlock_bounds inBlock
  have completed := (completedBy_twoBlocks b next (m := pos % 48) (by omega) ctx.slip.sources).trans done
  obtain ⟨ring, run, empty, drawn⟩ := draw_heard (standsAt_hears h most) calm inBlock unfaded h.servedTo i completed
  have arrival : arrivalHeard ctx.slip (twoBlocks b next (pos % 48)) = some b.arrival :=
    arrivalHeard_first inBlock (if_pos (by omega))
  have moves := afterDraw_heard (x := x.drawnPast ring run bs) hs (last := (pos : Int) + ctx.slip.sources - 1) (by omega) he i ctx.hbc
    b.arrival
  rw [arrival, standsAt_first h] at drawn
  exact ⟨ring, run, empty, drawn _ moves⟩

end Sys2Proof.Machine
end

section
/-! SUPPORT. A draw before the origin and across it (R80), the headroom (R82, R83); and O40. -/

namespace Sys2Proof.Machine

/-! ## Before the origin and across it (R78, R80) -/

theorem place_before_origin (x : Stream) {pos : Int} (h : pos < 0) : x.place pos = none := by
  simp only [Stream.place, if_pos h]

/-- A stream in PRIMED whose draw ends before its origin stands as it is, and is silent. -/
theorem draw_before_origin {x : Stream} (primed : x.state = .primed) (ht : x.servedTo = none) {ctx : DrawContext}
    (steady : ctx.slip = .steady) (unfaded : ctx.fade = false) (i : Fin 32) {pos : Int} (before : pos + 48 ≤ 0) :
    x.draw ctx i pos = (x, { frames := List.replicate 48 x.silence, first := .beforeOrigin }, []) := by
  have through (k : Nat) (hk : k ≤ 48) : (List.range k).foldl (DrawAcc.step ctx i pos) (.silent x []) =
      .silent x (List.replicate k x.silence) := by
    induction k with
    | zero => rfl
    | succ k ih =>
      have serves : ctx.slip ≠ .dropAt k := by rw [steady]; nofun
      rw [List.range_succ, List.foldl_append, ih (by omega), List.foldl_cons, List.foldl_nil,
        silent_step _ (place_before_origin x (by omega)), if_neg serves, List.replicate_succ']
  have visited : x.visit ctx i pos = .silent x (List.replicate 48 x.silence) := by
    rw [← through 48 le_rfl, Stream.visit, steady]
    rfl
  have first : x.firstSlot pos = .beforeOrigin := by
    rw [Stream.firstSlot, if_pos (by omega), if_neg (by rw [primed]; nofun)]
  have stays (last : Int) (hl : last < 0) (arrival : Option Word) : x.afterDraw i ctx.hbc last [] arrival = (x, []) := by
    simp only [Stream.afterDraw, primed, if_neg (not_le.mpr hl)]
  have untested (w : Nat) (next : Int) : x.headroomTest i w next = (x, []) := by simp only [Stream.headroomTest, primed]
  have last : pos + ((Slip.steady.sources : Nat) : Int) - 1 < 0 := by
    rw [show Slip.steady.sources = 48 from rfl]; omega
  simp only [Stream.draw, visited, DrawAcc.silent, Stream.release, List.foldl_nil, steady, stays _ last, clearServedTo_absent ht, untested,
    unfaded, first]
  rfl

/-- What a draw from m positions before the origin hears: silence, and then the first block. -/
def acrossOrigin (b : Block) (m k : Nat) : Option (Block × Nat) := if k < m then none else some (b, k - m)

theorem acrossOrigin_hears {x : Stream} {seq0 st0 : Word} {b : Block} {m : Nat} (hm : 1 ≤ m) (ho : x.origin = some (seq0, st0))
    (he : x.ePlay = some seq0) (ht : x.servedTo = none) (hend : x.endSeq = none) (slot : x.slotAt seq0 = .filled b) (hb : b.seq = seq0)
    (deep : 0 < x.depth) (sized : x.ring.length = x.depth) : x.Hears (-(m : Int)) 48 (acrossOrigin b m) := by
  refine ⟨fun k hk silent => ?_, fun k c n hk real => ?_, deep, sized⟩
  · unfold acrossOrigin at silent
    split at silent
    · exact place_before_origin x (by omega)
    · cases silent
  · unfold acrossOrigin at real
    split at real
    · cases real
    · next heard =>
      cases real
      have place := place_in_block (k := 0) (n := k - m) ho (by simp) he ht (by rw [hend]; nofun) (by omega)
      rw [show -(m : Int) + k = ((48 * 0 : Nat) : Int) + ((k - m : Nat) : Int) by omega, place, hb]
      exact ⟨rfl, slot⟩

theorem acrossOrigin_done (b : Block) {m : Nat} (hm : 1 ≤ m) : completedBy (acrossOrigin b m) 48 = [] := by
  refine List.filterMap_eq_nil_iff.mpr fun k hk => ?_
  have := List.mem_range.mp hk
  unfold acrossOrigin
  split
  · rfl
  · exact if_neg (by omega)

theorem acrossOrigin_arrival (b : Block) {m : Nat} (hm : m ≤ 47) : arrivalHeard .steady (acrossOrigin b m) = some b.arrival := by
  refine List.findSome?_eq_some_iff.mpr ⟨List.range' 0 m, m, List.range' (m + 1) (47 - m), ?_, ?_, fun k hk => ?_⟩
  · have whole : 48 = m + (47 - m + 1) := by omega
    have rest := List.range'_append_1 (s := 0) (m := m) (n := 47 - m + 1)
    rw [Nat.zero_add, List.range'_succ, ← whole] at rest
    exact List.range_eq_range'.trans rest.symm
  · rw [acrossOrigin, if_neg (lt_irrefl m)]
    rfl
  · rw [acrossOrigin, if_pos (by simpa using hk)]
    rfl

/-- A stream in PRIMED whose draw crosses its origin plays from exactly its first sample (R80). -/
theorem draw_across_origin {x : Stream} (primed : x.state = .primed) (calm : x.Calm) {ctx : DrawContext} (steady : ctx.slip = .steady)
    (unfaded : ctx.fade = false) (ht : x.servedTo = none) (hend : x.endSeq = none) (i : Fin 32) {b : Block} {m : Nat} (hm : 1 ≤ m)
    (hm' : m ≤ 47) (hears : x.Hears (-(m : Int)) 48 (acrossOrigin b m)) (quiet : ctx.warning = 0) (armed : x.headroomArmed = true) :
    (x.draw ctx i (-(m : Int))).1.state = .playing ∧
    (x.draw ctx i (-(m : Int))).2.2 = [{ kind := .streamPlaying, subject := i.val, detail := sdiff ctx.hbc b.arrival }] ∧
    ∀ n, n < 48 → (x.draw ctx i (-(m : Int))).2.1.frames.getD n [] =
      if n < m then List.replicate x.channels 0 else b.samples.getD (n - m) x.silence := by
  have sources : ctx.slip.sources = 48 := by rw [steady]; rfl
  have inBlock : ctx.slip.InBlock := by rw [steady]; exact trivial
  have done : completedBy (acrossOrigin b m) ctx.slip.sources = [] := by rw [sources]; exact acrossOrigin_done b hm
  have arrival : arrivalHeard ctx.slip (acrossOrigin b m) = some b.arrival := by rw [steady]; exact acrossOrigin_arrival b hm'
  have reached : 0 ≤ -(m : Int) + ctx.slip.sources - 1 := by omega
  have notEnding : false = true ↔ x.state = .draining ∧ ∃ e, x.endSeq = some e ∧ e ∈ ([] : List Block).map (·.seq) := by
    simp only [Bool.false_eq_true, hend, reduceCtorEq, false_and, exists_false, and_false]
  obtain ⟨ring, run, -, drawn⟩ := draw_heard (by rw [sources]; exact hears) calm inBlock unfaded ht i done
  have moves := afterDraw_heard (x := x.drawnPast ring run []) (.inl primed) reached notEnding i ctx.hbc b.arrival
  rw [arrival] at drawn
  rw [drawn _ moves, quiet, headroomTest_off (x := (x.drawnPast ring run []).movedOn false) armed]
  refine ⟨?_, ?_, fun n hn => ?_⟩
  · rw [Stream.movedOn, show (x.drawnPast ring run []).state = .primed from primed]
    rfl
  · rw [Stream.movePosts, if_pos (show (x.drawnPast ring run []).state = .primed from primed)]
    rfl
  · rw [range_map_getD _ hn, steady, Slip.source, acrossOrigin]
    split
    · rfl
    · rfl

/-! ## The headroom (R82, R83) -/

/-- The run of FILLED slots from a sequence on, as far as it is looked for (R82). -/
theorem filledRun_eq {x : Stream} {q : Word} {run fuel : Nat} (hr : run ≤ fuel)
    (filled : ∀ j, j < run → ∃ b, x.slotAt (q + BitVec.ofNat 32 j) = .filled b ∧ b.seq = q + BitVec.ofNat 32 j)
    (stop : ¬∃ b, x.slotAt (q + BitVec.ofNat 32 run) = .filled b ∧ b.seq = q + BitVec.ofNat 32 run) : x.filledRun q fuel = run := by
  induction run generalizing q fuel with
  | zero =>
    cases fuel with
    | zero => rfl
    | succ fuel =>
      rw [BitVec.add_zero] at stop
      rw [Stream.filledRun, if_neg (mt (isFilled_iff _ q).mp stop)]
  | succ run ih =>
    obtain ⟨fuel, rfl⟩ := Nat.exists_eq_succ_of_ne_zero (by omega : fuel ≠ 0)
    have next (j : Nat) : q + 1 + BitVec.ofNat 32 j = q + BitVec.ofNat 32 (j + 1) := by
      rw [add_assoc, add_comm (1 : Word), BitVec.ofNat_add j]
      rfl
    have first := filled 0 (by omega)
    rw [BitVec.add_zero] at first
    rw [Stream.filledRun, if_pos ((isFilled_iff _ q).mpr first), ih (by omega) (fun j hj => ?_) (by rw [next]; exact stop)]
    rw [next]
    exact filled (j + 1) (by omega)

/-- The LOW_HEADROOM test, case by case (R83). -/
theorem headroomTest_playing {x : Stream} (playing : x.state = .playing) (i : Fin 32) (w : Nat) (next : Int) :
    x.headroomTest i w next =
      if 0 < w ∧ x.headroomArmed = true ∧ x.headroom next < w * 48 then
        ({ x with headroomArmed := false }, [{ kind := .lowHeadroom, subject := i.val, detail := x.headroom next }])
      else if x.headroomArmed = false ∧ (w + 2 : Int) * 48 ≤ x.headroom next then ({ x with headroomArmed := true }, [])
      else (x, []) := by
  simp only [Stream.headroomTest, playing]

theorem headroomTest_not_playing {x : Stream} (h : x.state ≠ .playing) (i : Fin 32) (w : Nat) (next : Int) :
    x.headroomTest i w next = (x, []) := by
  unfold Stream.headroomTest
  split
  · next e => exact absurd e h
  · rfl

/-! ## Every clause of O40 -/

/-- What the indices of two blocks, or of one, leave behind when `total` of them are passed (R79, R108). -/
theorem blocksPassed_two {b c : Block} (hc : c.seq = b.seq + 1) {total : Nat} (ht : total ≤ 96) :
    ((blocksPassed b (some c) total).getLast?.map (·.seq + 1)).or (some b.seq) = some (b.seq + BitVec.ofNat 32 (total / 48)) ∧
    (48 ≤ total → b ∈ blocksPassed b (some c) total ∧
      (blocksPassed b (some c) total).getLast?.map (·.seq) = some (b.seq + BitVec.ofNat 32 (total / 48 - 1))) ∧
    ∀ e, e ∈ (blocksPassed b (some c) total).map (·.seq) ↔ (48 ≤ total ∧ e = b.seq) ∨ (96 ≤ total ∧ e = b.seq + 1) := by
  obtain short | ⟨first, short⟩ | both : total < 48 ∨ (48 ≤ total ∧ total < 96) ∨ total = 96 := by omega
  · have count : total / 48 = 0 := by omega
    rw [blocksPassed, if_neg (by omega), if_neg (by omega), count]
    refine ⟨by simp, fun h => absurd h (by omega), fun e => ?_⟩
    simp only [List.append_nil, List.map_nil, List.not_mem_nil, false_iff]
    omega
  · have count : total / 48 = 1 := by omega
    rw [blocksPassed, if_pos first, if_neg (by omega), count]
    refine ⟨rfl, fun _ => ⟨List.mem_singleton.mpr rfl, by simp⟩, fun e => ?_⟩
    simp [first, not_le.mpr short]
  · subst both
    refine ⟨?_, fun _ => ⟨List.mem_cons_self, ?_⟩, fun e => ?_⟩
    · show some (c.seq + 1) = _
      rw [hc, add_assoc]
      rfl
    · show some c.seq = _
      rw [hc]
      rfl
    · simp [blocksPassed, hc]

theorem twoBlocks_frame (x : Stream) (b c : Block) {m k : Nat} (hm : m < 48) (hk : k ≤ 48) :
    x.heardFrame (twoBlocks b (some c) m k) =
      (if m + k < 48 then b.samples else c.samples).getD ((m + k) % 48) x.silence := by
  by_cases within : m + k < 48
  · have index : (m + k) % 48 = m + k := Nat.mod_eq_of_lt within
    rw [twoBlocks, if_pos within, if_pos within, index]
    rfl
  · have index : (m + k) % 48 = m + k - 48 := by omega
    rw [twoBlocks, if_neg within, if_neg within, index]
    rfl

theorem lastBlock_frame (x : Stream) (b : Block) (m k : Nat) : x.heardFrame (twoBlocks b none m k) =
    if m + k < 48 then b.samples.getD (m + k) x.silence else List.replicate x.channels 0 := by
  unfold twoBlocks
  split
  · rfl
  · rfl

theorem sdiff_next (q : Word) : sdiff (q + 1) q = 1 := by simp [sdiff]

/-- What supplies a stream that goes on from one real block to the next (R78). -/
theorem standsAt_two {x : Stream} {pos : Nat} {seq0 st0 : Word} {b c : Block} (ho : x.origin = some (seq0, st0))
    (hq : b.seq = seq0 + BitVec.ofNat 32 (pos / 48)) (he : x.ePlay = some b.seq) (ht : x.servedTo = none)
    (hend : ∀ z, x.endSeq = some z → sdiff b.seq z ≤ 0 ∧ sdiff (b.seq + 1) z ≤ 0) (slot : x.slotAt b.seq = .filled b)
    (next : x.slotAt (b.seq + 1) = .filled c) (hc : c.seq = b.seq + 1) (deep : 0 < x.depth) (sized : x.ring.length = x.depth) :
    x.StandsAt pos b (some c) where
  origin := ⟨seq0, st0, ho, hq⟩
  ePlay := he
  servedTo := ht
  slot := slot
  within z hz := (hend z hz).1
  follows := by
    rintro _ ⟨⟩
    exact ⟨hc ▸ next, hc, fun z hz => hc ▸ (hend z hz).2⟩
  ended := nofun
  deep := deep
  sized := sized

/-- What supplies a stream at its end block (R78). -/
theorem standsAt_end {x : Stream} {pos : Nat} {seq0 st0 : Word} {b : Block} (ho : x.origin = some (seq0, st0))
    (hq : b.seq = seq0 + BitVec.ofNat 32 (pos / 48)) (he : x.ePlay = some b.seq) (ht : x.servedTo = none)
    (hend : x.endSeq = some b.seq) (slot : x.slotAt b.seq = .filled b) (deep : 0 < x.depth) (sized : x.ring.length = x.depth) :
    x.StandsAt pos b none where
  origin := ⟨seq0, st0, ho, hq⟩
  ePlay := he
  servedTo := ht
  slot := slot
  within z hz := by
    cases hend.symm.trans hz
    simp [sdiff]
  follows := nofun
  ended _ := ⟨b.seq, hend, by rw [sdiff_next]; decide⟩
  deep := deep
  sized := sized

/-- Of two blocks only the second can be the end block of a stream that goes on to it (R81). -/
theorem ending_two_iff {b c : Block} {endSeq : Option Word} {total : Nat}
    (seqs : ∀ e, e ∈ (blocksPassed b (some c) total).map (·.seq) ↔ (48 ≤ total ∧ e = b.seq) ∨ (96 ≤ total ∧ e = b.seq + 1))
    (hend : ∀ z, endSeq = some z → sdiff b.seq z ≤ 0 ∧ sdiff (b.seq + 1) z ≤ 0) {state : StreamState} :
    (decide (state = .draining ∧ endSeq = some (b.seq + 1)) && decide (96 ≤ total)) = true ↔
      state = .draining ∧ ∃ e, endSeq = some e ∧ e ∈ (blocksPassed b (some c) total).map (·.seq) := by
  simp only [Bool.and_eq_true, decide_eq_true_eq, seqs]
  refine ⟨fun ⟨⟨draining, last⟩, reached⟩ => ⟨draining, _, last, .inr ⟨reached, rfl⟩⟩, ?_⟩
  rintro ⟨draining, e, last, ⟨-, rfl⟩ | ⟨reached, rfl⟩⟩
  · have behind := (hend _ last).2
    rw [sdiff_next] at behind
    omega
  · exact ⟨⟨draining, last⟩, reached⟩

theorem ending_last_iff {b : Block} {endSeq : Option Word} {total : Nat} {state : StreamState} (draining : state = .draining)
    (hend : endSeq = some b.seq) : 48 ≤ total ↔
      state = .draining ∧ ∃ e, endSeq = some e ∧ e ∈ (if 48 ≤ total then [b] else []).map (·.seq) := by
  refine ⟨fun far => ⟨draining, _, hend, by rw [if_pos far]; exact List.mem_singleton.mpr rfl⟩, ?_⟩
  rintro ⟨-, e, -, listed⟩
  by_contra near
  rw [if_neg near] at listed
  cases listed

/-- The slots of the run that the headroom counts (R82). -/
theorem readyRun_eq {x : Stream} {e : Word} {run : Nat} (he : x.ePlay = some e) (found : x.filledRun e x.depth = run) :
    x.readyRun = x.endSeq.elim run fun q => min run (sdiff q e + 1).toNat := by
  simp only [Stream.readyRun, he, Option.getD_some, found]
  cases x.endSeq <;> rfl

/-- Settles O40: a draw within real blocks and one into the end block, the two draws of PRIMED by the origin, and the headroom. -/
theorem realSamplesFollowTheSlipMapping : Obligations.RealSamplesFollowTheSlipMapping := by
  refine ⟨?_, ?_, ?_, ?_, ?_, ?_⟩
  · rintro x y ctx i pos p σ seq0 st0 q b0 b1 ends hp hp' hslip hfade hstate ho hq he hend hends ht hdue hfadeIn hd hl slot0 rfl
      slot1 seq1 hy
    obtain ⟨inBlock, rfl⟩ := slip_mapping hp hp' hslip
    obtain ⟨least, most, -, sourced⟩ := inBlock_bounds inBlock
    have deep : 0 < x.depth := by
      simp only [List.mem_cons, List.not_mem_nil, or_false] at hd
      omega
    have calm : x.Calm := ⟨by rcases hstate with e | e | e <;> rw [e] <;> nofun, hdue, hfadeIn⟩
    obtain ⟨ePlay, passed, seqs⟩ := blocksPassed_two seq1 (total := pos % 48 + ctx.slip.sources) (by omega)
    have ending := ending_two_iff (state := x.state) seqs hend
    rw [← hends] at ending
    have last : ends = true → x.endSeq = some (b0.seq + 1) := by
      rw [hends, Bool.and_eq_true, decide_eq_true_eq]
      exact fun h => h.1.2
    obtain ⟨ring, run, empty, drawn⟩ := draw_standsAt (standsAt_two ho hq he ht hend slot0 slot1 seq1 deep hl) calm inBlock hfade
      hstate i rfl ending
    obtain ⟨z, hz⟩ : ∃ z, z = (x.drawnPast ring run (blocksPassed b0 (some b1) (pos % 48 + ctx.slip.sources))).movedOn ends :=
      ⟨_, rfl⟩
    rw [← hz] at empty drawn
    obtain ⟨armed, tested⟩ := headroomTest_leaves z i ctx.warning (pos + ctx.slip.sources)
    have same : y = z := by rw [hy, drawn, tested, hz]; rfl
    rw [drawn, same]
    refine ⟨fun n hn => ?_, by simp only [List.length_map, List.length_range], rfl, ?_, ?_, ?_, ?_, fun h => ⟨?_, ?_⟩, rfl, ?_⟩
    · rw [range_map_getD _ hn]
      exact twoBlocks_frame x b0 b1 (Nat.mod_lt pos (by decide)) (sourced n hn)
    · rw [tested, hz]
      exact (congrArg _ he).trans ePlay
    · rw [tested, hz]; rfl
    · rw [tested, hz]; rfl
    · rw [tested, hz]; rfl
    · rw [tested]
      exact empty b0 (passed h).1
    · obtain ⟨c, last, seq⟩ := Option.map_eq_some_iff.mp (passed h).2
      rw [tested, hz, ← seq]
      simp only [Stream.movedOn, Stream.drawnPast, Stream.past, Conceal.past, last, Option.map_some, Option.some_or]
      rfl
    · rw [Stream.movePosts]
      cases ends with
      | false => simp only [Bool.false_eq_true, if_false]
      | true => rw [last rfl, Option.getD_some]
  · rintro x k seq0 st0 e q silent ho he hq rfl
    exact place_from_origin ho he hq
  · rintro x ctx i pos p σ seq0 st0 q b d rfl hp hp' hslip hfade draining hend ho hq he ht hdue hfadeIn hd hl slot rfl
    obtain ⟨inBlock, rfl⟩ := slip_mapping hp hp' hslip
    have calm : x.Calm := ⟨by rw [draining]; nofun, hdue, hfadeIn⟩
    have passed : blocksPassed b none (pos % 48 + ctx.slip.sources) = if 48 ≤ pos % 48 + ctx.slip.sources then [b] else [] := by
      rw [blocksPassed, Option.toList_none, ite_self, List.append_nil]
    obtain ⟨ends, reached⟩ : ∃ ends : Bool, ends = true ↔ 48 ≤ pos % 48 + ctx.slip.sources :=
      ⟨decide _, decide_eq_true_iff⟩
    have ending := reached.trans (ending_last_iff draining hend)
    obtain ⟨ring, run, empty, drawn⟩ := draw_standsAt (standsAt_end ho hq he ht hend slot hd hl) calm inBlock hfade
      (.inr (.inr draining)) i passed ending
    have state (bs : List Block) : ((x.drawnPast ring run bs).movedOn ends).state = if ends then .ended else .draining := by
      rw [Stream.movedOn, if_pos (show (x.drawnPast ring run bs).state = .draining from draining)]
    have untested := headroomTest_not_playing
      (x := (x.drawnPast ring run (if 48 ≤ pos % 48 + ctx.slip.sources then [b] else [])).movedOn ends)
      (by rw [state]; cases ends <;> nofun) i ctx.warning (pos + ctx.slip.sources)
    have posts : x.movePosts i ctx.hbc b.arrival ends =
        if ends then [{ kind := .streamEnded, subject := i.val, detail := b.seq.toInt }] else [] := by
      rw [Stream.movePosts, if_neg (by rw [draining]; nofun), hend]
      rfl
    rw [drawn, untested, posts, List.append_nil]
    refine ⟨fun n hn => ?_, by simp only [List.length_map, List.length_range], rfl, rfl, rfl, hend, fun far => ?_, fun near => ?_⟩
    · rw [range_map_getD _ hn]
      exact lastBlock_frame x b _ _
    · obtain rfl : ends = true := reached.mpr far
      simp only [if_pos far] at empty ⊢
      exact ⟨rfl, rfl, rfl, empty b (List.mem_singleton.mpr rfl), rfl, rfl⟩
    · obtain rfl : ends = false := Bool.eq_false_iff.mpr fun e => absurd (reached.mp e) (not_le.mpr near)
      rw [if_neg (not_le.mpr near)]
      exact ⟨state [], rfl, he, rfl⟩
  · intro x ctx i pos primed ht steady hfade
    refine ⟨fun before => ?_, ?_⟩
    · rw [draw_before_origin primed ht steady hfade i before]
      refine ⟨rfl, rfl, rfl, fun n hn => ?_⟩
      rw [List.getD_eq_getElem?_getD, List.getElem?_replicate_of_lt hn]
      rfl
    · rintro seq0 st0 b m rfl hm hm' ho he hend slot hb hdue hfadeIn quiet armed hl deep
      exact draw_across_origin primed ⟨by rw [primed]; nofun, hdue, hfadeIn⟩ steady hfade ht hend i hm hm'
        (acrossOrigin_hears hm ho he ht hend slot hb deep hl) quiet armed
  · rintro x next seq0 st0 e run ready ho he hr filled stop hready
    have counted : x.readyRun = ready := by
      rw [readyRun_eq he (filledRun_eq hr filled stop), hready]
      cases x.endSeq <;> rfl
    simp only [Stream.headroom, counted, he, ho, Option.getD_some]
  · intro x i w next
    refine ⟨fun h => headroomTest_not_playing h i w next, fun playing =>
      ⟨fun hw armed low => ?_, fun armed high => ?_, fun off => ?_⟩⟩
    · rw [headroomTest_playing playing, if_pos ⟨hw, armed, low⟩]
    · rw [headroomTest_playing playing, if_neg (by rintro ⟨hw, -, low⟩; omega), if_neg (by rw [armed]; nofun)]
    · rw [headroomTest_playing playing, if_neg (by rw [off]; nofun)]
      by_cases high : ((w : Int) + 2) * 48 ≤ x.headroom next
      · rw [if_pos ⟨off, high⟩, if_pos high]
      · rw [if_neg fun h => high h.2, if_neg high]

end Sys2Proof.Machine
end

section
/-! SUPPORT. The draws that a boundary makes, looked up by stream (R54, R77), and what the Signal Router makes of them (R152, R154, R155,
R158, R159); and O51. -/

namespace Sys2Proof.Machine

/-! ## The draw of one stream among those of a boundary -/

/-- The entry of a stream in a list of draws. -/
def drawEntry (i : Fin 32) (ds : List (Fin 32 × Drawn)) : Option (Fin 32 × Drawn) := ds.find? (·.1 == i)

theorem drawOf_eq (a : BoundaryAudio) (i : Fin 32) : a.drawOf i = (drawEntry i a.draws).map (·.2) := rfl

theorem drawEntry_append (i : Fin 32) (ds es : List (Fin 32 × Drawn)) :
    drawEntry i (ds ++ es) = (drawEntry i ds).or (drawEntry i es) := List.find?_append

theorem drawEntry_self (i : Fin 32) (d : Drawn) : drawEntry i [(i, d)] = some (i, d) := by simp [drawEntry]

/-- The draws after a member's turn: its own is added when its state says so (R54, R77). -/
theorem drawMember_draws (ctx : DrawContext) (q : Word) (a : State × List (Fin 32 × Drawn)) (j : Fin 32) :
    (drawMember ctx q a j).2 = a.2 ++
      if (a.1.stream j).state.drawn then [(j, ((a.1.stream j).draw ctx j ((a.1.stream j).offsetAt ctx.hbc q)).2.1)] else [] := by
  unfold drawMember
  dsimp only
  split
  · rfl
  · exact (List.append_nil _).symm

theorem drawMember_entry_ne (ctx : DrawContext) (q : Word) (a : State × List (Fin 32 × Drawn)) {i j : Fin 32} (h : j ≠ i) :
    drawEntry i (drawMember ctx q a j).2 = drawEntry i a.2 := by
  rw [drawMember_draws, drawEntry_append]
  split <;> simp [drawEntry, h]

theorem drawMembers_entry_notin (ctx : DrawContext) (q : Word) {is : List (Fin 32)} {i : Fin 32} (h : i ∉ is)
    (a : State × List (Fin 32 × Drawn)) : drawEntry i (is.foldl (drawMember ctx q) a).2 = drawEntry i a.2 :=
  foldl_rel (R := fun a b : State × List (Fin 32 × Drawn) => drawEntry i b.2 = drawEntry i a.2) (fun _ => rfl) (fun e f => f.trans e)
    (fun a _ hk => drawMember_entry_ne ctx q a fun e => h (e ▸ hk)) a

/-- The draw of a member in stage 2 of its group (R54, R77). -/
theorem drawGroup_entry {s : State} {g : Fin 16} {i : Fin 32} (hi : i ∈ (s.group g).members) (once : (s.group g).members.Nodup) :
    drawEntry i (s.drawGroup g).2 =
      if (s.stream i).state.drawn then some (i, ((s.group g).drawOf s.clock.hbc i (s.stream i)).2.1) else none := by
  unfold State.drawGroup Group.drawOf
  dsimp only
  obtain ⟨before, after, hbefore, hafter, turn⟩ :=
    foldl_at_turn hi once (drawMember ((s.group g).drawContext s.clock.hbc) ((s.group g).q.getD 0)) (s, [])
  rw [turn, drawMembers_entry_notin _ _ hafter, drawMember_draws, drawEntry_append, drawMembers_stream_notin _ _ hbefore,
    drawMembers_entry_notin _ _ hbefore]
  split
  · exact drawEntry_self i _
  · rfl

/-! ## Through the groups -/

/-- A group draws its members when it is ANCHORED (R54). -/
theorem groupBoundary_draws (s : State) (g : Fin 16) :
    (s.groupBoundary g).2 = if (s.group g).anchored then (s.drawGroup g).2 else [] := by
  unfold State.groupBoundary
  dsimp only
  split
  · rfl
  · rfl

theorem groupBoundary_entry_notin {s : State} {g : Fin 16} {i : Fin 32} (h : i ∉ (s.group g).members) :
    drawEntry i (s.groupBoundary g).2 = none := by
  rw [groupBoundary_draws]
  split
  · exact drawMembers_entry_notin _ _ h (s, [])
  · rfl

theorem groupBoundary_entry {s : State} {g : Fin 16} {i : Fin 32} (hi : i ∈ (s.group g).members) (once : (s.group g).members.Nodup) :
    drawEntry i (s.groupBoundary g).2 = if (s.stream i).state.drawn = true ∧ (s.group g).anchored = true then
      some (i, ((s.group g).drawOf s.clock.hbc i (s.stream i)).2.1) else none := by
  rw [groupBoundary_draws]
  by_cases ha : (s.group g).anchored = true
  · simp only [ha, if_true, and_true, drawGroup_entry hi once]
  · rw [if_neg ha, if_neg fun h => ha h.2]
    rfl

/-- One group's turn at a boundary: its work, and its draws after those of the groups before it. -/
def groupTurn (a : State × List (Fin 32 × Drawn)) (g : Fin 16) : State × List (Fin 32 × Drawn) :=
  ((a.1.groupBoundary g).1, a.2 ++ (a.1.groupBoundary g).2)

theorem groupsBoundary_turns (s : State) : s.groupsBoundary = (List.finRange 16).foldl groupTurn (s, []) := rfl

theorem groupTurns_state (gs : List (Fin 16)) (a : State × List (Fin 32 × Drawn)) :
    (gs.foldl groupTurn a).1 = a.1.throughGroups gs := (List.foldl_hom Prod.fst fun _ _ => rfl).symm

theorem groupTurns_entry_notin {gs : List (Fin 16)} {i : Fin 32} (a : State × List (Fin 32 × Drawn))
    (h : ∀ g ∈ gs, i ∉ (a.1.group g).members) : drawEntry i (gs.foldl groupTurn a).2 = drawEntry i a.2 := by
  induction gs generalizing a with
  | nil => rfl
  | cons g gs ih =>
    have rest : ∀ k ∈ gs, i ∉ ((groupTurn a g).1.group k).members := fun k hk => by
      rw [groupTurn, groupBoundary_members]
      exact h k (List.mem_cons_of_mem g hk)
    rw [List.foldl_cons, ih _ rest, groupTurn, drawEntry_append, groupBoundary_entry_notin (h g List.mem_cons_self), Option.or_none]

/-- The draw of a member within the group stages of a boundary. -/
theorem groupsBoundary_entry {s : State} (hm : s.MembershipOk) {g : Fin 16} {i : Fin 32} (hi : i ∈ (s.group g).members) :
    drawEntry i s.groupsBoundary.2 = if (s.stream i).state.drawn = true ∧ (s.group g).anchored = true then
      some (i, ((s.group g).drawOf s.clock.hbc i (s.stream i)).2.1) else none := by
  obtain ⟨before, after, hbefore, hafter, turn⟩ := foldl_at_turn (List.mem_finRange g) (List.nodup_finRange 16) groupTurn (s, [])
  have others {gs : List (Fin 16)} (hg : g ∉ gs) : ∀ k ∈ gs, i ∉ (s.group k).members :=
    fun k hk => hm.notin hi fun e => hg (e ▸ hk)
  have none_yet := groupTurns_entry_notin (s, []) (others hbefore)
  have state := groupTurns_state before (s, [])
  rw [groupsBoundary_turns, turn]
  generalize before.foldl groupTurn (s, []) = b at none_yet state
  have group : b.1.group g = s.group g := by rw [state]; exact throughGroups_group_notin s hbefore
  have stream : b.1.stream i = s.stream i := by rw [state]; exact throughGroups_stream_notin s (others hbefore)
  have clock : b.1.clock = s.clock := by rw [state]; exact (throughGroups_change s before).clock
  have later : ∀ k ∈ after, i ∉ ((groupTurn b g).1.group k).members := fun k hk => by
    rw [groupTurn, groupBoundary_members, state, throughGroups_members]
    exact others hafter k hk
  have own := groupBoundary_entry (s := b.1) (g := g) (i := i) (by rw [group]; exact hi) (by rw [group]; exact hm.noRepeat g)
  rw [groupTurns_entry_notin _ later, groupTurn, drawEntry_append, none_yet, own, group, stream, clock]
  rfl

/-- The draw of a stream at a boundary: it is made when its state and its group say so, from the record before the boundary (R54, R77). -/
theorem boundary_drawOf {s : State} (hm : s.MembershipOk) (inp : BoundaryInput) (i : Fin 32) : (s.audioAt inp).drawOf i =
    if (s.stream i).state.drawn = true ∧ (s.group (s.stream i).group).anchored = true then
      some ((s.group (s.stream i).group).drawOf (s.clock.hbc + 1) i (s.stream i)).2.1 else none := by
  have group (h : Fin 16) : (s.beforeDraws inp).group h = s.group h := by rw [beforeDraws_eq]; rfl
  have stream (j : Fin 32) : (s.beforeDraws inp).stream j = s.stream j := by rw [beforeDraws_eq]; rfl
  have hbc : (s.beforeDraws inp).clock.hbc = s.clock.hbc + 1 := by simp [beforeDraws_eq, HouseClock.advance, judge_hbc]
  rw [drawOf_eq]
  change (drawEntry i (s.beforeDraws inp).groupsBoundary.2).map (·.2) = _
  by_cases hc : (s.stream i).state = .closed
  · have unlisted (g : Fin 16) : i ∉ ((s.beforeDraws inp).group g).members := by rw [group]; exact hm.not_mem hc g
    rw [groupsBoundary_turns, groupTurns_entry_notin _ fun g _ => unlisted g, hc]
    rfl
  · have listed : (s.beforeDraws inp).MembershipOk := hm.of_same (fun h => by rw [group]) fun j => by rw [stream]; exact .refl _
    rw [groupsBoundary_entry listed (by rw [group]; exact hm.mem hc), group, stream, hbc]
    split
    · rfl
    · rfl

/-- What supplies output sample 0 of a drawn stream: the slot at its read position, before the draw (R77, R154). -/
theorem drawOf_first (g : Group) (hbc : Word) (i : Fin 32) (x : Stream) :
    (g.drawOf hbc i x).2.1.first = x.firstSlot (x.offsetAt hbc (g.q.getD 0)) := rfl

/-! ## One line (R152, R154, R155) -/

theorem takeFail_eq (l : Line) : l.takeFail = { l with current := match l.fail with
    | .low => false
    | .high => true
    | .hold => l.current } := by
  obtain ⟨mode, stream, bit, invert, fail, override, current⟩ := l
  cases fail
  all_goals rfl

theorem lineBoundary_stands {l : Line} (h : l.mode = .off ∨ l.mode = .override) (first : Fin 32 → Option FirstSlot)
    (state : Fin 32 → StreamState) : l.boundary first state = l := by
  unfold Line.boundary
  obtain h | h := h
  all_goals rw [h]

theorem lineBoundary_direct {l : Line} (h : l.mode = .direct) (first : Fin 32 → Option FirstSlot) (state : Fin 32 → StreamState) :
    l.boundary first state =
      if state l.stream = .primed ∨ state l.stream = .playing ∨ state l.stream = .draining then l else l.takeFail := by
  have follows := directFollows_iff (state l.stream) false
  simp only [Bool.false_eq_true, false_and, if_false] at follows
  simp only [Line.boundary, h, Line.directBoundary, follows]

theorem lineBoundary_aligned {l : Line} (h : l.mode = .aligned) (first : Fin 32 → Option FirstSlot) (state : Fin 32 → StreamState) :
    l.boundary first state = l.aligned (first l.stream) := by
  simp only [Line.boundary, h]

/-- A line after a boundary. -/
theorem boundary_line (s : State) (inp : BoundaryInput) (k : Fin 16) : (s.boundary inp).line k =
    (s.line k).boundary (fun i => ((s.audioAt inp).drawOf i).map (·.first)) fun i => ((s.boundary inp).stream i).state := by
  rw [State.line, boundary_signals, SignalRouter.lineBoundary, vmap_get]
  rfl

/-! ## What supplies output sample 0 (R77, R119, R154) -/

theorem firstSlot_before_origin (x : Stream) {pos : Int} (h : pos < 0) :
    x.firstSlot pos = if x.state = .outage then .noReal else .beforeOrigin := if_pos h

/-- From the origin on, a FILLED slot that holds the read position supplies its cue word, wherever the served-to position stands. -/
theorem firstSlot_from_origin {x : Stream} {k : Nat} {q : Word} (hq : x.seqOf (k : Int) = q) :
    (∀ b, x.slotAt q = .filled b → b.seq = q → x.firstSlot k = .real b.cue) ∧
    ((∀ b, x.slotAt q = .filled b → b.seq ≠ q) → x.firstSlot k = .noReal) := by
  have fromOrigin : ¬(k : Int) < 0 := Int.not_lt.mpr (Int.natCast_nonneg k)
  simp only [Stream.firstSlot, if_neg fromOrigin, hq]
  refine ⟨fun b hs hb => by simp only [hs, if_pos hb], fun other => ?_⟩
  cases hs : x.slotAt q with
  | filled b => exact if_neg (other b hs)
  | empty => rfl
  | concealed r => rfl

/-! ## The inputs (R158, R159) -/

/-- A changed input whose mask flag is set has its notice. -/
theorem mem_changePosts {r : SignalRouter} {pins : Half} {k : Fin 16} (changed : pins.getLsbD k.val ≠ r.sampled.getLsbD k.val)
    (masked : r.mask.getLsbD k.val = true) :
    { kind := .sigInChange, subject := k.val, detail := if pins.getLsbD k.val then 1 else 0 } ∈ r.changePosts pins := by
  refine List.mem_filterMap.mpr ⟨k, List.mem_finRange k, if_pos ?_⟩
  rw [masked, Bool.and_true, bne_iff_ne]
  exact changed

/-- The notices of the inputs are posted at the boundary. -/
theorem boundary_changePosts {s : State} {inp : BoundaryInput} {p : Post} (h : p ∈ s.signals.changePosts inp.sigIn) :
    s.Posted (s.boundary inp) (s.boundary inp).clock.hbc p := by
  obtain ⟨qs, parts⟩ := boundary_parts s inp
  refine ⟨_, ?_, by rw [boundary_hbc, congrArg State.notices parts]⟩
  simp only [List.append_assoc]
  exact List.mem_append_right _ (List.mem_append_left _ h)

/-! ## Every clause of O51 -/

/-- Settles O51: each mode's line by the draw of its stream or by the state that the boundary leaves, and the notices of the inputs. -/
theorem linesFollowTheirStreamsAtABoundary : Obligations.LinesFollowTheirStreamsAtABoundary := by
  intro s inp low hm
  refine ⟨s.boundary inp, exec_houseBlockBoundary low inp, ?_, fun x pos => firstSlot_before_origin x, ?_,
    fun k changed masked => boundary_changePosts (mem_changePosts changed masked)⟩
  · rintro k l failed x g hl hx hg hf
    have fail : l.takeFail = failed := (takeFail_eq l).trans hf.symm
    have line := boundary_line s inp k
    rw [← hl] at line
    have draw := boundary_drawOf hm inp l.stream
    rw [← hx, ← hg] at draw
    refine ⟨fun off => line.trans (lineBoundary_stands off _ _), fun direct => ?_, fun aligned =>
      ⟨fun idle => ?_, fun drawn anchored => ?_⟩⟩
    · rw [line, lineBoundary_direct direct, fail]
    · have undrawn : ¬(x.state.drawn = true ∧ g.anchored = true) := by
        rintro ⟨drawn, anchored⟩
        simp [drawn, anchored] at idle
      rw [if_neg undrawn] at draw
      rw [line, lineBoundary_aligned aligned, draw]
      exact fail
    · rw [if_pos ⟨drawn, anchored⟩] at draw
      rw [line, lineBoundary_aligned aligned, draw, Option.map_some, drawOf_first, ← fail]
      rcases x.firstSlot (x.offsetAt (s.clock.hbc + 1) (g.q.getD 0)) with _ | (_ | cue) | _
      · rfl
      · rfl
      · rfl
      · rfl
  · rintro x k seq0 st0 q ho rfl
    exact firstSlot_from_origin (seqOf_block ho rfl)

end Sys2Proof.Machine
end

section
/-! SUPPORT. The output map (R123, R132 to R137): the source that a MAP_SET names, the map read in channel order, and the four map
requests as they are served; and O43. -/

namespace Sys2Proof.Machine

/-! ## The source that a MAP_SET names (R132) -/

theorem toFin?_eq_some_iff {n k : Nat} {i : Fin n} : toFin? n k = some i ↔ k = i.val := by
  refine ⟨fun h => ?_, fun h => h ▸ toFin?_val i⟩
  obtain ⟨_, e⟩ := Option.dite_none_right_eq_some.mp h
  exact congrArg Fin.val (Option.some.inj e)

/-- A source of two parameters needs both in range (R132). -/
theorem sourceOf_stream (p1 p2 : Nat) : sourceOf 1 p1 p2 = (toFin? 32 p1).bind fun n => (toFin? 8 p2).map (.stream n) := by
  simp only [sourceOf]
  cases toFin? 32 p1 <;> cases toFin? 8 p2 <;> rfl

theorem sourceOf_tone (p1 p2 : Nat) : sourceOf 2 p1 p2 = (toFin? 2 p1).map .tone := rfl

theorem sourceOf_feed (p1 p2 : Nat) : sourceOf 3 p1 p2 = (toFin? 16 p1).bind fun r => (toFin? 2 p2).map (.feed r) := by
  simp only [sourceOf]
  cases toFin? 16 p1 <;> cases toFin? 2 p2 <;> rfl

theorem sourceOf_beyond {kind : Nat} (h : 3 < kind) (p1 p2 : Nat) : sourceOf kind p1 p2 = none := by
  simp only [sourceOf, show kind ≠ 0 by omega, show kind ≠ 1 by omega, show kind ≠ 2 by omega, show kind ≠ 3 by omega, if_false]

/-- Every kind of source with its parameters in range, and the parameters that a kind does not use left unread (R132). -/
theorem sourceOf_eq_some_iff {kind p1 p2 : Nat} {src : Source} : sourceOf kind p1 p2 = some src ↔
    (kind = 0 ∧ src = .silent) ∨ (∃ (n : Fin 32) (h : Fin 8), kind = 1 ∧ p1 = n.val ∧ p2 = h.val ∧ src = .stream n h) ∨
      (∃ l : Fin 2, kind = 2 ∧ p1 = l.val ∧ src = .tone l) ∨
      (∃ (r : Fin 16) (h : Fin 2), kind = 3 ∧ p1 = r.val ∧ p2 = h.val ∧ src = .feed r h) := by
  match kind with
  | 0 => simp [sourceOf, eq_comm]
  | 1 => simp only [sourceOf_stream, Option.bind_eq_some_iff, Option.map_eq_some_iff, toFin?_eq_some_iff]; simp [eq_comm]
  | 2 => simp only [sourceOf_tone, Option.map_eq_some_iff, toFin?_eq_some_iff]; simp [eq_comm]
  | 3 => simp only [sourceOf_feed, Option.bind_eq_some_iff, Option.map_eq_some_iff, toFin?_eq_some_iff]; simp [eq_comm]
  | kind + 4 => simp [sourceOf_beyond (show 3 < kind + 4 by omega)]

/-- A kind above 3, and a parameter beyond its kind's range, name no source (R132). -/
theorem sourceOf_eq_none {kind p1 p2 : Nat} (h : 3 < kind ∨ (kind = 1 ∧ (31 < p1 ∨ 7 < p2)) ∨ (kind = 2 ∧ 1 < p1) ∨
    (kind = 3 ∧ (15 < p1 ∨ 1 < p2))) : sourceOf kind p1 p2 = none := by
  refine Option.eq_none_iff_forall_ne_some.mpr fun src named => ?_
  obtain ⟨_, -⟩ | ⟨n, c, _, _, _, -⟩ | ⟨l, _, _, -⟩ | ⟨r, c, _, _, _, -⟩ := sourceOf_eq_some_iff.mp named <;> omega

/-! ## The map in channel order -/

theorem toList_eq_map_get {α : Type} {n : Nat} (v : Vector α n) : v.toList = (List.finRange n).map v.get := by
  rw [← List.ofFn_eq_map]
  exact List.ext_getElem (by simp) fun _ _ _ => by simp [Vector.get]

theorem pendingCount_eq (s : State) : s.output.pendingCount = (List.finRange 64).countP fun k => (s.mapEntry k).pending := by
  rw [OutputUnit.pendingCount, toList_eq_map_get, List.countP_map]
  rfl

/-- The numbers from `first` on, `count` of them, are those that a window of the numbers names. -/
theorem finRange_window (n first count : Nat) : (List.finRange n).filter (fun k => first ≤ k.val ∧ k.val < first + count) =
    ((List.finRange n).drop first).take count := by
  have parts : List.finRange n = (List.finRange n).take first ++
      (((List.finRange n).drop first).take count ++ ((List.finRange n).drop first).drop count) := by
    rw [List.take_append_drop, List.take_append_drop]
  have before : ((List.finRange n).take first).filter (fun k => first ≤ k.val ∧ k.val < first + count) = [] := by
    refine List.filter_eq_nil_iff.mpr fun k hk => ?_
    obtain ⟨j, hj, rfl⟩ := List.mem_take_iff_getElem.mp hk
    simp only [List.getElem_finRange, Fin.val_cast, decide_eq_true_eq]
    omega
  have within : (((List.finRange n).drop first).take count).filter (fun k => first ≤ k.val ∧ k.val < first + count) =
      ((List.finRange n).drop first).take count := by
    refine List.filter_eq_self.mpr fun k hk => ?_
    obtain ⟨j, hj, rfl⟩ := List.mem_take_iff_getElem.mp hk
    simp only [List.getElem_drop, List.getElem_finRange, Fin.val_cast, decide_eq_true_eq]
    omega
  have after : (((List.finRange n).drop first).drop count).filter (fun k => first ≤ k.val ∧ k.val < first + count) = [] := by
    refine List.filter_eq_nil_iff.mpr fun k hk => ?_
    rw [List.drop_drop] at hk
    obtain ⟨j, hj, rfl⟩ := List.mem_drop_iff_getElem.mp hk
    simp
  rw [parts, List.filter_append, List.filter_append, before, within, after, List.nil_append, List.append_nil, ← parts]

@[simp] theorem setMapEntry_same (s : State) (k : Fin 64) : s.setMapEntry k (s.mapEntry k) = s := by
  have entries : vset s.output.entries k (s.mapEntry k) = s.output.entries := Vector.set_getElem_self k.isLt
  rw [State.setMapEntry, entries]

/-- The map entry that a body of one byte names (R133). -/
theorem toFin?_entry (k : Fin 64) : toFin? 64 (byteOf k.val).toNat = some k := by
  rw [byteOf_toNat_lt (by omega), toFin?_val]

/-! ## MAP_SET (R132) -/

/-- The body of a MAP_SET. -/
def mapSetBody (k kind p1 p2 : Byte) (gain : Half) (mute : Byte) : List Byte := [k, kind, p1, p2] ++ be16 gain.toNat ++ [mute]

theorem serveMapSet_notFound (s : State) {k : Byte} (h : 64 ≤ k.toNat) (kind p1 p2 : Byte) (gain : Half) (mute : Byte) :
    serveMapSet s (mapSetBody k kind p1 p2 gain mute) = .error .notFound := by
  have unknown : toFin? 64 (field1 (mapSetBody k kind p1 p2 gain mute) 0) = none := toFin?_beyond h
  simp only [serveMapSet, unknown]

theorem serveMapSet_noSource (s : State) (k : Fin 64) {kind p1 p2 : Byte} (h : sourceOf kind.toNat p1.toNat p2.toNat = none)
    (gain : Half) (mute : Byte) : serveMapSet s (mapSetBody (byteOf k.val) kind p1 p2 gain mute) = .error .badValue := by
  have entry : toFin? 64 (field1 (mapSetBody (byteOf k.val) kind p1 p2 gain mute) 0) = some k := toFin?_entry k
  have source : sourceOf (field1 (mapSetBody (byteOf k.val) kind p1 p2 gain mute) 1)
    (field1 (mapSetBody (byteOf k.val) kind p1 p2 gain mute) 2) (field1 (mapSetBody (byteOf k.val) kind p1 p2 gain mute) 3) = none := h
  simp only [serveMapSet, entry, source]

/-- A staged copy leaves the pending flag as R123 has it: set when the copies differ. -/
theorem settle_staged (e : MapEntry) (c : MapCopy) :
    MapEntry.settle { e with staged := c } = { e with staged := c, pending := decide (c ≠ e.active) } := by
  have differ : (c != e.active) = decide (c ≠ e.active) := by rw [Bool.eq_iff_iff]; simp
  exact congrArg (fun p : Bool => ({ e with staged := c, pending := p } : MapEntry)) differ

/-- MAP_SET once its entry and its source are found: its last check, and the copy that it stages (R123, R132). -/
theorem serveMapSet_eq (s : State) (k : Fin 64) {kind p1 p2 : Byte} {src : Source}
    (h : sourceOf kind.toNat p1.toNat p2.toNat = some src) (gain : Half) (mute : Byte) (c : MapCopy)
    (hc : c = { source := src, gain := gain, mute := decide (mute = 1) }) :
    serveMapSet s (mapSetBody (byteOf k.val) kind p1 p2 gain mute) =
      if 1 < mute.toNat then .error .badValue
      else .ok (s.setMapEntry k { s.mapEntry k with staged := c, pending := decide (c ≠ (s.mapEntry k).active) },
        [if c ≠ (s.mapEntry k).active then 1 else 0]) := by
  have entry : toFin? 64 (field1 (mapSetBody (byteOf k.val) kind p1 p2 gain mute) 0) = some k := toFin?_entry k
  have source : sourceOf (field1 (mapSetBody (byteOf k.val) kind p1 p2 gain mute) 1)
    (field1 (mapSetBody (byteOf k.val) kind p1 p2 gain mute) 2) (field1 (mapSetBody (byteOf k.val) kind p1 p2 gain mute) 3) = some src := h
  have gainField : field2 (mapSetBody (byteOf k.val) kind p1 p2 gain mute) 4 = gain.toNat :=
    field2_append [byteOf k.val, kind, p1, p2] [mute] gain.isLt
  have muteField : field1 (mapSetBody (byteOf k.val) kind p1 p2 gain mute) 6 = mute.toNat := rfl
  have muted : (mute.toNat == 1) = decide (mute = 1) := by
    rw [Bool.eq_iff_iff, beq_iff_eq, decide_eq_true_eq, ← BitVec.toNat_inj]
    rfl
  simp only [serveMapSet, entry, source, gainField, muteField, muted, require_bind, decide_eq_false_iff_not, Nat.not_le,
    BitVec.ofNat_toNat, BitVec.setWidth_eq, settle_staged, ← hc, beFlag, decide_eq_true_eq]
  rfl

theorem serveMapSet_badMute (s : State) (k : Fin 64) (kind p1 p2 : Byte) (gain : Half) {mute : Byte} (h : 1 < mute.toNat) :
    serveMapSet s (mapSetBody (byteOf k.val) kind p1 p2 gain mute) = .error .badValue := by
  cases e : sourceOf kind.toNat p1.toNat p2.toNat with
  | none => exact serveMapSet_noSource s k e gain mute
  | some src => exact (serveMapSet_eq s k e gain mute _ rfl).trans (if_pos h)

/-! ## MAP_DISCARD (R133) -/

theorem serveMapDiscard_all (s : State) : serveMapDiscard s [255] =
    .ok ({ s with output := { s.output with entries := vmap s.output.entries fun _ e => e.discard } },
      be32 ((List.finRange 64).countP fun k => (s.mapEntry k).pending)) := by
  rw [← pendingCount_eq]
  rfl

theorem serveMapDiscard_notFound (s : State) {b : Byte} (h : 64 ≤ b.toNat) (hb : b ≠ 255) : serveMapDiscard s [b] = .error .notFound := by
  have named : field1 [b] 0 ≠ 255 := fun e => hb (BitVec.toNat_inj.mp e)
  simp only [serveMapDiscard, if_neg named, toFin?_beyond h]

theorem serveMapDiscard_one (s : State) (k : Fin 64) : serveMapDiscard s [byteOf k.val] =
    if (s.mapEntry k).pending then
      .ok (s.setMapEntry k { s.mapEntry k with staged := (s.mapEntry k).active, pending := false }, be32 1)
    else .ok (s, be32 0) := by
  have named : field1 [byteOf k.val] 0 = k.val := field1_byteOf (by omega)
  have one : k.val ≠ 255 := by omega
  simp only [serveMapDiscard, named, if_neg one, toFin?_val, MapEntry.discard]
  split
  · rfl
  · rw [setMapEntry_same]

/-! ## MAP_QUERY (R137) -/

theorem mapQueryValues_iff (first count clear : Byte) :
    (decide (1 ≤ count.toNat) && decide (count.toNat ≤ 32) && decide (first.toNat + count.toNat ≤ 64) && decide (clear.toNat ≤ 1)) = false ↔
      count = 0 ∨ 32 < count.toNat ∨ 64 < first.toNat + count.toNat ∨ 1 < clear.toNat := by
  have zero : count = 0 ↔ count.toNat = 0 := by rw [← BitVec.toNat_inj]; rfl
  simp only [Bool.and_eq_false_iff, decide_eq_false_iff_not, zero]
  omega

/-- MAP_QUERY as it is served: its two checks in order, the report of the entries that it names, and their clip counters cleared. -/
theorem serveMapQuery_eq (s : State) (first count clear : Byte) : serveMapQuery s [first, count, clear] =
    if 63 < first.toNat then .error .notFound
    else if count = 0 ∨ 32 < count.toNat ∨ 64 < first.toNat + count.toNat ∨ 1 < clear.toNat then .error .badValue
    else .ok (if clear = 1 then
        { s with output := { s.output with entries := vmap s.output.entries fun k e =>
          if first.toNat ≤ k.val ∧ k.val < first.toNat + count.toNat then { e with clips := 0 } else e } }
      else s,
      [if s.output.commit then 1 else 0] ++
        ((List.finRange 64).filter fun k => first.toNat ≤ k.val ∧ k.val < first.toNat + count.toNat).flatMap fun k =>
          (s.mapEntry k).report) := by
  have fields : field1 [first, count, clear] 0 = first.toNat ∧ field1 [first, count, clear] 1 = count.toNat ∧
    field1 [first, count, clear] 2 = clear.toNat := ⟨rfl, rfl, rfl⟩
  obtain ⟨hfirst, hcount, hclear⟩ := fields
  have one : clear.toNat = 1 ↔ clear = 1 := BitVec.toNat_inj (y := 1)
  simp only [serveMapQuery, hfirst, hcount, hclear, one, require_bind, mapQueryValues_iff, toList_eq_map_get, ← List.map_drop, ← List.map_take,
    List.flatMap_map, finRange_window]
  rfl

/-! ## The map requests -/

/-- Settles O43: MAP_SET by its source and its checks, MAP_COMMIT, MAP_DISCARD of all entries and of one, MAP_QUERY, and the bytes of a
copy. -/
theorem mapRequestsEditTheStagedCopies : Obligations.MapRequestsEditTheStagedCopies := by
  refine ⟨?_, ?_, fun s hn => ?_, fun s hn => ?_, fun s k hn => ?_, fun s b hn hb all => ?_, fun s first count clear hn => ?_, ?_⟩
  · intro s k kind p1 p2 mute gain src c hn hm named hc
    have code (n : Byte) : kind = n ↔ kind.toNat = n.toNat := BitVec.toNat_inj.symm
    simp only [code] at named
    have source := sourceOf_eq_some_iff.mpr named
    exact take_granted hn rfl ((serveMapSet_eq s k source gain mute c hc).trans (if_neg (by omega)))
  · intro s k kind p1 p2 mute gain hn
    refine ⟨fun hk => take_refused hn rfl (serveMapSet_notFound s hk kind p1 p2 gain mute), fun hk bad => ?_⟩
    obtain ⟨j, rfl⟩ : ∃ j : Fin 64, k = byteOf j.val := ⟨⟨k.toNat, hk⟩, by simp [byteOf]⟩
    by_cases hm : 1 < mute.toNat
    · exact take_refused hn rfl (serveMapSet_badMute s j kind p1 p2 gain hm)
    · have code (n : Byte) : kind = n ↔ kind.toNat = n.toNat := BitVec.toNat_inj.symm
      simp only [code, hm, false_or] at bad
      exact take_refused hn rfl (serveMapSet_noSource s j (sourceOf_eq_none bad) gain mute)
  · rw [← pendingCount_eq]
    exact take_granted hn rfl rfl
  · refine ⟨_, take_granted hn rfl (serveMapDiscard_all s), fun k => ?_, rfl⟩
    exact vmap_get s.output.entries _ k
  · have served := serveMapDiscard_one s k
    split_ifs at served ⊢
    · exact take_granted hn rfl served
    · exact take_granted hn rfl served
  · exact take_refused hn rfl (serveMapDiscard_notFound s hb all)
  · have served := serveMapQuery_eq s first count clear
    refine ⟨fun h => take_refused hn rfl (served.trans (if_pos h)), fun h bad => ?_, fun h low high fits flag => ?_⟩
    · exact take_refused hn rfl (served.trans ((if_neg (by omega)).trans (if_pos bad)))
    · have good : ¬(count = 0 ∨ 32 < count.toNat ∨ 64 < first.toNat + count.toNat ∨ 1 < clear.toNat) := by
        rintro (rfl | _)
        · exact absurd low (by decide)
        · omega
      refine ⟨_, take_granted hn rfl (served.trans ((if_neg (by omega)).trans (if_neg good))), fun k => ?_, ?_⟩
      · split_ifs with cleared named named
        · exact (vmap_get s.output.entries _ k).trans (if_pos named.2)
        · exact (vmap_get s.output.entries _ k).trans (if_neg fun h => named ⟨cleared, h⟩)
        · exact absurd named.1 cleared
        · rfl
      · split
        · rfl
        · rfl
  · rintro ⟨source, gain, mute⟩
    cases source <;> rfl

end Sys2Proof.Machine
end

section
/-! SUPPORT. What an output channel is formed of at a boundary (R77, R125 to R128): the line-up tone, the 48 frames of a draw, and the
source block of each kind of source. -/

namespace Sys2Proof.Machine

/-! ## The line-up tone (R126) -/

/-- The first half of a cycle of the tone, which the quarter gives twice: up, and down again. -/
def toneHalf (l : Fin 2) (m : Nat) : Int :=
  (if l = 0 then toneQuarter0 else toneQuarter1).getD (if m ≤ 12 then m else 24 - m) 0

theorem toneSample_eq (l : Fin 2) (n : Nat) :
    toneSample l n = if n % 48 < 24 then toneHalf l (n % 24) else -toneHalf l (n % 24) := rfl

theorem toneHalf_zero (l : Fin 2) : toneHalf l 0 = 0 := by
  unfold toneHalf
  split
  · rfl
  · rfl

theorem toneHalf_mirror (l : Fin 2) {m : Nat} (h : m ≤ 24) : toneHalf l (24 - m) = toneHalf l m := by
  have same : (if 24 - m ≤ 12 then 24 - m else 24 - (24 - m)) = if m ≤ 12 then m else 24 - m := by
    split_ifs <;> omega
  rw [toneHalf, same, toneHalf]

/-- Within the first half of a cycle, its end included, the tone is the half that the quarter gives. -/
theorem toneSample_firstHalf (l : Fin 2) {n : Nat} (h : n ≤ 24) : toneSample l n = toneHalf l n := by
  obtain rfl | below := h.eq_or_lt
  · have ends : toneHalf l 24 = 0 := (toneHalf_mirror l (m := 0) (by omega)).trans (toneHalf_zero l)
    rw [ends, toneSample_eq, if_neg (by omega), toneHalf_zero, Int.neg_zero]
  · rw [toneSample_eq, if_pos (by omega), Nat.mod_eq_of_lt below]

/-- The tone falls from its crest as it rose to it. -/
theorem toneSample_mirror (l : Fin 2) {n : Nat} (h : n ≤ 24) : toneSample l (24 - n) = toneSample l n := by
  rw [toneSample_firstHalf l h, toneSample_firstHalf l (by omega), toneHalf_mirror l h]

/-- Half a cycle on, the tone changes its sign. -/
theorem toneSample_halfCycle (l : Fin 2) (n : Nat) : toneSample l (n + 24) = -toneSample l n := by
  rw [toneSample_eq, toneSample_eq, Nat.add_mod_right]
  by_cases first : n % 48 < 24
  · rw [if_neg (by omega), if_pos first]
  · rw [if_pos (by omega), if_neg first, Int.neg_neg]

theorem toneBlock_getD (l : Fin 2) {n : Nat} (h : n < 48) : (toneBlock l).getD n 0 = sampleOf (toneSample l n) := by
  simp [toneBlock, List.getD_eq_getElem?_getD, List.getElem?_range h]

/-! ## The frames of a draw (R77, R99, R100) -/

theorem omitted_out (a : DrawAcc) (pos : Int) : (a.omitted pos).out = a.out := by
  unfold DrawAcc.omitted
  split
  · rfl
  split
  · rfl
  split
  · split
    · split <;> rfl
    · split <;> rfl
    · rfl
  · rfl

/-- A source position that is served yields one frame, and one that a DROP omits yields none. -/
theorem drawStep_out (ctx : DrawContext) (i : Fin 32) (pos : Int) (a : DrawAcc) (k : Nat) :
    ∃ f, (DrawAcc.step ctx i pos a k).out = a.out ++ if ctx.slip.serves k then [f] else [] := by
  unfold DrawAcc.step
  by_cases omits : ctx.slip = .dropAt k
  · have skipped : ctx.slip.serves k = false := decide_eq_false (not_not.mpr omits)
    refine ⟨[], ?_⟩
    rw [if_pos omits, omitted_out, skipped]
    exact (List.append_nil _).symm
  · have serves : ctx.slip.serves k = true := decide_eq_true omits
    rw [if_neg omits, serves]
    exact (serve_yields a i ctx.hbc ctx.limit _).1

/-- The positions of a draw yield one frame for each that is served, in order. -/
theorem visit_out (x : Stream) (ctx : DrawContext) (i : Fin 32) (pos : Int) :
    ∃ f : Nat → Frame, (x.visit ctx i pos).out = (ctx.slip.servedBy ctx.slip.sources).map f := by
  have through (k : Nat) : ∃ f : Nat → Frame,
      ((List.range k).foldl (DrawAcc.step ctx i pos) (.silent x [])).out = (ctx.slip.servedBy k).map f := by
    induction k with
    | zero => exact ⟨fun _ => [], rfl⟩
    | succ k ih =>
      obtain ⟨f, before⟩ := ih
      obtain ⟨frame, own⟩ := drawStep_out ctx i pos ((List.range k).foldl (DrawAcc.step ctx i pos) (.silent x [])) k
      have kept : (ctx.slip.servedBy k).map (Function.update f k frame) = (ctx.slip.servedBy k).map f :=
        List.map_congr_left fun j hj => Function.update_of_ne (List.mem_range.mp (List.mem_filter.mp hj).1).ne frame f
      refine ⟨Function.update f k frame, ?_⟩
      rw [List.range_succ, List.foldl_append, List.foldl_cons, List.foldl_nil, own, before, servedBy_succ, List.map_append, kept]
      split
      · rw [List.map_cons, Function.update_self, List.map_nil]
      · rfl
  exact through _

/-- A slip that a group decides falls within the block (R98). -/
theorem slipDecision_inBlock (g : Group) : g.slipDecision.2.InBlock := by
  have position (v : BitVec 6) : 1 ≤ slipPosition v ∧ slipPosition v ≤ 47 := by
    unfold slipPosition
    omega
  unfold Group.slipDecision
  split
  · trivial
  · split
    · exact position _
    · trivial
  · split
    · exact position _
    · trivial

/-- A draw yields 48 frames, with any slip. -/
theorem draw_frames_length (x : Stream) {ctx : DrawContext} (h : ctx.slip.InBlock) (i : Fin 32) (pos : Int) :
    (x.draw ctx i pos).2.1.frames.length = 48 := by
  obtain ⟨f, out⟩ := visit_out x ctx i pos
  have mapped : (mapSlip ctx.slip (x.visit ctx i pos).out).length = 48 := by
    rw [out, Slip.servedBy, mapSlip_served h, List.length_map, List.length_range]
  simp only [Stream.draw]
  split
  · rw [fadeOutFrames, List.length_map, List.length_zipIdx, mapped]
  · exact mapped

theorem drawOf_frames_length (g : Group) (hbc : Word) (i : Fin 32) (x : Stream) : (g.drawOf hbc i x).2.1.frames.length = 48 :=
  draw_frames_length x (slipDecision_inBlock g) i _

/-! ## The mix of a feed as a source (R127) -/

/-- A feed that runs in MIX gives the mix of each of its channels, and silence otherwise. -/
theorem mixesAt_getD (f : Feed) (input : List Frame) (sampled : Half) (c : Nat) : (f.mixesAt input sampled).getD c silentBlock =
    if f.running ∧ f.modeAt = .mix ∧ c < f.channels then mix24 (f.rawMix c input sampled) else silentBlock := by
  unfold Feed.mixesAt
  by_cases gives : f.running = true ∧ f.modeAt = .mix
  · rw [if_pos gives]
    by_cases hc : c < f.channels
    · rw [if_pos ⟨gives.1, gives.2, hc⟩]
      simp [List.getD_eq_getElem?_getD, List.getElem?_range hc]
    · rw [if_neg fun h => hc h.2.2]
      exact List.getD_eq_default _ _ (by simp; omega)
  · rw [if_neg gives, if_neg fun h => gives ⟨h.1, h.2.1⟩]
    rfl

theorem mixesAt_get (s : State) (inp : BoundaryInput) (r : Fin 16) :
    (s.mixesAt inp).get r = (s.feed r).mixesAt (captureInput inp.tdm) inp.sigIn := vmap_get _ _ r

/-! ## The source blocks of a boundary (R125 to R127) -/

/-- The source block of a stream that is not drawn is silence (R125). -/
theorem sourceBlock_undrawn {s : State} (hm : s.MembershipOk) (inp : BoundaryInput) {i : Fin 32}
    (h : (s.stream i).state.drawn = false ∨ (s.group (s.stream i).group).anchored = false) (ch : Fin 8) :
    (s.audioAt inp).sourceBlock (.stream i ch) = silentBlock := by
  have idle : ¬((s.stream i).state.drawn = true ∧ (s.group (s.stream i).group).anchored = true) := by
    rintro ⟨drawn, anchored⟩
    simp [drawn, anchored] at h
  simp only [BoundaryAudio.sourceBlock, boundary_drawOf hm, if_neg idle]

/-- The source block of a drawn stream is the declared channel of its draw (R125). -/
theorem sourceBlock_drawn {s : State} (hm : s.MembershipOk) (inp : BoundaryInput) {i : Fin 32} (drawn : (s.stream i).state.drawn = true)
    (anchored : (s.group (s.stream i).group).anchored = true) (ch : Fin 8) : (s.audioAt inp).sourceBlock (.stream i ch) =
      ((s.group (s.stream i).group).drawOf (s.clock.hbc + 1) i (s.stream i)).2.1.frames.map fun f => f.getD ch.val 0 := by
  simp only [BoundaryAudio.sourceBlock, boundary_drawOf hm, if_pos (And.intro drawn anchored)]
  rfl

theorem sourceBlock_feed (s : State) (inp : BoundaryInput) (r : Fin 16) (ch : Fin 2) : (s.audioAt inp).sourceBlock (.feed r ch) =
    if (s.feed r).running ∧ (s.feed r).modeAt = .mix ∧ ch.val < (s.feed r).channels then
      mix24 ((s.feed r).rawMix ch.val (captureInput inp.tdm) inp.sigIn) else silentBlock :=
  (congrArg (·.getD ch.val silentBlock) (mixesAt_get s inp r)).trans (mixesAt_getD _ _ _ _)

/-- Every source block has 48 samples. -/
theorem sourceBlock_length {s : State} (hm : s.MembershipOk) (inp : BoundaryInput) (source : Source) :
    ((s.audioAt inp).sourceBlock source).length = 48 := by
  cases source with
  | silent => rfl
  | tone l => rfl
  | stream i ch =>
    by_cases h : (s.stream i).state.drawn = true ∧ (s.group (s.stream i).group).anchored = true
    · rw [sourceBlock_drawn hm inp h.1 h.2, List.length_map, drawOf_frames_length]
    · rw [sourceBlock_undrawn hm inp (by simpa [← Bool.not_eq_true, ← not_and_or] using h)]
      rfl
  | feed r ch =>
    rw [sourceBlock_feed]
    split
    · simp [mix24, Feed.rawMix, captureInput]
    · rfl

end Sys2Proof.Machine
end

section
/-! SUPPORT. An output channel through its map entry (R121, R123, R128 to R131, R135): the copy that a block is formed through, its gains,
its saturation and its clip state; and O44. -/

namespace Sys2Proof.Machine

/-! ## A block through a map entry -/

/-- The active copy after a commit, if one is applied to the entry (R135). -/
def MapEntry.through (e : MapEntry) (commit : Bool) : MapCopy := if commit && e.pending then e.staged else e.active

theorem commit_eq (e : MapEntry) (commit : Bool) : (if commit then e.commit else e) =
    { e with active := e.through commit, pending := e.pending && !(commit && e.pending) } := by
  obtain ⟨active, staged, pending, clipping, clips⟩ := e
  cases commit <;> cases pending <;> rfl

theorem rawBlock_eq (old new : MapCopy) (applied : Bool) (src : List Sample) : rawBlock old new applied src =
    (List.range src.length).map fun n => gainedSample (src.getD n 0) (blockGain old new applied n) := by
  refine List.ext_getElem (by simp [rawBlock]) fun n hn _ => ?_
  have below : n < src.length := by simpa [rawBlock] using hn
  simp [rawBlock, List.getD_eq_getElem?_getD, List.getElem?_eq_getElem below]

theorem outOfRange24_eq (x : Int) : outOfRange24 x = decide (x < -8388608 ∨ 8388607 < x) := (Bool.decide_or _ _).symm

theorem sat24_eq (x : Int) : sat24 x = max (-8388608) (min 8388607 x) := clampInt_eq (by decide) x

/-- An entry at a boundary, `y` being the rounded results of its block (R121, R128, R131, R135). -/
theorem form_eq (e : MapEntry) (k : Fin 64) (commit : Bool) (a : BoundaryAudio) (y : List Int)
    (hy : rawBlock e.active (e.through commit) (commit && e.pending) (a.sourceBlock (e.through commit).source) = y) :
    e.form k commit a =
      ({ e with
          active := e.through commit, pending := e.pending && !(commit && e.pending)
          clips := e.clips + BitVec.ofNat 32 (y.countP outOfRange24), clipping := decide (0 < y.countP outOfRange24) },
        y.map fun v => sampleOf (sat24 v), e.clipPosts k (y.countP outOfRange24)) := by
  rw [MapEntry.form, commit_eq, hy]
  rfl

/-! ## The Output Assembler at a boundary -/

section Projections

variable (s : State) (inp : BoundaryInput) (k : Fin 64)

/-- One output channel at a boundary: its entry, its samples and its notices. -/
def State.channelAt : MapEntry × List Sample × List Post := (s.mapEntry k).form k s.output.commit (s.audioAt inp)

theorem boundary_mapEntry : (s.boundary inp).mapEntry k = (s.channelAt inp k).1 := by
  obtain ⟨qs, parts⟩ := boundary_parts s inp
  rw [State.mapEntry, congrArg State.output parts]
  exact vmap_get s.output.entries _ k

theorem boundary_tdmOut : (s.boundary inp).output.tdmOut = (List.finRange 64).map fun k => (s.channelAt inp k).2.1 := by
  obtain ⟨qs, parts⟩ := boundary_parts s inp
  rw [congrArg State.output parts]
  rfl

/-- A slot of a frame carries its channel's sample in its upper 24 bits (R121). -/
theorem boundary_tdmFrame (n : Nat) : ((s.boundary inp).tdmFrame n).getD k.val 0 = (s.channelAt inp k).2.1.getD n 0 ++ 0#8 := by
  simp [State.tdmFrame, boundary_tdmOut, List.getD_eq_getElem?_getD]

/-- The notices of the Output Assembler are posted at the boundary. -/
theorem boundary_posts_output {p : Post} (h : p ∈ (s.output.boundary (s.audioAt inp)).2) :
    s.Posted (s.boundary inp) (s.boundary inp).clock.hbc p := by
  obtain ⟨qs, parts⟩ := boundary_parts s inp
  rw [boundary_hbc]
  refine ⟨_, ?_, congrArg State.notices parts⟩
  exact List.mem_append_left _ (List.mem_append_right _ h)

theorem boundary_posts_channel {p : Post} (h : p ∈ (s.channelAt inp k).2.2) :
    s.Posted (s.boundary inp) (s.boundary inp).clock.hbc p := by
  refine boundary_posts_output s inp (List.mem_append_right _ ?_)
  rw [vmap, vgen_toList]
  exact List.mem_flatten_of_mem (List.mem_map_of_mem (List.mem_finRange k)) h

/-- A commit that is served posts the number of the entries applied (R135). -/
theorem boundary_posts_commit (h : s.output.commit = true) : s.Posted (s.boundary inp) (s.boundary inp).clock.hbc
    { kind := .commitDone, subject := 0, detail := ((List.finRange 64).countP fun k => (s.mapEntry k).pending : Nat) } := by
  refine boundary_posts_output s inp (List.mem_append_left _ ?_)
  rw [OutputUnit.commitPosts, if_pos h, pendingCount_eq]
  exact List.mem_singleton_self _

end Projections

/-- COMMIT_APPLY is the boundary when a commit is requested (log 2). -/
theorem exec_commitApply {s : State} (low : s.resetLow = false) (h : s.output.commit = true) (inp : BoundaryInput) :
    exec (.commitApply inp) s = .next (s.boundary inp) :=
  ((row_of_due rfl (Iff.rfl (a := s.output.commit = true))).2.2 h).trans (exec_houseBlockBoundary low inp)

/-! ## Every clause of O44 -/

/-- Settles O44: the source block of each kind, then the entry of a channel, its frames and its notice from the block's rounded
results. -/
theorem outputBlockIsFormedThroughTheMap : Obligations.OutputBlockIsFormedThroughTheMap := by
  refine ⟨⟨rfl, rfl, fun l n => ⟨toneSample_mirror l, toneSample_halfCycle l n⟩⟩, fun s inp low hm => ?_⟩
  refine ⟨s.boundary inp, fun k => (s.audioAt inp).sourceBlock ((s.mapEntry k).through s.output.commit).source,
    exec_houseBlockBoundary low inp, fun h => ⟨exec_commitApply low h inp, boundary_posts_commit s inp h⟩, ?_⟩
  rintro k applied old new g0 g1 g y clipped rfl rfl hnew rfl rfl hg hy hclipped
  have through : new = (s.mapEntry k).through s.output.commit := hnew
  dsimp only at hy ⊢
  rw [← through] at hy ⊢
  have length := sourceBlock_length hm inp new.source
  have results : rawBlock (s.mapEntry k).active new (s.output.commit && (s.mapEntry k).pending)
      ((s.audioAt inp).sourceBlock new.source) = (List.range 48).map y := by
    rw [rawBlock_eq, length, hy, hg]
    rfl
  have count : ((List.range 48).map y).countP outOfRange24 = clipped := by
    rw [hclipped, List.countP_map]
    exact List.countP_congr fun n _ => by rw [Function.comp_apply, outOfRange24_eq]
  have channel : s.channelAt inp k = _ := form_eq (s.mapEntry k) k s.output.commit (s.audioAt inp) _ (through ▸ results)
  rw [← through, count] at channel
  refine ⟨length, fun e => by rw [e]; rfl, fun l e n hn => by rw [e]; exact toneBlock_getD l hn, fun i ch e => ?_,
    fun r ch e => by rw [e]; exact sourceBlock_feed s inp r ch, fun n hn => ?_, ?_, fun saturates clean => ?_⟩
  · rw [e]
    exact ⟨fun idle => sourceBlock_undrawn hm inp idle ch, fun drawn anchored => sourceBlock_drawn hm inp drawn anchored ch⟩
  · rw [boundary_tdmFrame, channel]
    simp [List.getD_eq_getElem?_getD, List.getElem?_range hn, sat24_eq]
  · rw [boundary_mapEntry, channel]
  · refine boundary_posts_channel s inp k ?_
    rw [channel, MapEntry.clipPosts, if_pos ⟨saturates, clean⟩]
    exact List.mem_singleton_self _

end Sys2Proof.Machine
end

section
/-! SUPPORT. The mix of a return feed (R145): its exact sums, its rounding (00_scope 5.3) and its saturation; and O48. -/

namespace Sys2Proof.Machine

/-! ## The exact sums -/

theorem weightedSum_eq (row : List Half) (talkback : Word) (flag : Bool) (frame : Frame) :
    weightedSum row talkback flag frame =
      ∑ j ∈ (Finset.range 32).filter (fun j => talkback.getLsbD j = flag), (row.getD j 0).toInt * (frame.getD j 0).toInt := by
  have through (n : Nat) : (List.range n).foldl (fun t j =>
      if talkback.getLsbD j = flag then t + (row.getD j 0).toInt * (frame.getD j 0).toInt else t) 0 =
        ∑ j ∈ Finset.range n, if talkback.getLsbD j = flag then (row.getD j 0).toInt * (frame.getD j 0).toInt else 0 := by
    induction n with
    | zero => rfl
    | succ n ih =>
      rw [List.range_succ, List.foldl_append, ih, List.foldl_cons, List.foldl_nil, Finset.sum_range_succ]
      split
      · rfl
      · exact (add_zero _).symm
  rw [weightedSum, through, Finset.sum_filter]

/-! ## The rounding (00_scope 5.3) -/

/-- Half of `d` more, divided by `d`, is the nearest number, and the upper one of two that are equally near. -/
theorem nearest_div (n : Nat) {d : Nat} (h : 0 < d) :
    2 * n < d * (2 * ((2 * n + d) / (2 * d)) + 1) ∧ d * (2 * ((2 * n + d) / (2 * d))) ≤ 2 * n + d := by
  have above := Nat.lt_mul_div_succ (2 * n + d) (show 0 < 2 * d by omega)
  have below := Nat.mul_div_le (2 * n + d) (2 * d)
  constructor <;> linarith

/-- Rounding reads the number of a value and keeps its sign. -/
theorem divHalfAway_nonneg (n d : Nat) : divHalfAway n d = ((2 * n + d) / (2 * d) : Nat) := if_pos (Int.natCast_nonneg n)

theorem divHalfAway_neg (x : Int) (d : Nat) : divHalfAway (-x) d = -divHalfAway x d := by
  unfold divHalfAway
  rw [Int.natAbs_neg]
  split_ifs
  · obtain rfl : x = 0 := by omega
    have none : d / (2 * d) = 0 := by
      obtain rfl | h := d.eq_zero_or_pos
      · rfl
      · exact Nat.div_eq_of_lt (by omega)
    simp [none]
  · rw [neg_neg]
  · rfl
  · omega

theorem divHalfAway_nearest (x : Int) {d : Nat} (h : 0 < d) : 2 * (x - d * divHalfAway x d).natAbs ≤ d ∧
    (2 * (x - d * divHalfAway x d).natAbs = d → x.natAbs < (d * divHalfAway x d).natAbs) := by
  have natural (n : Nat) : 2 * ((n : Int) - d * divHalfAway n d).natAbs ≤ d ∧
      (2 * ((n : Int) - d * divHalfAway n d).natAbs = d → (n : Int).natAbs < (d * divHalfAway n d).natAbs) := by
    obtain ⟨above, below⟩ := nearest_div n h
    rw [divHalfAway_nonneg]
    generalize (2 * n + d) / (2 * d) = q at above below ⊢
    have product : d * (2 * q + 1) = 2 * (d * q) + d ∧ d * (2 * q) = 2 * (d * q) := by constructor <;> ring
    rw [product.1] at above
    rw [product.2] at below
    rw [← Nat.cast_mul]
    generalize d * q = m at above below ⊢
    omega
  obtain ⟨n, rfl | rfl⟩ := x.eq_nat_or_neg
  · exact natural n
  · have mirrored : -(n : Int) - d * -divHalfAway n d = -((n : Int) - d * divHalfAway n d) := by ring
    rw [divHalfAway_neg, mirrored, mul_neg, Int.natAbs_neg, Int.natAbs_neg, Int.natAbs_neg]
    exact natural n

/-! ## The mix of a channel -/

theorem rawMix_length (f : Feed) (c : Nat) (input : List Frame) (sampled : Half) : (f.rawMix c input sampled).length = input.length :=
  List.length_map _

theorem rawMix_getD (f : Feed) (c : Nat) {input : List Frame} (sampled : Half) {n : Nat} (h : n < input.length) :
    (f.rawMix c input sampled).getD n 0 = mixSample (f.row c) f.talkback (f.dimAt sampled) (input.getD n []) := by
  simp [Feed.rawMix, List.getD_eq_getElem?_getD, h]

/-- A value brought into the sample range is held exactly. -/
theorem sampleOf_sat24_toInt (x : Int) : (sampleOf (sat24 x)).toInt = max (-8388608) (min 8388607 x) := by
  rw [sat24_eq, sampleOf_toInt (by omega) (by omega)]

theorem mix24_length (raw : List Int) : (mix24 raw).length = raw.length := List.length_map _

theorem mix24_getD {raw : List Int} {n : Nat} (h : n < raw.length) : (mix24 raw).getD n 0 = sampleOf (sat24 (raw.getD n 0)) := by
  simp [mix24, List.getD_eq_getElem?_getD, h]

/-- Settles O48: the sums, the dim gain, each frame of the mix, its saturation, and the rounding. -/
theorem mixIsTheExactSumRounded : Obligations.MixIsTheExactSumRounded := by
  refine ⟨?_, fun f sampled => rfl, fun f c input sampled => ⟨rawMix_length f c input sampled, fun n h => rawMix_getD f c sampled h⟩,
    fun raw => ⟨mix24_length raw, fun n h => ?_⟩, fun x d h => divHalfAway_nearest x h⟩
  · rintro row talkback dim frame P T rfl rfl
    rw [← weightedSum_eq, ← weightedSum_eq]
    rfl
  · rw [mix24_getD h, sampleOf_sat24_toInt]

end Sys2Proof.Machine
end

section
/-! SUPPORT. The return requests as they are served (R139 to R144, R150): the settings of a RETURN_SET, the loads that move between the
ports, a row of coefficients, and the report of a feed; and O45 and O46. -/

namespace Sys2Proof.Machine

/-! ## Loads that move between the ports (R140, R144) -/

/-- A charge moves from the ports that it named to those that it names now. -/
def State.moveTransmit (s : State) (old new : PortId → Bool) (load : Nat) : State :=
  { s with
    portA := s.portA.moveTransmit (old .a) (new .a) load
    portB := s.portB.moveTransmit (old .b) (new .b) load }

theorem moveTransmit_port (s : State) (old new : PortId → Bool) (load : Nat) (p : PortId) :
    (s.moveTransmit old new load).port p = { s.port p with
      transmitLoad := if old p ∧ ¬new p then (s.port p).transmitLoad - load
        else if new p ∧ ¬old p then (s.port p).transmitLoad + load else (s.port p).transmitLoad } := by
  have moved (x : Port) (a b : Bool) : x.moveTransmit a b load = { x with
      transmitLoad := if a ∧ ¬b then x.transmitLoad - load else if b ∧ ¬a then x.transmitLoad + load else x.transmitLoad } := by
    cases a <;> cases b <;> rfl
  cases p with
  | a => exact moved _ _ _
  | b => exact moved _ _ _

/-- A charge that is new to the ports that it names. -/
theorem moveTransmit_port_charged (s : State) (names : PortId → Bool) (load : Nat) (p : PortId) :
    (s.moveTransmit (fun _ => false) names load).port p = { s.port p with
      transmitLoad := if names p then (s.port p).transmitLoad + load else (s.port p).transmitLoad } := by
  rw [moveTransmit_port]
  simp

/-- A charge that is given back to the ports that it named. -/
theorem moveTransmit_port_released (s : State) (names : PortId → Bool) (load : Nat) (p : PortId) :
    (s.moveTransmit names (fun _ => false) load).port p = { s.port p with
      transmitLoad := if names p then (s.port p).transmitLoad - load else (s.port p).transmitLoad } := by
  rw [moveTransmit_port]
  simp

/-- Every port that a charge is new to has room for it (R140, check 4; R142, check 4). -/
def State.RoomFor (s : State) (old new : PortId → Bool) (load : Nat) : Prop :=
  ∀ p, new p = true → old p = false → (s.port p).transmitLoad + load ≤ (s.port p).transmitBudget

theorem roomFor_iff (s : State) (old new : PortId → Bool) (load : Nat) :
    (s.portA.admitsTransmit (old .a) (new .a) load && s.portB.admitsTransmit (old .b) (new .b) load) = true ↔
      s.RoomFor old new load := by
  have admits (x : Port) (a b : Bool) : x.admitsTransmit a b load = true ↔
      (b = true → a = false → x.transmitLoad + load ≤ x.transmitBudget) := by
    cases a <;> cases b <;> simp [Port.admitsTransmit]
  rw [Bool.and_eq_true, admits, admits]
  exact ⟨fun h p => by cases p with | a => exact h.1 | b => exact h.2, fun h => ⟨h .a, h .b⟩⟩

/-! ## RETURN_SET (R140) -/

/-- The body of a RETURN_SET that gives a feed the settings of `y`. -/
def returnSetBody (r : Fin 16) (y : Feed) : List Byte :=
  [byteOf r.val] ++ be16 y.flowId.toNat ++
    [y.ports.code, byteOf y.channels, byteOf y.format.code, byteOf y.packing, y.mode.code] ++ beWord y.talkback ++
    [y.dimLine.elim 255 fun k => byteOf k.val] ++ be16 y.dimGain.toNat ++ be16 y.cueMask.toNat

theorem feedPortsOf_code (x : FeedPorts) : feedPortsOf x.code.toNat = some x := by cases x <;> rfl

theorem feedModeOf_code (x : FeedMode) : feedModeOf x.code.toNat = some x := by cases x <;> rfl

/-- The byte of a dim line: the number of an input, or 255 for none (R140). -/
theorem dimLine_byte (d : Option (Fin 16)) :
    (decide ((d.elim 255 fun k => byteOf k.val : Byte).toNat < 16) || (d.elim 255 fun k => byteOf k.val : Byte).toNat == 255) = true ∧
      toFin? 16 (d.elim 255 fun k => byteOf k.val : Byte).toNat = d := by
  cases d with
  | none => exact ⟨rfl, rfl⟩
  | some k =>
    have line : (byteOf k.val).toNat = k.val := byteOf_toNat_lt (by omega)
    simp only [Option.elim_some, line, toFin?_val, k.isLt, decide_true, Bool.true_or, and_self]

/-- A feed with the settings of another (R140). -/
def Feed.withSettings (f y : Feed) : Feed :=
  { f with
    flowId := y.flowId, ports := y.ports, channels := y.channels, format := y.format, packing := y.packing, mode := y.mode
    talkback := y.talkback, dimLine := y.dimLine, dimGain := y.dimGain, cueMask := y.cueMask }

/-- What a feed takes of the body of a RETURN_SET whose fields are in range: nothing when a TEST feed would send L16 or a RUNNING one
would lose its flow id, and else every setting (R140, check 2). -/
theorem withFields_returnSetBody (f : Feed) (r : Fin 16) {y : Feed} (hc : y.channels = 1 ∨ y.channels = 2) (hf : y.format ≠ .l32)
    (hk : y.packing ∈ [1, 2, 4]) : f.withFields (returnSetBody r y) =
      if (y.mode = .test ∧ y.format = .l16) ∨ (f.running = true ∧ y.flowId = 0) then none else some (f.withSettings y) := by
  have flow : field2 (returnSetBody r y) 1 = y.flowId.toNat := beNat_be16 y.flowId.isLt
  have ports : field1 (returnSetBody r y) 3 = y.ports.code.toNat := rfl
  have channels : field1 (returnSetBody r y) 4 = y.channels := byteOf_toNat_lt (by omega)
  have format : field1 (returnSetBody r y) 5 = y.format.code := byteOf_toNat_lt (y.format.code_lt.trans (by decide))
  have packing : field1 (returnSetBody r y) 6 = y.packing := byteOf_toNat_lt (by simp at hk; omega)
  have mode : field1 (returnSetBody r y) 7 = y.mode.code.toNat := rfl
  have talkback : field4 (returnSetBody r y) 8 = y.talkback.toNat := beNat_be32 y.talkback.isLt
  have dim : field1 (returnSetBody r y) 12 = (y.dimLine.elim 255 fun k => byteOf k.val : Byte).toNat := rfl
  have gain : field2 (returnSetBody r y) 13 = y.dimGain.toNat := beNat_be16 y.dimGain.isLt
  have cue : field2 (returnSetBody r y) 15 = y.cueMask.toNat := beNat_be16 y.cueMask.isLt
  obtain ⟨line, named⟩ := dimLine_byte y.dimLine
  have refusal : (!(y.mode == .test && y.format == .l16) && !(f.running && y.flowId.toNat == 0)) = true ↔
      ¬((y.mode = .test ∧ y.format = .l16) ∨ (f.running = true ∧ y.flowId = 0)) := by
    have zero : y.flowId = 0 ↔ y.flowId.toNat = 0 := BitVec.toNat_inj.symm
    simp only [zero, Bool.and_eq_true, Bool.not_eq_true', ← Bool.not_eq_true, beq_iff_eq, not_or]
  have ranges : (y.channels == 1 || y.channels == 2) = true ∧ (y.format != .l32) = true ∧ [1, 2, 4].contains y.packing = true :=
    ⟨by simpa using hc, by simpa using hf, List.contains_iff_mem.mpr hk⟩
  simp only [Feed.withFields, flow, ports, channels, format, packing, mode, talkback, dim, gain, cue, feedPortsOf_code, formatOf_code,
    feedModeOf_code, ranges, line, named, Bool.true_and, refusal, ite_not, BitVec.ofNat_toNat, BitVec.setWidth_eq]
  rfl

/-- A body whose fields are out of range gives a feed nothing (R140, check 2). -/
theorem withFields_outOfRange (f : Feed) {b : List Byte} (h : 2 < field1 b 3 ∨ (field1 b 4 ≠ 1 ∧ field1 b 4 ≠ 2) ∨ 1 < field1 b 5 ∨
    field1 b 6 ∉ [1, 2, 4] ∨ 1 < field1 b 7 ∨ (16 ≤ field1 b 12 ∧ field1 b 12 ≠ 255)) : f.withFields b = none := by
  cases e : f.withFields b with
  | none => rfl
  | some y =>
    refine absurd h ?_
    unfold Feed.withFields at e
    split at e
    next ports format mode hp hf hm =>
      dsimp only at e
      split at e
      next hr =>
        simp only [Bool.and_eq_true, Bool.or_eq_true, decide_eq_true_eq, beq_iff_eq, bne_iff_ne, List.contains_iff_mem] at hr
        obtain ⟨⟨⟨⟨⟨hc, notL32⟩, hk⟩, hd⟩, -⟩, -⟩ := hr
        have portsRange : ¬2 < field1 b 3 := fun large => by
          rw [feedPortsOf, if_neg (by omega), if_neg (by omega), if_neg (by omega)] at hp
          cases hp
        have formatRange : ¬1 < field1 b 5 := fun large => by
          obtain ⟨below, bytes⟩ := formatOf_eq_some hf
          have size : format.bytes = 4 := by omega
          cases format with
          | l16 => cases size
          | l24 => cases size
          | l32 => exact notL32 rfl
        have modeRange : ¬1 < field1 b 7 := fun large => by
          rw [feedModeOf, if_neg (by omega), if_neg (by omega)] at hm
          cases hm
        simp only [not_or, hk, not_true_eq_false, not_false_eq_true, true_and]
        omega
      · cases e
    · cases e

theorem serveReturnSet_notFound (s : State) {b : List Byte} (h : 16 ≤ field1 b 0) : serveReturnSet s b = .error .notFound := by
  simp only [serveReturnSet, toFin?_eq_none h]

theorem serveReturnSet_badValue {s : State} {b : List Byte} {r : Fin 16} (hr : field1 b 0 = r.val) (h : (s.feed r).withFields b = none) :
    serveReturnSet s b = .error .badValue := by
  simp only [serveReturnSet, hr, toFin?_val, h]

/-- RETURN_SET once its fields are found good, at a STOPPED feed. -/
theorem serveReturnSet_stopped {s : State} {b : List Byte} {r : Fin 16} {y : Feed} (hr : field1 b 0 = r.val)
    (h : (s.feed r).withFields b = some y) (hs : (s.feed r).running = false) :
    serveReturnSet s b = .ok (s.setFeed r y, [0] ++ be32 (s.feed r).load) := by
  obtain ⟨running, load⟩ := Feed.withFields_charged h
  simp only [serveReturnSet, hr, toFin?_val, h, hs, running, load, Bool.false_and, Bool.not_false, Bool.true_or, require_true_bind]
  rfl

open Classical in
/-- RETURN_SET once its fields are found good, at a RUNNING feed: its last two checks in order, and the load that moves. -/
theorem serveReturnSet_running {s : State} {b : List Byte} {r : Fin 16} {y : Feed} (hr : field1 b 0 = r.val)
    (h : (s.feed r).withFields b = some y) (hs : (s.feed r).running = true) : serveReturnSet s b =
      if ¬(y.channels = (s.feed r).channels ∧ y.format = (s.feed r).format ∧ y.packing = (s.feed r).packing) then .error .badState
      else if ¬s.RoomFor (s.feed r).ports.names y.ports.names (s.feed r).load then .error .noBandwidth
      else .ok ((s.setFeed r y).moveTransmit (s.feed r).ports.names y.ports.names (s.feed r).load, [1] ++ be32 (s.feed r).load) := by
  obtain ⟨running, load⟩ := Feed.withFields_charged h
  have kept : (y.channels == (s.feed r).channels && y.format == (s.feed r).format && y.packing == (s.feed r).packing) = true ↔
      y.channels = (s.feed r).channels ∧ y.format = (s.feed r).format ∧ y.packing = (s.feed r).packing := by
    simp only [Bool.and_eq_true, beq_iff_eq, and_assoc]
  simp only [serveReturnSet, hr, toFin?_val, h, hs, running, load, require_bind, Bool.true_and, Bool.not_not, Bool.not_true,
    Bool.false_or, ← Bool.not_eq_true, kept, roomFor_iff]
  rfl

/-- The refusal of a charge that some port has no room for. -/
theorem not_roomFor_iff {s : State} {old new : PortId → Bool} {load : Nat} : ¬s.RoomFor old new load ↔
    ∃ p, new p = true ∧ old p = false ∧ (s.port p).transmitBudget < (s.port p).transmitLoad + load := by
  simp only [State.RoomFor, not_forall, Nat.not_le, exists_prop]

/-- Settles O45: the codes; the settings that a body gives, at a STOPPED feed and at a RUNNING one; and the fields out of range. -/
theorem returnSetStoresTheSettings : Obligations.ReturnSetStoresTheSettings := by
  refine ⟨⟨rfl, rfl, rfl⟩, ?_, fun s b hn hl => ?_⟩
  · rintro s r f y hn rfl hc hf hk hy
    have named : field1 (returnSetBody r y) 0 = r.val := byteOf_toNat_lt (by omega)
    have settings := withFields_returnSetBody (s.feed r) r hc hf hk
    refine ⟨fun bad => ?_, fun good => ?_⟩
    · exact take_refused hn rfl (serveReturnSet_badValue named (settings.trans (if_pos bad)))
    have taken : (s.feed r).withFields (returnSetBody r y) = some y := (settings.trans (if_neg good)).trans (congrArg some hy.symm)
    refine ⟨fun stopped => take_granted hn rfl (serveReturnSet_stopped named taken stopped), fun running change => ?_,
      fun running channels format packing => ?_⟩
    · exact take_refused hn rfl ((serveReturnSet_running named taken running).trans (if_pos change))
    have served := (serveReturnSet_running named taken running).trans (if_neg (not_not.mpr ⟨channels, format, packing⟩))
    refine ⟨fun full => ?_, fun room => ?_⟩
    · exact take_refused hn rfl (served.trans (if_pos (not_roomFor_iff.mpr full)))
    · refine ⟨_, take_granted hn rfl (served.trans (if_neg (not_not.mpr room))), fun p => ?_, rfl⟩
      rw [moveTransmit_port, setFeed_port]
  · refine ⟨fun h => take_refused hn (by rw [hl]; rfl) (serveReturnSet_notFound s h), fun h bad => ?_⟩
    exact take_refused hn (by rw [hl]; rfl) (serveReturnSet_badValue (r := ⟨_, h⟩) rfl (withFields_outOfRange _ bad))

/-! ## RETURN_COEF (R141) -/

/-- A piece of a list that is joined from pieces of one length. -/
theorem flatMap_piece {α β : Type} {f : α → List β} {size : Nat} {l : List α} (h : ∀ a ∈ l, (f a).length = size) {i : Nat}
    (hi : i < l.length) : ((l.flatMap f).drop (i * size)).take size = f l[i] := by
  induction l generalizing i with
  | nil => exact absurd hi (Nat.not_lt_zero i)
  | cons a l ih =>
    have first : (f a).length = size := h a List.mem_cons_self
    cases i with
    | zero => rw [Nat.zero_mul, List.drop_zero, List.flatMap_cons, List.take_left' first, List.getElem_cons_zero]
    | succ i =>
      rw [List.flatMap_cons, Nat.succ_mul, Nat.add_comm, ← List.drop_drop, List.drop_left' first,
        ih (fun b hb => h b (List.mem_cons_of_mem a hb)) (Nat.lt_of_succ_lt_succ hi), List.getElem_cons_succ]

/-- The coefficients of a RETURN_COEF are the row that its body is made from. -/
theorem coefficients_body (r ch : Byte) {row : List Half} (h : row.length = 32) :
    coefficients ([r, ch] ++ row.flatMap fun c => be16 c.toNat) = row := by
  refine List.ext_getElem (by simp [coefficients, h]) fun j _ hj => ?_
  have piece : field2 ([r, ch] ++ row.flatMap fun c => be16 c.toNat) (2 + 2 * j) = row[j].toNat := by
    have after : ([r, ch] ++ row.flatMap fun c => be16 c.toNat).drop 2 = row.flatMap fun c => be16 c.toNat := rfl
    rw [field2, ← List.drop_drop, after, Nat.mul_comm, flatMap_piece (fun c _ => be16_length c.toNat) hj, beNat_be16 row[j].isLt]
  simp only [coefficients, List.getElem_map, List.getElem_range, piece, BitVec.ofNat_toNat, BitVec.setWidth_eq]

/-- RETURN_COEF as it is served: its check, and the row that it replaces. -/
theorem serveReturnCoef_eq (s : State) (r : Fin 16) (ch : Byte) {row : List Half} (h : row.length = 32) :
    serveReturnCoef s ([byteOf r.val, ch] ++ row.flatMap fun c => be16 c.toNat) =
      if ch = 0 then .ok (s.setFeed r { s.feed r with row0 := row }, [])
      else if ch = 1 then .ok (s.setFeed r { s.feed r with row1 := row }, [])
      else .error .badValue := by
  have named : toFin? 16 (field1 ([byteOf r.val, ch] ++ row.flatMap fun c => be16 c.toNat) 0) = some r := toFin?_group r
  have channel : field1 ([byteOf r.val, ch] ++ row.flatMap fun c => be16 c.toNat) 1 = ch.toNat := rfl
  have code (n : Byte) : ch = n ↔ ch.toNat = n.toNat := BitVec.toNat_inj.symm
  simp only [serveReturnCoef, named, channel, coefficients_body _ _ h, require_bind, decide_eq_false_iff_not, code]
  obtain e | e | e : ch.toNat = 0 ∨ ch.toNat = 1 ∨ 1 < ch.toNat := by omega
  · simp only [e]
    rfl
  · simp only [e]
    rfl
  · rw [if_pos (by omega), if_neg fun h => ?_, if_neg fun h => ?_]
    · exact absurd (e.trans_eq h) (by decide)
    · exact absurd (e.trans_eq h) (by decide)

/-! ## RETURN_START and RETURN_STOP (R142 to R144) -/

/-- A feed at its start (R142): it runs from sequence 0, and from generator state 1 in TEST. -/
def Feed.started (f : Feed) : Feed :=
  { f with running := true, load := f.loadFigure, nextSeq := 0, assembly := [], generator := if f.mode = .test then 1 else f.generator }

open Classical in
/-- RETURN_START as it is served: its checks in order, and the load that it charges. -/
theorem serveReturnStart_eq (s : State) (r : Fin 16) : serveReturnStart s [byteOf r.val] =
    if (s.feed r).running = true then .error .badState
    else if (s.feed r).flowId = 0 then .error .badValue
    else if ¬s.RoomFor (fun _ => false) (s.feed r).ports.names (s.feed r).loadFigure then .error .noBandwidth
    else
      let t := (s.setFeed r (s.feed r).started).moveTransmit (fun _ => false) (s.feed r).ports.names (s.feed r).loadFigure
      .ok (t, be32 (s.feed r).loadFigure ++ be32 t.portA.transmitLoad ++ be32 t.portB.transmitLoad) := by
  have room := roomFor_iff s (fun _ => false) (s.feed r).ports.names (s.feed r).loadFigure
  simp only [serveReturnStart, toFin?_group, require_bind, Bool.not_eq_false', bne_eq_false_iff_eq]
  simp only [← Bool.not_eq_true, room]
  rfl

/-- RETURN_STOP as it is served: the load that it gives back. -/
theorem serveReturnStop_eq (s : State) (r : Fin 16) : serveReturnStop s [byteOf r.val] =
    if (s.feed r).running = true then
      .ok ((s.setFeed r { s.feed r with running := false, load := 0, assembly := [] }).moveTransmit (s.feed r).ports.names
        (fun _ => false) (s.feed r).load, [0])
    else .ok (s, [0]) := by
  simp only [serveReturnStop, toFin?_group]
  rfl

/-! ## RETURN_QUERY (R150) -/

theorem settings_eq (f : Feed) : f.settings = be16 f.flowId.toNat ++
    [f.ports.code, byteOf f.channels, byteOf f.format.code, byteOf f.packing, f.mode.code] ++ beWord f.talkback ++
    [f.dimLine.elim 255 fun k => byteOf k.val] ++ be16 f.dimGain.toNat ++ be16 f.cueMask.toNat := by
  unfold Feed.settings
  cases f.dimLine with
  | none => rfl
  | some k => rfl

theorem feedReport_eq (f : Feed) : f.report =
    [if f.running then 1 else 0] ++ be16 f.flowId.toNat ++
      [f.ports.code, byteOf f.channels, byteOf f.format.code, byteOf f.packing, f.mode.code] ++ beWord f.talkback ++
      [f.dimLine.elim 255 fun k => byteOf k.val] ++ be16 f.dimGain.toNat ++ be16 f.cueMask.toNat ++
      (f.row0 ++ f.row1).flatMap (fun c => be16 c.toNat) ++ be32 f.nextSeq.toNat ++ be32 f.assembly.length ++ [f.assemblyMode.code] ++
      be32 f.load ++ [f.sentA, f.sentB, f.unsentA, f.unsentB, f.saturated0, f.saturated1].flatMap beWord := by
  simp only [Feed.report, settings_eq, beFlag, List.flatMap_append, List.flatMap_cons, List.flatMap_nil, List.append_nil,
    List.append_assoc]

/-- RETURN_QUERY as it is served: its check, the report, and the counters that it clears. -/
theorem serveReturnQuery_eq (s : State) (r : Fin 16) (clear : Byte) : serveReturnQuery s [byteOf r.val, clear] =
    if 1 < clear.toNat then .error .badValue
    else .ok (if clear = 1 then s.setFeed r (s.feed r).clearCounters else s, (s.feed r).report) := by
  have named : toFin? 16 (field1 [byteOf r.val, clear] 0) = some r := toFin?_group r
  have flag : field1 [byteOf r.val, clear] 1 = clear.toNat := rfl
  have one : clear.toNat = 1 ↔ clear = 1 := BitVec.toNat_inj (y := 1)
  simp only [serveReturnQuery, named, flag, one, require_bind, decide_eq_false_iff_not, Nat.not_le]
  rfl

/-! ## Every clause of O46 -/

/-- Every request of one feed refuses a number above 15 (R139). -/
theorem feedRequests_notFound (s : State) {b : Byte} (h : 16 ≤ b.toNat) (rest : List Byte) :
    serveReturnCoef s (b :: rest) = .error .notFound ∧ serveReturnStart s (b :: rest) = .error .notFound ∧
      serveReturnStop s (b :: rest) = .error .notFound ∧ serveReturnQuery s (b :: rest) = .error .notFound := by
  simp only [serveReturnCoef, serveReturnStart, serveReturnStop, serveReturnQuery, field1_cons, toFin?_eq_none h, and_self]

/-- Settles O46: the codes, then each request as it is served, and the numbers out of range. -/
theorem returnCoefStartStopAndQuery : Obligations.ReturnCoefStartStopAndQuery := by
  refine ⟨⟨rfl, rfl, rfl⟩, ⟨fun s r ch row hl hn => ?_, ?_, fun s b clear rest hb => ?_⟩, ?_⟩
  · have length : bodyLength 0x51 = some ([byteOf r.val, ch] ++ row.flatMap fun c => be16 c.toNat).length := by
      rw [List.length_append, length_flatMap_const (n := 2) fun _ _ => rfl, hl]
      rfl
    have served := serveReturnCoef_eq s r ch hl
    split_ifs at served ⊢
    · exact take_granted hn length served
    · exact take_granted hn length served
    · exact take_refused hn length served
  · rintro s r f clear hn rfl
    have served := serveReturnQuery_eq s r clear
    rw [feedReport_eq] at served
    by_cases range : 1 < clear.toNat
    · rw [if_pos range] at served ⊢
      exact take_refused hn rfl served
    · rw [if_neg range] at served ⊢
      exact take_granted hn rfl served
  · refine ⟨fun hl hn => ?_, fun hn => ?_⟩
    · exact take_refused hn (by rw [List.length_cons, hl]; rfl) (feedRequests_notFound s hb rest).1
    · exact take_refused hn rfl (feedRequests_notFound s hb [clear]).2.2.2
  · rintro s r f load rfl hload
    obtain rfl : load = (s.feed r).loadFigure := hload
    refine ⟨fun hn => ?_, fun hn => ?_, fun b hb => ?_⟩
    · have served := serveReturnStart_eq s r
      refine ⟨fun running => take_refused hn rfl (served.trans (if_pos running)), fun stopped unset => ?_, fun stopped set => ?_⟩
      · exact take_refused hn rfl (served.trans ((if_neg (Bool.not_eq_true _ ▸ stopped)).trans (if_pos unset)))
      replace served := served.trans ((if_neg (Bool.not_eq_true _ ▸ stopped)).trans (if_neg set))
      refine ⟨fun ⟨p, named, full⟩ => ?_, fun room => ?_⟩
      · exact take_refused hn rfl (served.trans (if_pos (not_roomFor_iff.mpr ⟨p, named, rfl, full⟩)))
      · refine ⟨_, take_granted hn rfl (served.trans (if_neg (not_not.mpr fun p named _ => room p named))), fun p => ?_, rfl⟩
        rw [moveTransmit_port_charged, setFeed_port]
    · have served := serveReturnStop_eq s r
      refine ⟨fun stopped => take_granted hn rfl (served.trans (if_neg (Bool.not_eq_true _ ▸ stopped))), fun running => ?_⟩
      refine ⟨_, take_granted hn rfl (served.trans (if_pos running)), fun p => ?_, rfl⟩
      rw [moveTransmit_port_released, setFeed_port]
    · obtain ⟨-, start, stop, -⟩ := feedRequests_notFound s hb []
      exact ⟨fun hn => take_refused hn rfl start, fun hn => take_refused hn rfl stop⟩

end Sys2Proof.Machine
end

section
/-! SUPPORT. A return feed at a boundary (R2, R9, R139, R145 to R149): the payload of a block, the block that a running feed forms, its
saturations, and the packet that it builds; and O47. -/

namespace Sys2Proof.Machine

/-! ## The payload of a block (R2, R146) -/

/-- The bytes of a sample stand in a payload at its instant and channel (R2). -/
theorem blockPayload_sample {format : SampleFormat} (hf : format ≠ .l32) (chans : List (List Sample)) {n c : Nat} (hn : n < 48)
    (hc : c < chans.length) : ((blockPayload format chans).drop ((n * chans.length + c) * format.bytes)).take format.bytes =
      wireSample format ((chans.getD c []).getD n 0) := by
  have instant (n : Nat) : (chans.flatMap fun ch => wireSample format (ch.getD n 0)).length = chans.length * format.bytes :=
    length_flatMap_const fun _ _ => wireSample_length hf _
  have within : c * format.bytes + format.bytes ≤ chans.length * format.bytes := by
    rw [← Nat.succ_mul]
    exact Nat.mul_le_mul_right _ hc
  have place : (n * chans.length + c) * format.bytes = n * (chans.length * format.bytes) + c * format.bytes := by ring
  rw [place, ← take_drop_take_drop _ within, blockPayload, flatMap_piece (fun n _ => instant n) (by simpa using hn),
    List.getElem_range, flatMap_piece (fun _ _ => wireSample_length hf _) hc, List.getD_eq_getElem _ _ hc]

theorem wireSample_l16 (v : Sample) :
    wireSample .l16 v = be16 (BitVec.ofInt 16 (max (-32768) (min 32767 (divHalfAway v.toInt 256)))).toNat := by
  rw [← clampInt_eq (by decide)]
  rfl

/-! ## The saturations of a block (R145, R146) -/

/-- A sample that the mix does not saturate is reduced to L16 from its own value. -/
theorem reduce16_unsaturated {x : Int} (hl : -8388608 ≤ x) (hu : x ≤ 8388607) : reduce16 (sampleOf (sat24 x)) = divHalfAway x 256 := by
  rw [reduce16, sampleOf_sat24_toInt, min_eq_right hu, max_eq_right hl]

theorem saturatedCount_eq (format : SampleFormat) (raw : List Int) : saturatedCount format raw = raw.countP fun v =>
    decide (v < -8388608 ∨ 8388607 < v ∨ (format = .l16 ∧ (divHalfAway v 256 < -32768 ∨ 32767 < divHalfAway v 256))) := by
  refine List.countP_congr fun v _ => ?_
  rw [Bool.or_eq_true, outOfRange24_eq, decide_eq_true_eq, decide_eq_true_eq, ← or_assoc]
  refine or_congr_right' fun inRange => ?_
  cases format with
  | l16 =>
    rw [reduce16_unsaturated (by omega) (by omega)]
    simp [outOfRange16]
  | l24 => simp
  | l32 => simp

/-! ## The block that a running feed forms (R145 to R147, R149) -/

theorem Feed.modeAt_eq (f : Feed) : f.modeAt = if f.assembly = [] then f.mode else f.assemblyMode := by
  unfold Feed.modeAt
  simp only [List.isEmpty_iff]

/-- The packet in assembly before its next block: an empty one takes the stored mode and the boundary. -/
theorem beginBlock_eq (f : Feed) (hbc : Word) : f.beginBlock hbc = { f with
    assemblyMode := f.modeAt
    firstBoundary := if f.assembly = [] then hbc else f.firstBoundary
    generator := if f.assembly = [] ∧ f.mode = .test ∧ f.lastMode = some .mix then 1 else f.generator } := by
  rw [Feed.modeAt_eq, Feed.beginBlock]
  by_cases empty : f.assembly = []
  · simp [empty]
  · simp [empty]

/-- The block that a feed forms of the input block and the sampled states, in a mode, from a generator state, with the state that the
generator is left in. -/
def Feed.blockOf (f : Feed) (mode : FeedMode) (start : BitVec 23) (input : List Frame) (sampled : Half) : List Byte × BitVec 23 :=
  match mode with
  | .mix => (blockPayload f.format ((List.range f.channels).map fun c => mix24 (f.rawMix c input sampled)), start)
  | .test => ((testSamples (48 * f.channels) start).2.flatMap (wireSample f.format), (testSamples (48 * f.channels) start).1)

theorem formBlock_eq (f : Feed) (input : List Frame) (sampled : Half) : f.formBlock input sampled = { f with
    assembly := f.assembly ++ [(f.blockOf f.assemblyMode f.generator input sampled).1]
    generator := (f.blockOf f.assemblyMode f.generator input sampled).2
    saturated0 := if f.assemblyMode = .mix then
      f.saturated0 + BitVec.ofNat 32 (saturatedCount f.format (f.rawMix 0 input sampled)) else f.saturated0
    saturated1 := if f.assemblyMode = .mix ∧ f.channels = 2 then
      f.saturated1 + BitVec.ofNat 32 (saturatedCount f.format (f.rawMix 1 input sampled)) else f.saturated1 } := by
  unfold Feed.formBlock Feed.blockOf
  cases f.assemblyMode with
  | mix => simp
  | test => simp

/-- The generator state from which a feed forms its next block (R149). -/
def Feed.startState (f : Feed) : BitVec 23 :=
  if f.assembly = [] ∧ f.mode = .test ∧ f.lastMode = some .mix then 1 else f.generator

/-- The next block of a feed and the state that the generator is left in. -/
def Feed.nextBlock (f : Feed) (input : List Frame) (sampled : Half) : List Byte × BitVec 23 :=
  f.blockOf f.modeAt f.startState input sampled

/-- A running feed with its next block appended (R145 to R147, R149). -/
theorem assembled_eq (f : Feed) (hbc : Word) (input : List Frame) (sampled : Half) : f.assembled hbc input sampled = { f with
    assembly := f.assembly ++ [(f.nextBlock input sampled).1], assemblyMode := f.modeAt
    firstBoundary := if f.assembly = [] then hbc else f.firstBoundary, generator := (f.nextBlock input sampled).2
    saturated0 := if f.modeAt = .mix then
      f.saturated0 + BitVec.ofNat 32 (saturatedCount f.format (f.rawMix 0 input sampled)) else f.saturated0
    saturated1 := if f.modeAt = .mix ∧ f.channels = 2 then
      f.saturated1 + BitVec.ofNat 32 (saturatedCount f.format (f.rawMix 1 input sampled)) else f.saturated1 } := by
  rw [Feed.assembled, formBlock_eq, beginBlock_eq]
  rfl

theorem nextBlock_mix {f : Feed} (h : f.modeAt = .mix) (input : List Frame) (sampled : Half) : f.nextBlock input sampled =
    (blockPayload f.format ((List.range f.channels).map fun c => mix24 (f.rawMix c input sampled)), f.generator) := by
  have start : f.startState = f.generator := by
    refine if_neg ?_
    rintro ⟨empty, test, -⟩
    rw [Feed.modeAt_eq, if_pos empty, test] at h
    cases h
  rw [Feed.nextBlock, h, start]
  rfl

/-- A packet that is formed in TEST mode carries L24 (R140). -/
theorem Feed.Ok.testBlock_l24 {f : Feed} (h : f.Ok) (test : f.modeAt = .test) : f.format = .l24 := by
  rw [Feed.modeAt_eq] at test
  split at test
  next empty => exact h.testFormat test
  next begun => exact h.assemblyFormat begun test

theorem nextBlock_test {f : Feed} (hf : f.Ok) (h : f.modeAt = .test) (input : List Frame) (sampled : Half)
    {made : BitVec 23 × List Sample}
    (hm : made = testSamples (48 * f.channels) (if f.assembly = [] ∧ f.lastMode = some .mix then 1 else f.generator)) :
    f.nextBlock input sampled = (made.2.flatMap bytes24, made.1) := by
  have start : f.startState = if f.assembly = [] ∧ f.lastMode = some .mix then 1 else f.generator := by
    have stored (empty : f.assembly = []) : f.mode = .test := by rwa [Feed.modeAt_eq, if_pos empty] at h
    refine if_congr ⟨fun e => ⟨e.1, e.2.2⟩, fun e => ⟨e.1, stored e.1, e.2⟩⟩ rfl rfl
  rw [Feed.nextBlock, h, start, Feed.blockOf, ← hm, hf.testBlock_l24 h]
  rfl

/-! ## The packet that a feed builds (R147, R148) -/

/-- The packet that a feed in order builds has the layout of R1. -/
theorem Feed.FormedOk.packet_ok {f : Feed} (h : f.FormedOk) (complete : f.assembly.length = f.packing) (sampled : Half) :
    (f.packet sampled).Ok := by
  have channels : 1 ≤ f.channels ∧ f.channels ≤ 2 := by
    have one_or_two : f.channels = 1 ∨ f.channels = 2 := h.emptied.channels
    omega
  have packing : f.packing ≤ 4 := by
    have power : f.packing = 1 ∨ f.packing = 2 ∨ f.packing = 4 := h.emptied.packing
    omega
  have bytes : f.format.bytes ≤ 3 := by
    have notL32 := h.emptied.format
    cases e : f.format with
    | l16 => decide
    | l24 => decide
    | l32 => exact absurd e notL32
  have size : f.assembly.flatten.length = f.packing * 48 * f.channels * f.format.bytes := by
    rw [← List.flatMap_id, length_flatMap_const (f := id) h.blockSizes, complete]
    ring
  refine ⟨h.emptied.packing, ⟨channels.1, channels.2.trans (by decide)⟩, size, size.trans_le ?_⟩
  calc f.packing * 48 * f.channels * f.format.bytes ≤ 4 * 48 * 2 * 3 := by gcongr; exact channels.2
    _ ≤ 1440 := by decide

theorem Feed.Ok.assembled {f : Feed} (h : f.Ok) (running : f.running = true) (hbc : Word) (input : List Frame) (sampled : Half) :
    (f.assembled hbc input sampled).FormedOk := by
  obtain ⟨begun, mode⟩ := h.beginBlock hbc
  rw [beginBlock_eq] at begun mode
  rw [Feed.assembled, beginBlock_eq]
  exact begun.formBlock running mode input sampled

/-- A packet that is handed over is sent by each named port that is UP and counted unsent for each other (R148). -/
theorem send_eq (f : Feed) (s : State) : f.send (s.portA.state == .up) (s.portB.state == .up) = { f with
    nextSeq := f.nextSeq + BitVec.ofNat 16 f.packing, assembly := [], lastMode := some f.assemblyMode
    sentA := if f.ports.names .a ∧ s.portA.state = .up then f.sentA + 1 else f.sentA
    sentB := if f.ports.names .b ∧ s.portB.state = .up then f.sentB + 1 else f.sentB
    unsentA := if f.ports.names .a ∧ s.portA.state ≠ .up then f.unsentA + 1 else f.unsentA
    unsentB := if f.ports.names .b ∧ s.portB.state ≠ .up then f.unsentB + 1 else f.unsentB } := by
  simp only [Feed.send, Bool.and_eq_true, beq_iff_eq, Bool.not_eq_true', beq_eq_false_iff_ne]

theorem mem_transmissions_iff (f : Feed) (s : State) (d : List Byte) (q : PortId) (x : List Byte) :
    (q, x) ∈ f.transmissions (s.portA.state == .up) (s.portB.state == .up) d ↔
      f.ports.names q = true ∧ (s.port q).state = .up ∧ x = d := by
  cases q with
  | a => simp [Feed.transmissions, State.port, and_assoc]
  | b => simp [Feed.transmissions, State.port, and_assoc]

/-! ## A feed at a boundary -/

section AtBoundary

variable (s : State) (inp : BoundaryInput)

/-- A feed of a boundary with its next block appended. -/
def State.assembledAt (r : Fin 16) : Feed := (s.feed r).assembled (s.clock.hbc + 1) (captureInput inp.tdm) inp.sigIn

theorem assembledAt_complete_iff (r : Fin 16) :
    (s.assembledAt inp r).complete = true ↔ (s.feed r).assembly.length + 1 = (s.feed r).packing := by
  rw [State.assembledAt, assembled_eq, Feed.complete, beq_iff_eq, List.length_append, List.length_singleton]

theorem boundary_returns : (s.boundary inp).returns =
    s.returns.boundary (s.clock.hbc + 1) (captureInput inp.tdm) inp.sigIn (s.portA.state == .up) (s.portB.state == .up) := by
  obtain ⟨qs, parts⟩ := boundary_parts s inp
  exact congrArg State.returns parts

/-- A feed's record after a boundary: a STOPPED feed stands, and a RUNNING one has its next block, sent when it is the K-th. -/
theorem boundary_feed (r : Fin 16) : (s.boundary inp).feed r =
    if (s.feed r).running = true then
      if (s.feed r).assembly.length + 1 = (s.feed r).packing then
        (s.assembledAt inp r).send (s.portA.state == .up) (s.portB.state == .up)
      else s.assembledAt inp r
    else s.feed r := by
  simp only [← assembledAt_complete_iff s inp r]
  rw [State.feed, boundary_returns]
  exact vmap_get s.returns.feeds _ r

/-- What one feed has the ports transmit: its packet, when the boundary forms the K-th block of it (R147, R148). -/
theorem sentAt_boundary (r : Fin 16) :
    (s.feed r).sentAt (s.clock.hbc + 1) (captureInput inp.tdm) inp.sigIn (s.portA.state == .up) (s.portB.state == .up) =
      if (s.feed r).running = true ∧ (s.feed r).assembly.length + 1 = (s.feed r).packing then
        (s.assembledAt inp r).transmissions (s.portA.state == .up) (s.portB.state == .up)
          ((s.assembledAt inp r).packet inp.sigIn).datagram
      else [] := by
  simp only [← assembledAt_complete_iff s inp r, ite_and]
  rfl

/-- What the ports transmit at a boundary: the packets that feeds build, each by the ports that it names and that are UP (R9, R148). -/
theorem boundary_transmitted_iff (q : PortId) (x : List Byte) : (q, x) ∈ (s.boundary inp).returns.transmitted ↔
    ∃ k, ((s.feed k).running = true ∧ (s.feed k).assembly.length + 1 = (s.feed k).packing) ∧ (s.feed k).ports.names q = true ∧
      (s.port q).state = .up ∧ x = ((s.assembledAt inp k).packet inp.sigIn).datagram := by
  have sent (k : Fin 16) : (q, x) ∈ (s.feed k).sentAt (s.clock.hbc + 1) (captureInput inp.tdm) inp.sigIn (s.portA.state == .up)
      (s.portB.state == .up) ↔ ((s.feed k).running = true ∧ (s.feed k).assembly.length + 1 = (s.feed k).packing) ∧
        (s.feed k).ports.names q = true ∧ (s.port q).state = .up ∧ x = ((s.assembledAt inp k).packet inp.sigIn).datagram := by
    have ports : (s.assembledAt inp k).ports = (s.feed k).ports := by rw [State.assembledAt, assembled_eq]
    rw [sentAt_boundary, List.mem_ite_nil_right, mem_transmissions_iff, ports]
  rw [boundary_returns]
  simp only [ReturnMixer.boundary, toList_eq_map_get, List.map_map, List.mem_flatten, List.mem_map, List.mem_finRange, true_and,
    Function.comp_apply, exists_exists_eq_and]
  exact exists_congr sent

end AtBoundary

/-- RETURN_PACKET_BUILD is the boundary that forms the K-th block of a feed's packet (log 2). -/
theorem exec_returnPacketBuild {s : State} (low : s.resetLow = false) {r : Fin 16} (running : (s.feed r).running = true)
    (last : (s.feed r).assembly.length + 1 = (s.feed r).packing) (inp : BoundaryInput) :
    exec (.returnPacketBuild r inp) s = .next (s.boundary inp) :=
  ((row_of_due rfl (packetDue_iff s r)).2.2 ⟨running, last⟩).trans (exec_houseBlockBoundary low inp)

/-! ## Every clause of O47 -/

/-- Settles O47: the payload of a block, what the ports transmit, and the record of a feed by whether it runs and whether the block is
the K-th. -/
theorem returnPacketIsBuiltAndSent : Obligations.ReturnPacketIsBuiltAndSent := by
  refine ⟨fun chans => ⟨?_, ?_, ?_⟩, ?_⟩
  · rw [blockPayload_length (by decide), show SampleFormat.bytes .l24 = 3 from rfl]
    ring
  · rw [blockPayload_length (by decide), show SampleFormat.bytes .l16 = 2 from rfl]
    ring
  · rintro n c v hn hc rfl
    exact ⟨blockPayload_sample (format := .l24) (by decide) chans hn hc,
      (blockPayload_sample (format := .l16) (by decide) chans hn hc).trans (wireSample_l16 _)⟩
  · rintro s inp r f mode first count low rfl ok hmode rfl rfl
    rw [← Feed.modeAt_eq] at hmode
    subst hmode
    have record := boundary_feed s inp r
    refine ⟨s.boundary inp, exec_houseBlockBoundary low inp, fun q x sent => ?_, fun stopped => ?_, fun running => ?_⟩
    · obtain ⟨k, ⟨running, last⟩, named, up, -⟩ := (boundary_transmitted_iff s inp q x).mp sent
      exact ⟨up, k, running, named, last⟩
    · exact record.trans (if_neg (Bool.not_eq_true _ ▸ stopped))
    rw [if_pos running] at record
    have formed := assembled_eq (s.feed r) (s.clock.hbc + 1) (captureInput inp.tdm) inp.sigIn
    refine ⟨((s.feed r).nextBlock (captureInput inp.tdm) inp.sigIn).1, ((s.feed r).nextBlock (captureInput inp.tdm) inp.sigIn).2,
      s.assembledAt inp r, fun mix => ?_, fun made test hmade => ?_, ?_, fun early => ?_, fun last => ?_⟩
    · rw [nextBlock_mix mix]
      exact ⟨rfl, rfl⟩
    · rw [nextBlock_test ok test _ _ hmade]
      exact ⟨rfl, rfl⟩
    · simp only [saturatedCount_eq] at formed
      exact formed
    · exact record.trans (if_neg early.ne)
    · rw [if_pos last, send_eq] at record
      have complete : (s.assembledAt inp r).assembly.length = (s.assembledAt inp r).packing :=
        beq_iff_eq.mp ((assembledAt_complete_iff s inp r).mpr last)
      have packet := (ok.assembled running (s.clock.hbc + 1) (captureInput inp.tdm) inp.sigIn).packet_ok complete inp.sigIn
      refine ⟨exec_returnPacketBuild low running last inp, _, _, writtenPacketIsReadBack _ packet, ?_, fun q named up => ?_, ?_⟩
      · rw [formed]
        simp only [Feed.packet, List.flatten_append, List.flatten_singleton]
        rfl
      · exact (boundary_transmitted_iff s inp q _).mpr ⟨r, ⟨running, last⟩, named, up, rfl⟩
      · rw [record]
        simp only [State.assembledAt, formed]

end Sys2Proof.Machine
end

section
/-! SUPPORT. The signal requests as they are served (R152, R153, R157, R159, R160): the fields of a SIGNAL_SET, the values of a
SIGNAL_OVERRIDE, and the report of the Signal Router; and O49 and O50. -/

namespace Sys2Proof.Machine

/-! ## The current values as a word (R157, R160) -/

/-- Setting the bit of one line, when its state is 1, sets no other bit. -/
theorem getLsbD_setBit (f : Fin 16 → Bool) (w : Half) (j k : Fin 16) :
    (if f k then w ||| (1#16 <<< k.val) else w).getLsbD j.val = (w.getLsbD j.val || (decide (j = k) && f j)) := by
  have bit : (1#16 <<< k.val).getLsbD j.val = decide (j = k) := by
    rw [← BitVec.twoPow_eq, BitVec.getLsbD_twoPow]
    simp [Fin.ext_iff, eq_comm]
  by_cases same : j = k
  · subst same
    cases f j <;> simp only [reduceIte, Bool.false_eq_true, BitVec.getLsbD_or, bit, Bool.and_true, Bool.and_false, Bool.or_false]
  · rw [apply_ite (BitVec.getLsbD · j.val), BitVec.getLsbD_or, bit, decide_eq_false same, Bool.or_false, ite_self, Bool.false_and,
      Bool.or_false]

theorem getLsbD_setBits (f : Fin 16 → Bool) (j : Fin 16) (ks : List (Fin 16)) (w : Half) :
    (ks.foldl (fun w k => if f k then w ||| (1#16 <<< k.val) else w) w).getLsbD j.val =
      (w.getLsbD j.val || (decide (j ∈ ks) && f j)) := by
  induction ks generalizing w with
  | nil => simp
  | cons k ks ih => simp only [List.foldl_cons, ih, getLsbD_setBit, List.mem_cons, Bool.decide_or, Bool.and_or_distrib_right, Bool.or_assoc]

/-- Bit k of a word of states is the state of line k. -/
theorem bitsOf_getLsbD (f : Fin 16 → Bool) (k : Fin 16) : (bitsOf f).getLsbD k.val = f k := by
  rw [bitsOf, getLsbD_setBits, decide_eq_true (List.mem_finRange k), Bool.true_and]
  exact (congrArg (· || f k) BitVec.getLsbD_zero).trans (Bool.false_or _)

theorem currentWord_getLsbD (r : SignalRouter) (k : Fin 16) : r.currentWord.getLsbD k.val = (r.lines.get k).current :=
  bitsOf_getLsbD _ k

/-! ## The fields of a SIGNAL_SET (R153) -/

@[simp] theorem failValueOf_code (v : FailValue) : failValueOf v.code.toNat = some v := by cases v <;> rfl

theorem lineModeOf_eq_none {n : Nat} (h : 3 < n) : lineModeOf n = none := by
  simp only [lineModeOf, show n ≠ 0 by omega, show n ≠ 1 by omega, show n ≠ 2 by omega, show n ≠ 3 by omega, if_false]

theorem failValueOf_eq_none {n : Nat} (h : 2 < n) : failValueOf n = none := by
  simp only [failValueOf, show n ≠ 0 by omega, show n ≠ 1 by omega, show n ≠ 2 by omega, if_false]

/-- OFF stores the other fields as 0, keeps the override value and drives low; no other field is checked. -/
theorem withFields_off (l : Line) (k st bit inv fail : Byte) : l.withFields [k, LineMode.off.code, st, bit, inv, fail] =
    some { Line.reset with mode := .off, override := l.override, current := false } := rfl

/-- OVERRIDE stores the other fields as 0 and drives the stored override value at once; no other field is checked. -/
theorem withFields_override (l : Line) (k st bit inv fail : Byte) : l.withFields [k, LineMode.override.code, st, bit, inv, fail] =
    some { Line.reset with mode := .override, override := l.override, current := l.override } := rfl

/-- The four fields that ALIGNED and DIRECT check and store; the override and the current value stand. -/
def Line.following (l : Line) (mode : LineMode) (st bit inv fail : Nat) : Option Line :=
  match toFin? 32 st, toFin? 16 bit, failValueOf fail with
  | some st, some bit, some fail =>
    if inv ≤ 1 then some { l with mode := mode, stream := st, bit := bit, invert := inv == 1, fail := fail } else none
  | _, _, _ => none

/-- ALIGNED and DIRECT treat the other fields alike. -/
theorem withFields_following (l : Line) {mode : LineMode} (h : mode = .aligned ∨ mode = .direct) (k st bit inv fail : Byte) :
    l.withFields [k, mode.code, st, bit, inv, fail] = l.following mode st.toNat bit.toNat inv.toNat fail.toNat := by
  rcases h with rfl | rfl <;> rfl

theorem following_inRange (l : Line) (mode : LineMode) (i : Fin 32) (n : Fin 16) (v : FailValue) {inv : Byte} (h : inv.toNat ≤ 1) :
    l.following mode i.val n.val inv.toNat v.code.toNat =
      some { l with mode := mode, stream := i, bit := n, invert := decide (inv = 1), fail := v } := by
  have one : (inv.toNat == 1) = decide (inv = 1) := by
    rw [Bool.eq_iff_iff, beq_iff_eq, decide_eq_true_eq]
    exact BitVec.toNat_inj (y := 1)
  simp only [Line.following, toFin?_val, failValueOf_code, if_pos h, one]

theorem following_eq_none (l : Line) (mode : LineMode) {st bit inv fail : Nat} (h : 31 < st ∨ 15 < bit ∨ 1 < inv ∨ 2 < fail) :
    l.following mode st bit inv fail = none := by
  unfold Line.following
  split
  next hst hbit hfail =>
    have stream : ¬31 < st := fun beyond => nomatch (toFin?_eq_none beyond).symm.trans hst
    have bit : ¬15 < bit := fun beyond => nomatch (toFin?_eq_none beyond).symm.trans hbit
    have fail : ¬2 < fail := fun beyond => nomatch (failValueOf_eq_none beyond).symm.trans hfail
    exact if_neg (by omega)
  next => rfl

/-- A mode above 3, and in ALIGNED and DIRECT any other field beyond its range, are refused (R153, check 2). -/
theorem withFields_eq_none (l : Line) (k : Byte) {mode st bit inv fail : Byte} (h : 3 < mode.toNat ∨
    ((mode = 1 ∨ mode = 2) ∧ (31 < st.toNat ∨ 15 < bit.toNat ∨ 1 < inv.toNat ∨ 2 < fail.toNat))) :
    l.withFields [k, mode, st, bit, inv, fail] = none := by
  obtain beyond | ⟨rfl | rfl, bad⟩ := h
  · have unknown : lineModeOf (field1 [k, mode, st, bit, inv, fail] 1) = none := lineModeOf_eq_none beyond
    simp only [Line.withFields, unknown]
  · exact (withFields_following l (.inl rfl) k st bit inv fail).trans (following_eq_none l .aligned bad)
  · exact (withFields_following l (.inr rfl) k st bit inv fail).trans (following_eq_none l .direct bad)

/-! ## The requests as they are served -/

/-- SIGNAL_SET at a line in range: the line takes its fields, or the request is refused (R153). -/
theorem serveSignalSet_eq (s : State) (k : Fin 16) (rest : List Byte) : serveSignalSet s (byteOf k.val :: rest) =
    ((s.line k).withFields (byteOf k.val :: rest)).elim (.error .badValue) fun l => .ok (s.setLine k l, beFlag l.current) := by
  have named : toFin? 16 (field1 (byteOf k.val :: rest) 0) = some k := toFin?_group k
  simp only [serveSignalSet, named]
  cases (s.line k).withFields (byteOf k.val :: rest) with
  | none => rfl
  | some l => rfl

theorem serveSignalSet_notFound (s : State) {b : Byte} (h : 16 ≤ b.toNat) (rest : List Byte) :
    serveSignalSet s (b :: rest) = .error .notFound := by
  simp only [serveSignalSet, field1_cons, toFin?_eq_none h]

/-- A line whose fields are in range takes them, and its current value is the reply (R153). -/
theorem exec_signalSet_granted {s : State} {k : Fin 16} {mode st bit inv fail : Byte} {l : Line}
    (hn : s.Next 0x60 [byteOf k.val, mode, st, bit, inv, fail])
    (h : (s.line k).withFields [byteOf k.val, mode, st, bit, inv, fail] = some l) :
    exec .signalSet s = .next ((s.setLine k l).answer [0, if l.current then 1 else 0]) :=
  take_granted hn rfl (by rw [serveSignalSet_eq, h]; rfl)

/-- A line whose fields are out of range is left as it is (R153, check 2). -/
theorem exec_signalSet_refused {s : State} {k : Fin 16} {mode st bit inv fail : Byte}
    (hn : s.Next 0x60 [byteOf k.val, mode, st, bit, inv, fail])
    (h : (s.line k).withFields [byteOf k.val, mode, st, bit, inv, fail] = none) : exec .signalSet s = .next (s.answer [4]) :=
  take_refused (st := .badValue) (serve := serveSignalSet) hn rfl (by rw [serveSignalSet_eq, h]; rfl)

/-- A line that an override names stores the value, and takes it at once in OVERRIDE alone (R157). -/
theorem setOverride_eq (l : Line) (v : Bool) :
    l.setOverride v = { l with override := v, current := if l.mode = .override then v else l.current } := by
  unfold Line.setOverride
  cases l.mode <;> rfl

/-- The Signal Router after an override (R157). -/
def SignalRouter.overridden (r : SignalRouter) (mask values : Half) : SignalRouter :=
  { r with lines := vmap r.lines fun k l => if mask.getLsbD k.val then l.setOverride (values.getLsbD k.val) else l }

theorem overridden_line (r : SignalRouter) (mask values : Half) (k : Fin 16) : (r.overridden mask values).lines.get k =
    if mask.getLsbD k.val then { r.lines.get k with
      override := values.getLsbD k.val
      current := if (r.lines.get k).mode = .override then values.getLsbD k.val else (r.lines.get k).current } else r.lines.get k := by
  simp only [SignalRouter.overridden, vmap_get, setOverride_eq]

/-- The word that a two-byte field holds. -/
theorem ofNat_beNat_be16 (w : Half) : BitVec.ofNat 16 (beNat (be16 w.toNat)) = w := by
  rw [beNat_be16 w.isLt, BitVec.ofNat_toNat, BitVec.setWidth_eq]

theorem serveSignalOverride_eq (s : State) (mask values : Half) : serveSignalOverride s (be16 mask.toNat ++ be16 values.toNat) =
    .ok ({ s with signals := s.signals.overridden mask values }, be16 (s.signals.overridden mask values).currentWord.toNat) := by
  have first : BitVec.ofNat 16 (field2 (be16 mask.toNat ++ be16 values.toNat) 0) = mask := ofNat_beNat_be16 mask
  have second : BitVec.ofNat 16 (field2 (be16 mask.toNat ++ be16 values.toNat) 2) = values := ofNat_beNat_be16 values
  simp only [serveSignalOverride, first, second]
  rfl

theorem serveSiginMask_eq (s : State) (mask : Half) : serveSiginMask s (be16 mask.toNat) =
    .ok ({ s with signals := { s.signals with mask := mask } }, be16 mask.toNat) := by
  have field : BitVec.ofNat 16 (field2 (be16 mask.toNat) 0) = mask := ofNat_beNat_be16 mask
  simp only [serveSiginMask, field]

/-- The seven items of one line in the report (R160). -/
theorem lineBytes_eq (l : Line) : l.bytes = [l.mode.code, byteOf l.stream.val, byteOf l.bit.val, if l.invert then 1 else 0,
    l.fail.code, if l.override then 1 else 0, if l.current then 1 else 0] := rfl

/-- The lines stand in the report in rising line number (R160). -/
theorem serveSignalQuery_eq (s : State) (body : List Byte) : serveSignalQuery s body =
    .ok (s, ((List.finRange 16).flatMap fun k => (s.line k).bytes) ++ be16 s.signals.currentWord.toNat ++
      be16 s.signals.sampled.toNat ++ be16 s.signals.mask.toNat) := by
  simp only [serveSignalQuery, toList_eq_map_get, List.flatMap_map]
  rfl

/-! ## Every clause of O49 and O50 -/

/-- Settles O49: SIGNAL_SET mode by mode, its refusals, then SIGNAL_OVERRIDE and SIGIN_MASK as they are served. -/
theorem signalRequestsSetTheLines : Obligations.SignalRequestsSetTheLines := by
  refine ⟨?_, fun s b rest length hn beyond => ?_, fun s mask values hn => ?_, fun s mask hn => ?_⟩
  · rintro s k mode st bit inv fail l hn rfl
    refine ⟨?_, ?_, ?_, fun bad => ?_⟩
    · rintro rfl
      exact exec_signalSet_granted hn (withFields_off _ _ st bit inv fail)
    · rintro rfl
      exact exec_signalSet_granted hn (withFields_override _ _ st bit inv fail)
    · rintro i n v follows hst hbit range rfl
      have stored (m : LineMode) (hm : m = .aligned ∨ m = .direct) :
          (s.line k).withFields [byteOf k.val, m.code, st, bit, inv, v.code] =
            some { s.line k with mode := m, stream := i, bit := n, invert := decide (inv = 1), fail := v } := by
        rw [withFields_following _ hm, hst, hbit, following_inRange _ _ _ _ _ range]
      obtain rfl | rfl := follows
      · exact exec_signalSet_granted hn (stored .aligned (.inl rfl))
      · exact exec_signalSet_granted hn (stored .direct (.inr rfl))
    · exact exec_signalSet_refused hn (withFields_eq_none _ _ bad)
  · exact take_refused hn (by rw [List.length_cons, length]; rfl) (serveSignalSet_notFound s beyond rest)
  · exact ⟨_, _, take_granted hn rfl (serveSignalOverride_eq s mask values), currentWord_getLsbD _,
      overridden_line s.signals mask values, rfl⟩
  · exact take_granted hn rfl (serveSiginMask_eq s mask)

/-- Settles O50: the codes, the current values bit by bit, and the report item by item. -/
theorem signalQueryReportsTheRouter : Obligations.SignalQueryReportsTheRouter := by
  refine ⟨rfl, rfl, fun s hn => ⟨s.signals.currentWord, currentWord_getLsbD s.signals, ?_⟩⟩
  have served := serveSignalQuery_eq s []
  simp only [lineBytes_eq] at served
  exact take_granted hn rfl served

end Sys2Proof.Machine
end

section
/-! SUPPORT. The meter and watch requests as they are served (R163, R165 to R167, R169): a period abandoned, the records reported, the
fields of a WATCH_SET, and the watches in their encoding; and O52. -/

namespace Sys2Proof.Machine

/-! ## METER_SET (R165) -/

/-- The Meter Unit with its period abandoned for one of a new length (R165). -/
def MeterUnit.restarted (m : MeterUnit) (exponent : Nat) : MeterUnit :=
  { m with exponent := exponent, blocks := 0, valid := false, points := vmap m.points fun _ p => p.abandon }

theorem restarted_point (m : MeterUnit) (exponent : Nat) (k : Fin 96) :
    (m.restarted exponent).points.get k = { m.points.get k with runPeak := 0, runSum := 0 } := vmap_get m.points _ k

theorem meterExponent_inRange_iff (n : Byte) :
    (decide (4 ≤ field1 [n] 0) && decide (field1 [n] 0 ≤ 10)) = true ↔ 4 ≤ n.toNat ∧ n.toNat ≤ 10 := by
  rw [field1_cons, Bool.and_eq_true, decide_eq_true_eq, decide_eq_true_eq]

theorem serveMeterSet_refused (s : State) {n : Byte} (h : n.toNat < 4 ∨ 10 < n.toNat) : serveMeterSet s [n] = .error .badValue := by
  have refused := Bool.eq_false_iff.mpr fun inRange => absurd ((meterExponent_inRange_iff n).mp inRange) (by omega)
  simp only [serveMeterSet, refused, require_false_bind]

theorem serveMeterSet_granted (s : State) {n : Byte} (h : 4 ≤ n.toNat ∧ n.toNat ≤ 10) :
    serveMeterSet s [n] = .ok ({ s with meters := s.meters.restarted n.toNat }, [n]) := by
  have reply : [byteOf (field1 [n] 0)] = [n] := by rw [field1_cons, byteOf, BitVec.ofNat_toNat, BitVec.setWidth_eq]
  simp only [serveMeterSet, (meterExponent_inRange_iff n).mpr h, require_true_bind, reply]
  rfl

/-! ## METER_READ (R166) -/

/-- The last-period records of a range of points, in order (R166). -/
theorem meterRecords_eq (points : Vector MeterPoint 96) (first count : Nat) :
    ((points.toList.drop first).take count).flatMap (fun p => be32 p.peak ++ be32 p.mean) =
      ((List.finRange 96).filter fun k => first ≤ k.val ∧ k.val < first + count).flatMap fun k =>
        be32 (points.get k).peak ++ be32 (points.get k).mean := by
  rw [toList_eq_map_get, ← List.map_drop, ← List.map_take, List.flatMap_map, finRange_window]

theorem serveMeterRead_notFound (s : State) {first : Byte} (h : 96 ≤ first.toNat) (count : Byte) :
    serveMeterRead s [first, count] = .error .notFound := if_pos h

/-- METER_READ at a first point in range: the range must be of 1 or more points and end within the 96 (R166). -/
theorem serveMeterRead_eq (s : State) {first : Byte} (h : first.toNat < 96) (count : Byte) : serveMeterRead s [first, count] =
    if 1 ≤ count.toNat ∧ first.toNat + count.toNat ≤ 96 then
      .ok (s, [byteOf s.meters.exponent, if s.meters.valid then 1 else 0] ++ beWord s.meters.periods ++ beWord s.meters.lastEnd ++
        ((List.finRange 96).filter fun k => first.toNat ≤ k.val ∧ k.val < first.toNat + count.toNat).flatMap fun k =>
          be32 (s.meters.points.get k).peak ++ be32 (s.meters.points.get k).mean)
    else .error .badValue := by
  have start : field1 [first, count] 0 = first.toNat := rfl
  have size : field1 [first, count] 1 = count.toNat := rfl
  simp only [serveMeterRead, start, size, if_neg (Nat.not_lt.mpr (Nat.le_of_lt_succ h)), meterRecords_eq, ← Bool.decide_and]
  by_cases range : 1 ≤ count.toNat ∧ first.toNat + count.toNat ≤ 96
  · rw [decide_eq_true range, require_true_bind, if_pos range]
    rfl
  · rw [decide_eq_false range, require_false_bind, if_neg range]

/-! ## WATCH_SET (R169) -/

/-- The body of a WATCH_SET. -/
def watchSetBody (k point measure mode : Byte) (low high : Word) (pers : Byte) : List Byte :=
  [k, point, measure, mode] ++ beWord low ++ beWord high ++ [pers]

@[simp] theorem watchModeOf_code (m : WatchMode) : watchModeOf m.code.toNat = some m := by cases m <;> rfl

@[simp] theorem measureOf_code (v : Measure) : measureOf v.code.toNat = some v := by cases v <;> rfl

theorem watchModeOf_eq_none {n : Nat} (h : 4 < n) : watchModeOf n = none := by
  simp only [watchModeOf, show n ≠ 0 by omega, show n ≠ 1 by omega, show n ≠ 2 by omega, show n ≠ 3 by omega, show n ≠ 4 by omega,
    if_false]

theorem measureOf_eq_none {n : Nat} (h : 1 < n) : measureOf n = none := by
  simp only [measureOf, show n ≠ 0 by omega, show n ≠ 1 by omega, if_false]

/-- Only the code 0 names OFF. -/
theorem watchModeOf_ne_off {mode : Byte} (h : mode ≠ 0) : watchModeOf mode.toNat ≠ some .off := by
  have nonzero : mode.toNat ≠ 0 := fun zero => h (BitVec.toNat_inj (y := 0).mp zero)
  rw [watchModeOf, if_neg nonzero]
  split_ifs <;> simp

/-- The watch that a WATCH_SET body gives, field by field: only the mode is read when it is OFF. -/
theorem watchOf_body (k point measure mode : Byte) (low high : Word) (pers : Byte) :
    watchOf (watchSetBody k point measure mode low high pers) = (watchModeOf mode.toNat).bind fun m =>
      if m = .off then some .reset
      else (toFin? 96 point.toNat).bind fun p => (measureOf measure.toNat).bind fun v =>
        if pers.toNat ≠ 0 ∧ low.toNat ≤ high.toNat then
          some { point := p, measure := v, mode := m, low := low.toNat, high := high.toNat, persistence := pers.toNat, state := .armed
                 run := 0 }
        else none := by
  have point_field : field1 (watchSetBody k point measure mode low high pers) 1 = point.toNat := rfl
  have measure_field : field1 (watchSetBody k point measure mode low high pers) 2 = measure.toNat := rfl
  have mode_field : field1 (watchSetBody k point measure mode low high pers) 3 = mode.toNat := rfl
  have pers_field : field1 (watchSetBody k point measure mode low high pers) 12 = pers.toNat := rfl
  have low_field : field4 (watchSetBody k point measure mode low high pers) 4 = low.toNat :=
    field4_append [k, point, measure, mode] (beWord high ++ [pers]) low.isLt
  have high_field : field4 (watchSetBody k point measure mode low high pers) 8 = high.toNat :=
    field4_append ([k, point, measure, mode] ++ beWord low) [pers] high.isLt
  simp only [watchOf, point_field, measure_field, mode_field, pers_field, low_field, high_field]
  cases watchModeOf mode.toNat with
  | none => rfl
  | some m =>
    cases toFin? 96 point.toNat with
    | none => cases m <;> rfl
    | some p =>
      cases measureOf measure.toNat with
      | none => cases m <;> rfl
      | some v => cases m <;> rfl

/-- A mode above 4, and in every mode but OFF any other field beyond its range, are refused (R169). -/
theorem watchOf_eq_none (k : Byte) {point measure mode pers : Byte} {low high : Word} (h : 4 < mode.toNat ∨
    (mode ≠ 0 ∧ (95 < point.toNat ∨ 1 < measure.toNat ∨ pers = 0 ∨ high.toNat < low.toNat))) :
    watchOf (watchSetBody k point measure mode low high pers) = none := by
  rw [watchOf_body]
  obtain beyond | ⟨on, bad⟩ := h
  · rw [watchModeOf_eq_none beyond]
    rfl
  · rw [Option.bind_eq_none_iff]
    intro m named
    rw [if_neg fun off => watchModeOf_ne_off on (named.trans (congrArg some off))]
    obtain point_bad | measure_bad | values_bad := bad
    · rw [toFin?_eq_none point_bad]
      rfl
    · rw [measureOf_eq_none measure_bad]
      exact Option.bind_fun_none _
    · have refused : ¬(pers.toNat ≠ 0 ∧ low.toNat ≤ high.toNat) := by
        rintro ⟨positive, ordered⟩
        obtain rfl | crossed := values_bad
        · exact positive rfl
        · omega
      simp only [if_neg refused, Option.bind_fun_none]

/-- WATCH_SET at a watch in range: the watch takes its fields, or the request is refused (R169). -/
theorem serveWatchSet_eq (s : State) (k : Fin 16) (point measure mode pers : Byte) (low high : Word) :
    serveWatchSet s (watchSetBody (byteOf k.val) point measure mode low high pers) =
      (watchOf (watchSetBody (byteOf k.val) point measure mode low high pers)).elim (.error .badValue) fun w =>
        .ok (s.setWatch k w, [w.state.code]) := by
  have named : toFin? 16 (field1 (watchSetBody (byteOf k.val) point measure mode low high pers) 0) = some k := toFin?_group k
  simp only [serveWatchSet, named]
  cases watchOf (watchSetBody (byteOf k.val) point measure mode low high pers) with
  | none => rfl
  | some w => rfl

theorem serveWatchSet_notFound (s : State) {b : Byte} (h : 16 ≤ b.toNat) (rest : List Byte) :
    serveWatchSet s (b :: rest) = .error .notFound := by
  simp only [serveWatchSet, field1_cons, toFin?_eq_none h]

/-- A watch whose fields are in range is set, and its state is the reply (R169). -/
theorem exec_watchSet_granted {s : State} {k : Fin 16} {point measure mode pers : Byte} {low high : Word} {w : Watch}
    (hn : s.Next 0x72 (watchSetBody (byteOf k.val) point measure mode low high pers))
    (h : watchOf (watchSetBody (byteOf k.val) point measure mode low high pers) = some w) :
    exec .watchSet s = .next ((s.setWatch k w).answer [0, w.state.code]) :=
  take_granted hn rfl (by rw [serveWatchSet_eq, h]; rfl)

/-- A watch whose fields are out of range is left as it is (R169). -/
theorem exec_watchSet_refused {s : State} {k : Fin 16} {point measure mode pers : Byte} {low high : Word}
    (hn : s.Next 0x72 (watchSetBody (byteOf k.val) point measure mode low high pers))
    (h : watchOf (watchSetBody (byteOf k.val) point measure mode low high pers) = none) :
    exec .watchSet s = .next (s.answer [4]) :=
  take_refused (st := .badValue) (serve := serveWatchSet) hn rfl (by rw [serveWatchSet_eq, h]; rfl)

/-! ## WATCH_QUERY (R169) -/

theorem zipIdx_toList {α : Type} {n : Nat} (v : Vector α n) :
    v.toList.zipIdx = (List.finRange n).map fun k => (v.get k, k.val) := by
  rw [toList_eq_map_get]
  exact List.ext_getElem (by simp) fun _ _ _ => by simp

/-- The number 255 reports all sixteen watches in rising number (R169). -/
theorem serveWatchQuery_all (s : State) :
    serveWatchQuery s [255] = .ok (s, (List.finRange 16).flatMap fun k => (s.watch k).bytes k.val) := by
  have all : serveWatchQuery s [255] = .ok (s, s.meters.watches.toList.zipIdx.flatMap fun w => w.1.bytes w.2) := rfl
  rw [all, zipIdx_toList, List.flatMap_map]
  rfl

theorem serveWatchQuery_eq (s : State) (k : Fin 16) : serveWatchQuery s [byteOf k.val] = .ok (s, (s.watch k).bytes k.val) := by
  have single : field1 [byteOf k.val] 0 ≠ 255 := by rw [field1_byteOf (by omega)]; omega
  simp only [serveWatchQuery, if_neg single, toFin?_group]

theorem serveWatchQuery_notFound (s : State) {b : Byte} (h : 16 ≤ b.toNat) (single : b ≠ 255) :
    serveWatchQuery s [b] = .error .notFound := by
  have number : field1 [b] 0 ≠ 255 := fun all => single (BitVec.toNat_inj (y := 255).mp all)
  simp only [serveWatchQuery, if_neg number, toFin?_beyond h]

/-! ## Every clause of O52 -/

/-- Settles O52: the codes, then each request as it is served, with its refusals. -/
theorem meterAndWatchRequests : Obligations.MeterAndWatchRequests := by
  refine ⟨⟨rfl, rfl, rfl⟩, ⟨fun s n hn => ⟨fun bad => ?_, fun low high => ?_⟩, fun s first count hn => ⟨fun beyond => ?_, ?_, ?_⟩⟩,
    ?_, fun s b rest length hn beyond => ?_, ?_⟩
  · exact take_refused hn rfl (serveMeterSet_refused s bad)
  · exact ⟨_, take_granted hn rfl (serveMeterSet_granted s ⟨low, high⟩), restarted_point s.meters n.toNat, rfl⟩
  · exact take_refused hn rfl (serveMeterRead_notFound s beyond count)
  · intro start bad
    have outside : ¬(1 ≤ count.toNat ∧ first.toNat + count.toNat ≤ 96) := by
      rintro ⟨nonempty, within⟩
      obtain rfl | beyond := bad
      · exact absurd nonempty (by decide)
      · omega
    exact take_refused hn rfl ((serveMeterRead_eq s start count).trans (if_neg outside))
  · exact fun start nonempty within =>
      take_granted hn rfl ((serveMeterRead_eq s start count).trans (if_pos ⟨nonempty, within⟩))
  · intro s k point measure mode pers low high hn
    refine ⟨?_, ?_, fun bad => exec_watchSet_refused hn (watchOf_eq_none _ bad)⟩
    · rintro rfl
      exact exec_watchSet_granted hn (watchOf_body _ point measure 0 low high pers)
    · rintro m p v rfl on hpoint rfl hpers ordered
      have positive : pers.toNat ≠ 0 := fun zero => hpers (BitVec.toNat_inj (y := 0).mp zero)
      refine exec_watchSet_granted hn ?_
      rw [watchOf_body, watchModeOf_code, hpoint, toFin?_val, measureOf_code]
      exact (if_neg on).trans (if_pos ⟨positive, ordered⟩)
  · exact take_refused hn (by rw [List.length_cons, length]; rfl) (serveWatchSet_notFound s beyond rest)
  · rintro s report rfl
    exact ⟨fun hn => take_granted hn rfl (serveWatchQuery_all s), fun k hn => take_granted hn rfl (serveWatchQuery_eq s k),
      fun b hn beyond single => take_refused hn rfl (serveWatchQuery_notFound s beyond single)⟩

end Sys2Proof.Machine
end

section
/-! SUPPORT. The Meter Unit at a boundary (R162 to R164, R167, R168): the blocks that the points take, the accumulators and records
that they leave, and the watches at a period end; and O53. -/

namespace Sys2Proof.Machine

/-! ## A point and its block (R163, R164) -/

theorem squareOf_eq (v : Sample) : squareOf v = (v.toInt.fdiv 256 * v.toInt.fdiv 256).toNat := by
  rw [squareOf, Int.fdiv_eq_ediv_of_nonneg _ (by decide)]

/-- A point takes the largest magnitude and the sum of the squares of its block. -/
theorem accumulate_eq (p : MeterPoint) (block : List Sample) : p.accumulate block = { p with
    runPeak := (block.map fun v => v.toInt.natAbs).foldl max p.runPeak
    runSum := p.runSum + (block.map fun v => (v.toInt.fdiv 256 * v.toInt.fdiv 256).toNat).sum } := by
  have peak : block.foldl (fun m v => max m (magnitude v)) p.runPeak = (block.map fun v => v.toInt.natAbs).foldl max p.runPeak :=
    List.foldl_map.symm
  have sum : block.foldl (fun t v => t + squareOf v) p.runSum = p.runSum + (block.map squareOf).sum := calc
    _ = (block.map squareOf).foldl (· + ·) (p.runSum + 0) := List.foldl_map.symm
    _ = p.runSum + (block.map squareOf).foldl (· + ·) 0 := List.foldl_assoc
    _ = _ := by rw [List.sum_eq_foldl]
  rw [MeterPoint.accumulate, peak, sum, funext squareOf_eq]

/-! ## A watch at a period end (R167, R168) -/

/-- The condition of a watch, mode by mode; no value meets that of OFF. -/
theorem condition_iff (w : Watch) (v : Nat) : w.condition v = true ↔
    (w.mode = .above ∧ w.high < v) ∨ (w.mode = .below ∧ v < w.low) ∨ (w.mode = .inside ∧ w.low ≤ v ∧ v ≤ w.high) ∨
      (w.mode = .outside ∧ (v < w.low ∨ w.high < v)) := by
  unfold Watch.condition
  cases w.mode <;> simp

theorem measured_eq (w : Watch) (p : MeterPoint) : w.measured p = if w.measure = .peak then p.peak else p.mean := by
  unfold Watch.measured
  cases w.measure <;> rfl

section Evaluation

variable {w : Watch} {v : Nat}

theorem evaluate_off (h : w.state = .off) : w.evaluate v = w := by simp only [Watch.evaluate, h]

/-- A watch whose value agrees with its state starts its run again. -/
theorem evaluate_agrees (h : w.state = .armed ∧ ¬w.condition v = true ∨ w.state = .tripped ∧ w.condition v = true) :
    w.evaluate v = { w with run := 0 } := by
  obtain ⟨state, condition⟩ | ⟨state, condition⟩ := h
  · simp only [Watch.evaluate, state, if_neg condition]
  · simp only [Watch.evaluate, state, if_pos condition]

/-- A watch whose value disagrees with its state counts the period while its run is below the persistence. -/
theorem evaluate_counts (h : w.state = .armed ∧ w.condition v = true ∨ w.state = .tripped ∧ ¬w.condition v = true)
    (below : w.run + 1 < w.persistence) : w.evaluate v = { w with run := w.run + 1 } := by
  obtain ⟨state, condition⟩ | ⟨state, condition⟩ := h
  · simp only [Watch.evaluate, state, if_pos condition, if_pos below]
  · simp only [Watch.evaluate, state, if_neg condition, if_pos below]

theorem evaluate_trips (state : w.state = .armed) (condition : w.condition v = true) (reached : w.persistence ≤ w.run + 1) :
    w.evaluate v = { w with state := .tripped, run := 0 } := by
  simp only [Watch.evaluate, state, if_pos condition, if_neg (Nat.not_lt.mpr reached)]

theorem evaluate_clears (state : w.state = .tripped) (condition : ¬w.condition v = true) (reached : w.persistence ≤ w.run + 1) :
    w.evaluate v = { w with state := .armed, run := 0 } := by
  simp only [Watch.evaluate, state, if_neg condition, if_neg (Nat.not_lt.mpr reached)]

theorem posts_trip (number : Nat) (state : w.state = .armed) (condition : w.condition v = true) (reached : w.persistence ≤ w.run + 1) :
    w.posts number v = [{ kind := .watchTrip, subject := number, detail := (v : Int) }] := by
  simp [Watch.posts, state, condition, reached]

theorem posts_clear (number : Nat) (state : w.state = .tripped) (condition : ¬w.condition v = true)
    (reached : w.persistence ≤ w.run + 1) :
    w.posts number v = [{ kind := .watchClear, subject := number, detail := (v : Int) }] := by
  simp [Watch.posts, state, condition, reached]

end Evaluation

/-! ## The Meter Unit at a boundary (R163, R168) -/

theorem periodDue_iff (m : MeterUnit) : m.periodDue = true ↔ m.blocks + 1 = 2 ^ m.exponent := beq_iff_eq

/-- The value that a watch reads when a period ends with these blocks. -/
def MeterUnit.valueAt (m : MeterUnit) (blocks : Fin 96 → List Sample) (w : Watch) : Nat :=
  w.measured ((m.latched blocks).get w.point)

/-- A boundary within a period: the points take their blocks, and the block is counted. -/
theorem meterBoundary_within {m : MeterUnit} (h : m.blocks + 1 ≠ 2 ^ m.exponent) (hbc : Word) (blocks : Fin 96 → List Sample) :
    m.boundary hbc blocks = ({ m with points := m.taken blocks, blocks := m.blocks + 1 }, []) :=
  if_neg (mt (periodDue_iff m).mp h)

/-- A period end: the records are latched, and every watch is evaluated on them. -/
theorem meterBoundary_end {m : MeterUnit} (h : m.blocks + 1 = 2 ^ m.exponent) (hbc : Word) (blocks : Fin 96 → List Sample) :
    m.boundary hbc blocks = ({ m with
      points := m.latched blocks, watches := vmap m.watches fun _ w => w.evaluate (m.valueAt blocks w)
      blocks := 0, periods := m.periods + 1, lastEnd := hbc, valid := true },
      ((vmap m.watches fun k w => w.posts k.val (m.valueAt blocks w)).toList).flatten) :=
  if_pos ((periodDue_iff m).mpr h)

/-- The record of a point that a period end latches (R163, R164). -/
theorem latched_get (m : MeterUnit) (blocks : Fin 96 → List Sample) (k : Fin 96) : (m.latched blocks).get k =
    { runPeak := 0, runSum := 0
      peak := ((blocks k).map fun v => v.toInt.natAbs).foldl max (m.points.get k).runPeak
      mean := ((m.points.get k).runSum + ((blocks k).map fun v => (v.toInt.fdiv 256 * v.toInt.fdiv 256).toNat).sum) /
        (48 * 2 ^ m.exponent) } := by
  rw [MeterUnit.latched, vmap_get, accumulate_eq]
  rfl

section Projections

variable (s : State) (inp : BoundaryInput)

/-- The blocks that the meter points take at a boundary (R162). -/
def State.meterBlocksAt : Fin 96 → List Sample := meterBlocks (s.boundary inp).output.tdmOut (s.mixesAt inp)

theorem metersAt_eq : s.metersAt inp = s.meters.boundary (s.clock.hbc + 1) (s.meterBlocksAt inp) := by
  obtain ⟨qs, parts⟩ := boundary_parts s inp
  rw [State.meterBlocksAt, congrArg State.output parts]
  rfl

theorem boundary_meters : (s.boundary inp).meters = (s.metersAt inp).1 := by
  obtain ⟨qs, parts⟩ := boundary_parts s inp
  exact congrArg State.meters parts

/-- The notices of the Meter Unit are posted at the boundary. -/
theorem boundary_posts_meters {p : Post} (h : p ∈ (s.metersAt inp).2) : s.Posted (s.boundary inp) (s.boundary inp).clock.hbc p := by
  obtain ⟨qs, parts⟩ := boundary_parts s inp
  rw [boundary_hbc]
  exact ⟨_, List.mem_append_right _ h, congrArg State.notices parts⟩

/-- An output point takes its channel's block as sent (R162). -/
theorem meterBlocksAt_output {k : Fin 96} (h : k.val < 64) :
    s.meterBlocksAt inp k = (s.boundary inp).output.tdmOut.getD k.val [] := by
  have sent : k.val < (s.boundary inp).output.tdmOut.length := by simpa [boundary_tdmOut] using h
  rw [State.meterBlocksAt, meterBlocks, dif_pos h, List.getD_eq_getElem _ _ sent, List.getD_eq_getElem _ _ sent]

/-- A return point takes its channel's 24-bit mix, and silence when its feed gives none (R162). -/
theorem meterBlocksAt_return {k : Fin 96} {r : Fin 16} {c : Fin 2} (h : k.val = 64 + 2 * r.val + c.val) :
    s.meterBlocksAt inp k = if (s.feed r).running ∧ (s.feed r).modeAt = .mix ∧ c.val < (s.feed r).channels then
      mix24 ((s.feed r).rawMix c.val (captureInput inp.tdm) inp.sigIn) else List.replicate 48 0 := by
  have feed : (⟨(k.val - 64) / 2, by omega⟩ : Fin 16) = r := Fin.ext (by simp only; omega)
  have channel : (k.val - 64) % 2 = c.val := by omega
  rw [State.meterBlocksAt, meterBlocks, dif_neg (by omega)]
  simp only [feed, channel, mixesAt_get, mixesAt_getD]
  rfl

section PeriodEnd

variable {s}

/-- A watch after a period end. -/
theorem boundary_watch (ends : s.meters.blocks + 1 = 2 ^ s.meters.exponent) (n : Fin 16) : (s.boundary inp).watch n =
    (s.watch n).evaluate (s.meters.valueAt (s.meterBlocksAt inp) (s.watch n)) := by
  rw [State.watch, boundary_meters, metersAt_eq, meterBoundary_end ends]
  exact vmap_get s.meters.watches _ n

/-- The notices of a watch are posted at the period end. -/
theorem boundary_posts_watch (ends : s.meters.blocks + 1 = 2 ^ s.meters.exponent) (n : Fin 16) {p : Post}
    (h : (s.watch n).posts n.val (s.meters.valueAt (s.meterBlocksAt inp) (s.watch n)) = [p]) :
    s.Posted (s.boundary inp) (s.boundary inp).clock.hbc p := by
  refine boundary_posts_meters s inp ?_
  rw [metersAt_eq, meterBoundary_end ends, toList_eq_map_get]
  refine List.mem_flatten_of_mem (List.mem_map_of_mem (List.mem_finRange n)) ?_
  rw [vmap_get]
  exact h ▸ List.mem_singleton_self p

/-- METER_PERIOD_END is the boundary at which the count reaches the period (log 2). -/
theorem exec_meterPeriodEnd (low : s.resetLow = false) (ends : s.meters.blocks + 1 = 2 ^ s.meters.exponent) :
    exec (.meterPeriodEnd inp) s = .next (s.boundary inp) :=
  ((row_of_due rfl (periodDue_iff s.meters)).2.2 ends).trans (exec_houseBlockBoundary low inp)

end PeriodEnd

end Projections

/-! ## Every clause of O53 -/

/-- Settles O53: the blocks of the points, then the boundaries within a period and the one that ends it, with each watch by its state
and its condition. -/
theorem meterPeriodEndLatchesAndEvaluates : Obligations.MeterPeriodEndLatchesAndEvaluates := by
  intro s inp low
  refine ⟨s.boundary inp, s.meterBlocksAt inp, exec_houseBlockBoundary low inp, fun k => meterBlocksAt_output s inp,
    fun k r c => meterBlocksAt_return s inp, ?_⟩
  rintro peak sum rfl rfl
  have unit := (boundary_meters s inp).trans (congrArg Prod.fst (metersAt_eq s inp))
  refine ⟨fun within => ?_, fun ends => ⟨exec_meterPeriodEnd inp low ends, ?_⟩⟩
  · rw [unit, meterBoundary_within within]
    refine ⟨rfl, rfl, rfl, rfl, rfl, fun k => ?_⟩
    rw [MeterUnit.taken, vmap_get, accumulate_eq]
  · rw [unit, meterBoundary_end ends]
    refine ⟨rfl, rfl, rfl, rfl, rfl, latched_get _ _, ?_⟩
    rintro n w v holds rfl hv rfl
    obtain rfl : v = s.meters.valueAt (s.meterBlocksAt inp) (s.watch n) := by
      rw [hv, MeterUnit.valueAt, measured_eq, latched_get]
    simp only [← condition_iff, boundary_watch inp ends n]
    refine ⟨evaluate_off, evaluate_agrees, evaluate_counts, fun state condition reached => ?_, fun state condition reached => ?_⟩
    · exact ⟨evaluate_trips state condition reached, boundary_posts_watch inp ends n (posts_trip n.val state condition reached)⟩
    · exact ⟨evaluate_clears state condition reached, boundary_posts_watch inp ends n (posts_clear n.val state condition reached)⟩

end Sys2Proof.Machine
end

section
/-! SUPPORT. What a RESETn held low lets through (R182, R183): a power-on, another fall, and the carrier of a line; and O6. -/

namespace Sys2Proof.Machine

/-! ## Events that are not due -/

/-- A request that no control line can take next is not taken (log 3). -/
theorem take_notDue {s : State} (h : s.control.next = none) (kind : Byte) (serve : State → List Byte → Served) :
    s.take kind serve = s := by
  simp only [State.take, h]

theorem takeBadKind_notDue {s : State} (h : s.control.next = none) : s.takeBadKind = s := by
  simp only [State.takeBadKind, h]

theorem receive_low {s : State} (h : s.resetLow = true) (bytes : List Byte) : s.receive bytes = s := if_pos h

theorem breakFrame_low {s : State} (h : s.resetLow = true) : s.breakFrame = s := if_pos h

theorem atSample_low {s : State} (h : s.resetLow = true) (n : Fin 48) : s.atSample n = s := if_pos (by rw [h]; rfl)

theorem replySent_idle {s : State} (h : s.control.sending = none) : s.replySent = s := by
  simp only [State.replySent, h]

/-! ## A port in OFF -/

theorem carrierArrival_off {s : State} {p : PortId} (h : (s.port p).state = .off) :
    s.carrierArrival p = s.setPort p { s.port p with carrier := true } := by
  simp only [State.carrierArrival, h]

theorem carrierLoss_off {s : State} {p : PortId} (h : (s.port p).state = .off) :
    s.carrierLoss p = s.setPort p { s.port p with carrier := false } := by
  simp only [State.carrierLoss, h]

theorem warmUpExpiry_off {s : State} {p : PortId} (h : (s.port p).state = .off) : s.warmUpExpiry p = s := by
  simp only [State.warmUpExpiry, h]

theorem arrival_off {s : State} {p : PortId} (h : (s.port p).state = .off) (d : List Byte) : s.arrival p d = s :=
  if_neg (by rw [h]; decide)

/-! ## The reset condition -/

namespace State.HeldInReset

theorem port_off {s : State} (h : s.HeldInReset) (p : PortId) : (s.port p).state = .off := by rw [h.ports p]; rfl

theorem next_none {s : State} (h : s.HeldInReset) : s.control.next = none := by
  obtain ⟨queue, -, -, -⟩ := h.requests
  simp [ControlLine.next, queue]

theorem sending_none {s : State} (h : s.HeldInReset) : s.control.sending = none := by
  obtain ⟨-, -, sending, -⟩ := h.requests
  exact sending

/-- The carrier record of a port follows its line, and the rest of the condition stands (R15, R183). -/
theorem carrier {s : State} (h : s.HeldInReset) (p : PortId) (c : Bool) :
    (s.setPort p { s.port p with carrier := c }).HeldInReset := by
  have reset : ({ s.port p with carrier := c } : Port) = .reset c := by rw [h.ports p]; rfl
  have ports (q : PortId) : (s.setPort p (.reset c)).port q = .reset ((s.setPort p (.reset c)).port q).carrier := by
    by_cases e : q = p
    · subst e; rw [setPort_port_self]; rfl
    · rw [setPort_port_ne s _ e]; exact h.ports q
  rw [reset]
  cases p with
  | a => exact { h with ports := ports }
  | b => exact { h with ports := ports }

/-- A power-on while RESETn is low leaves the condition of a fall, with the carrier records and the rate of the lines and the strap
(R182, R183, log 17). -/
theorem of_powerOn {s : State} (low : s.resetLow = true) (strap ca cb : Bool) : (s.powerOn strap ca cb).HeldInReset := by
  have fallen := ((resetFall_held s).carrier .a ca).carrier .b cb
  exact { fallen with low := low }

/-- Every command but the release keeps the condition (R183). -/
theorem of_exec {s t : State} {c : Instr} (h : s.HeldInReset) (notRelease : ∀ strap, c ≠ .resetnRelease strap)
    (step : exec c s = .next t) : t.HeldInReset := by
  cases c with
  | powerOn strap ca cb => cases step; exact of_powerOn h.low strap ca cb
  | resetnFall => cases step; exact resetFall_held s
  | resetnRelease strap => exact absurd rfl (notRelease strap)
  | hrefEdge n =>
    have stands : execHrefEdge n s = .next s := if_pos h.low
    cases stands.symm.trans step
    exact h
  | houseBlockBoundary | houseRefLocked | slip | recentre | windowEnd | pathSilent | commitApply | returnPacketBuild
  | meterPeriodEnd => cases step; rw [boundaryWhen_low h.low]; exact h
  | carrierArrival p => cases step; rw [carrierArrival_off (h.port_off p)]; exact h.carrier p true
  | carrierLoss p => cases step; rw [carrierLoss_off (h.port_off p)]; exact h.carrier p false
  | warmUpExpiry p => cases step; rw [warmUpExpiry_off (h.port_off p)]; exact h
  | packetArrival p n d => cases step; rw [atSample_low h.low, arrival_off (h.port_off p)]; exact h
  | requestArrival bytes | frameCheckFail bytes | frameOverLength bytes => cases step; rw [receive_low h.low]; exact h
  | frameStopBitError bytes | interByteTimeout bytes => cases step; rw [receive_low h.low, breakFrame_low h.low]; exact h
  | replySent => cases step; rw [replySent_idle h.sending_none]; exact h
  | badKind => cases step; rw [takeBadKind_notDue h.next_none]; exact h
  | identify | reset | clockQuery | noticeFetch | noticeEnable | portEnable | portDisable | portBudget | portQuery
  | streamOpen | streamStart | streamStop | streamClose | streamRepair | streamQuery | streamClock
  | groupSet | groupQuery | groupClock | groupRecentre | mapSet | mapCommit | mapDiscard | mapQuery
  | returnSet | returnCoef | returnStart | returnStop | returnQuery
  | signalSet | signalOverride | signalQuery | siginMask | meterSet | meterRead | watchSet | watchQuery | testQuery =>
    cases step; rw [take_notDue h.next_none]; exact h

end State.HeldInReset

/-- Settles O6, command by command. -/
theorem nothingMovesWhileResetnIsLow : Obligations.NothingMovesWhileResetnIsLow :=
  fun _ _ _ held notRelease step => held.of_exec notRelease step

end Sys2Proof.Machine
end

section
/-! SUPPORT. The notice queue and the control line (R177, R178, R185) through every change that the part makes to them; and O56. -/

namespace Sys2Proof.Machine

/-! ## The request queue and the transmitter -/

/-- The transmitter, once it has begun what it may, is idle only when no reply waits, and sends no queued reply but the oldest
request's. -/
theorem startReply_ok {c : ControlLine} (bounded : c.queue.length ≤ 4)
    (takenInOrder : c.queue.Pairwise fun q r => r.reply.isSome → q.reply.isSome)
    (sendsOldest : ∀ x, c.sending = some x → x.queued = true →
      ∃ r rest body, c.queue = r :: rest ∧ r.reply = some body ∧ x.reply = { kind := replyKind r.kind, tag := r.tag, body := body }) :
    c.startReply.Ok := by
  unfold ControlLine.startReply
  split
  next x hx => exact ⟨bounded, takenInOrder, sendsOldest, fun idle => by rw [hx] at idle; cases idle⟩
  next idle =>
    split
    next => exact ⟨bounded, takenInOrder, by rintro x ⟨⟩ ⟨⟩, nofun⟩
    next noBusy =>
      split
      next noRequest => exact ⟨bounded, takenInOrder, sendsOldest, fun _ => ⟨noBusy, by simp [noRequest]⟩⟩
      next r rest oldest =>
        split
        next untaken => exact ⟨bounded, takenInOrder, sendsOldest, fun _ => ⟨noBusy, by simpa [oldest] using untaken⟩⟩
        next body taken => exact ⟨bounded, takenInOrder, by rintro x ⟨⟩ -; exact ⟨r, rest, body, oldest, taken, rfl⟩, nofun⟩

/-- The oldest request, not yet taken, gets its reply. -/
theorem answerFirst_untaken (body : List Byte) {r : Request} (rest : List Request) (h : r.reply = none) :
    answerFirst body (r :: rest) = { r with reply := some body } :: rest := by
  simp [answerFirst, h]

/-- A request that has been taken stands as it is. -/
theorem answerFirst_taken (body : List Byte) {r : Request} (rest : List Request) (h : r.reply.isSome = true) :
    answerFirst body (r :: rest) = r :: answerFirst body rest := by
  simp [answerFirst, Option.isSome_iff_ne_none.mp h]

theorem answerFirst_length (body : List Byte) (queue : List Request) : (answerFirst body queue).length = queue.length := by
  induction queue with
  | nil => rfl
  | cons r rest ih =>
    cases hr : r.reply with
    | none => rw [answerFirst_untaken body rest hr]; rfl
    | some reply => rw [answerFirst_taken body rest (by rw [hr]; rfl), List.length_cons, ih, List.length_cons]

/-- Requests stay taken in queue order when the oldest untaken one is taken (R177). -/
theorem answerFirst_takenInOrder (body : List Byte) {queue : List Request}
    (h : queue.Pairwise fun q r => r.reply.isSome → q.reply.isSome) :
    (answerFirst body queue).Pairwise fun q r => r.reply.isSome → q.reply.isSome := by
  induction queue with
  | nil => exact h
  | cons r rest ih =>
    have later := (List.pairwise_cons.mp h).2
    cases hr : r.reply with
    | none => rw [answerFirst_untaken body rest hr]; exact List.pairwise_cons.mpr ⟨fun _ _ _ => rfl, later⟩
    | some reply =>
      have taken : r.reply.isSome = true := by rw [hr]; rfl
      rw [answerFirst_taken body rest taken]
      exact List.pairwise_cons.mpr ⟨fun _ _ _ => taken, ih later⟩

theorem ControlLine.Ok.answer {c : ControlLine} (h : c.Ok) (body : List Byte) : (c.answer body).Ok := by
  refine startReply_ok ?_ (answerFirst_takenInOrder body h.takenInOrder) fun x hx queued => ?_
  · rw [answerFirst_length]; exact h.bounded
  · obtain ⟨r, rest, reply, oldest, taken, sent⟩ := h.sendsOldest x hx queued
    exact ⟨r, _, reply, by rw [oldest, answerFirst_taken body rest (by rw [taken]; rfl)], taken, sent⟩

/-- Fields of the control line that its invariant does not read. -/
theorem ControlLine.Ok.same {c d : ControlLine} (h : c.Ok) (queue : d.queue = c.queue) (busy : d.busy = c.busy)
    (sending : d.sending = c.sending) : d.Ok := by
  cases c; cases d; cases queue; cases busy; cases sending
  exact ⟨h.bounded, h.takenInOrder, h.sendsOldest, h.idleOnlyWhenNothingWaits⟩

/-! ## The receiver -/

theorem ControlLine.Ok.arrive {c : ControlLine} (h : c.Ok) (kind tag : Byte) (body : List Byte) : (c.arrive kind tag body).Ok := by
  unfold ControlLine.arrive
  split
  next room =>
    refine ⟨?_, ?_, fun x hx queued => ?_, fun idle => ⟨(h.idleOnlyWhenNothingWaits idle).1, ?_⟩⟩
    · rw [List.length_append]; exact room
    · rw [List.pairwise_append]
      refine ⟨h.takenInOrder, List.pairwise_singleton _ _, fun _ _ r new taken => ?_⟩
      rw [List.mem_singleton.mp new] at taken
      cases taken
    · obtain ⟨r, rest, reply, oldest, taken, sent⟩ := h.sendsOldest x hx queued
      exact ⟨r, rest ++ _, reply, by rw [oldest]; rfl, taken, sent⟩
    · have waiting := (h.idleOnlyWhenNothingWaits idle).2
      cases queue : c.queue with
      | nil => simp
      | cons r rest => simpa [queue] using waiting
  next => exact startReply_ok h.bounded h.takenInOrder h.sendsOldest

theorem ControlLine.Ok.discardFrame {c : ControlLine} (h : c.Ok) : c.discardFrame.Ok := h.same rfl rfl rfl

theorem ControlLine.Ok.endFrame {c : ControlLine} (h : c.Ok) (frame : List Byte) : (c.endFrame frame).Ok := by
  unfold ControlLine.endFrame
  dsimp only
  split
  · have hunting : ({ c with receiver := none } : ControlLine).Ok := h.same rfl rfl rfl
    exact hunting.arrive _ _ _
  · exact h.discardFrame

theorem ControlLine.Ok.receiveByte {c : ControlLine} (h : c.Ok) (b : Byte) : (c.receiveByte b).Ok := by
  unfold ControlLine.receiveByte
  split
  · split
    · exact h.same rfl rfl rfl
    · exact h
  · dsimp only
    split
    · exact h.same rfl rfl rfl
    split
    · exact h.discardFrame
    split
    · exact h.endFrame _
    · exact h.same rfl rfl rfl

theorem ControlLine.Ok.receive {c : ControlLine} (h : c.Ok) (bytes : List Byte) : (c.receive bytes).Ok := by
  induction bytes generalizing c with
  | nil => exact h
  | cons b bytes ih => exact ih (h.receiveByte b)

theorem ControlLine.Ok.breakFrame {c : ControlLine} (h : c.Ok) : c.breakFrame.Ok := by
  unfold ControlLine.breakFrame
  split
  · exact h
  · exact h.discardFrame

/-- The reply in transmission has ended, and some of the oldest requests have left the queue. -/
theorem ControlLine.Ok.sent {c : ControlLine} (h : c.Ok) {queue : List Request} (left : queue.Sublist c.queue) (taken : Bool) :
    (ControlLine.startReply { c with queue := queue, sending := none, resetTaken := taken }).Ok :=
  startReply_ok (left.length_le.trans h.bounded) (h.takenInOrder.sublist left) nofun

/-! ## States whose queues stay in order -/

/-- `t` keeps of the notice queue and of the control line of `s` what the spec says always holds of them. -/
structure State.KeepsQueues (s t : State) : Prop where
  notices : s.notices.Ok → t.notices.Ok
  control : s.control.Ok → t.control.Ok

namespace State.KeepsQueues

theorem trans {s t u : State} (h : s.KeepsQueues t) (k : t.KeepsQueues u) : s.KeepsQueues u :=
  ⟨k.notices ∘ h.notices, k.control ∘ h.control⟩

/-- Changes outside both queues. -/
theorem same {s t : State} (notices : t.notices = s.notices) (control : t.control = s.control) : s.KeepsQueues t where
  notices h := by rw [notices]; exact h
  control h := by rw [control]; exact h

theorem refl (s : State) : s.KeepsQueues s := same rfl rfl

theorem setStream (s : State) (i : Fin 32) (x : Stream) : s.KeepsQueues (s.setStream i x) := same rfl rfl

theorem setGroup (s : State) (g : Fin 16) (x : Group) : s.KeepsQueues (s.setGroup g x) := same rfl rfl

theorem setFeed (s : State) (r : Fin 16) (y : Feed) : s.KeepsQueues (s.setFeed r y) := same rfl rfl

theorem mapStreams (s : State) (f : Fin 32 → Stream → Stream) : s.KeepsQueues (s.mapStreams f) := same rfl rfl

theorem setPort (s : State) (p : PortId) (x : Port) : s.KeepsQueues (s.setPort p x) :=
  same (setPort_notices s p x) (setPort_control s p x)

theorem atSample (s : State) (n : Fin 48) : s.KeepsQueues (s.atSample n) := same (atSample_notices s n) (atSample_control s n)

theorem posted {s t : State} (h : s.KeepsQueues t) (p : Post) : s.KeepsQueues (t.post p) :=
  h.trans ⟨post_ok t.clock.hbc p, id⟩

theorem postedAll {s t : State} (h : s.KeepsQueues t) (ps : List Post) : s.KeepsQueues (t.postAll ps) :=
  h.trans ⟨postAll_ok t.clock.hbc ps, id⟩

theorem setControl {s : State} {c : ControlLine} (h : s.control.Ok → c.Ok) : s.KeepsQueues { s with control := c } := ⟨id, h⟩

theorem answer (s : State) (body : List Byte) : s.KeepsQueues (s.answer body) := setControl fun h => h.answer body

end State.KeepsQueues

/-! ## Requests of the control line and the notice queue -/

/-- A request's effects keep both queues in order. -/
def ServesQueues (serve : State → List Byte → Served) : Prop :=
  ∀ s body t data, serve s body = .ok (t, data) → s.KeepsQueues t

/-- The taking of a request keeps the queues as its serving does. -/
theorem take_queues {serve : State → List Byte → Served} (h : ServesQueues serve) (s : State) (kind : Byte) :
    s.KeepsQueues (s.take kind serve) := by
  obtain e | ⟨body, e⟩ | ⟨r, t, data, -, -, -, hs, e⟩ := take_cases s kind serve
  · rw [e]; exact .refl s
  · rw [e]; exact .answer s body
  · rw [e]; exact (h s r.body t data hs).trans (.answer t _)

theorem ServesNothing.servesQueues {serve : State → List Byte → Served} (h : ServesNothing serve) : ServesQueues serve :=
  fun s body t data e => h s body t data e ▸ .refl s

theorem serveIdentify_nothing : ServesNothing serveIdentify := by
  rintro s body t data ⟨⟩
  rfl

theorem serveReset_queues : ServesQueues serveReset := by
  rintro s body t data ⟨⟩
  exact .setControl fun h => h.same rfl rfl rfl

theorem serveNoticeFetch_queues : ServesQueues serveNoticeFetch := by
  intro s body t data h
  simp only [serveNoticeFetch, require_bind_ok] at h
  obtain ⟨-, ⟨⟩⟩ := h
  have left : (s.notices.afterFetch (field1 body 0)).entries.Sublist s.notices.entries := List.filter_sublist
  exact ⟨fun hn => ⟨left.length_le.trans hn.bounded, hn.distinct.sublist left⟩, id⟩

theorem serveNoticeEnable_queues : ServesQueues serveNoticeEnable := by
  intro s body t data h
  simp only [serveNoticeEnable, require_bind_ok] at h
  obtain ⟨-, ⟨⟩⟩ := h
  exact ⟨fun hn => ⟨hn.bounded, hn.distinct⟩, id⟩

theorem serveClockQuery_queues (n : Fin 48) : ServesQueues fun s body => serveClockQuery (s.atSample n) body := by
  rintro s body t data ⟨⟩
  exact .atSample s n

/-! ## Requests outside both queues -/

theorem servePortEnable_queues (n : Fin 48) : ServesQueues fun s body => servePortEnable (s.atSample n) body := by
  intro s body t data h
  simp only [servePortEnable, require_bind_ok] at h
  obtain ⟨-, ⟨⟩⟩ := h
  exact (State.KeepsQueues.atSample s n).trans (.setPort _ _ _)

theorem servePortDisable_queues : ServesQueues servePortDisable := by
  intro s body t data h
  simp only [servePortDisable, require_bind_ok] at h
  obtain ⟨-, ⟨⟩⟩ := h
  exact .setPort _ _ _

theorem servePortBudget_queues : ServesQueues servePortBudget := by
  intro s body t data h
  simp only [servePortBudget, require_bind_ok] at h
  obtain ⟨-, -, ⟨⟩⟩ := h
  exact .setPort _ _ _

theorem servePortQuery_queues (n : Fin 48) : ServesQueues fun s body => servePortQuery (s.atSample n) body := by
  intro s body t data h
  simp only [servePortQuery, require_bind_ok] at h
  obtain ⟨-, ⟨⟩⟩ := h
  split
  · exact (State.KeepsQueues.atSample s n).trans (.setPort _ _ _)
  · exact .atSample s n

theorem unanchor_queues (s : State) (g : Fin 16) : s.KeepsQueues (s.unanchor g) :=
  (State.KeepsQueues.mapStreams s _).trans (.setGroup _ g _)

theorem unanchorIfLeft_queues (s : State) (g : Fin 16) : s.KeepsQueues (s.unanchorIfLeft g) := by
  unfold State.unanchorIfLeft
  split
  · exact unanchor_queues s g
  · exact .refl s

theorem serveStreamOpen_queues : ServesQueues serveStreamOpen := by
  intro s body t data h
  unfold serveStreamOpen at h
  split at h
  · cases h
  split at h
  · cases h
  split at h
  · cases h
  next o _ =>
  cases hk : o.checks s with
  | error st => rw [hk] at h; cases h
  | ok u => rw [hk] at h; cases h; exact .same rfl rfl

theorem serveStreamStart_queues : ServesQueues serveStreamStart := by
  intro s body t data h
  unfold serveStreamStart at h
  split at h
  · cases h
  split at h
  · cases h; exact .setStream _ _ _
  · cases h

theorem serveStreamStop_queues : ServesQueues serveStreamStop := by
  intro s body t data h
  unfold serveStreamStop at h
  split at h
  · cases h
  next i _ =>
  have stopped : s.KeepsQueues (s.stopStream i) := (State.KeepsQueues.setStream s i _).trans (unanchorIfLeft_queues _ _)
  split at h
  · cases h
  · cases h; exact .refl s
  all_goals cases h; exact stopped

theorem closeStream_queues (s : State) (i : Fin 32) : s.KeepsQueues (s.closeStream i) :=
  (((State.KeepsQueues.setStream s i .closed).trans (.setGroup _ (s.stream i).group _)).trans (unanchorIfLeft_queues _ _)).trans
    (.same rfl rfl)

theorem serveStreamClose_queues : ServesQueues serveStreamClose := by
  intro s body t data h
  unfold serveStreamClose at h
  split at h
  · cases h
  split at h
  · cases h
  · cases h; exact closeStream_queues s _

theorem serveStreamRepair_queues : ServesQueues serveStreamRepair := by
  intro s body t data h
  unfold serveStreamRepair at h
  split at h
  · cases h
  dsimp only at h
  split at h
  · cases h
  split at h
  · cases h
  · cases h; exact .setStream _ _ _
  · cases h; exact .setStream _ _ _

theorem serveTestQuery_queues : ServesQueues serveTestQuery := by
  intro s body t data h
  unfold serveTestQuery at h
  split at h
  · cases h
  simp only [require_bind_ok] at h
  obtain ⟨-, ⟨⟩⟩ := h
  split
  · exact .setStream _ _ _
  · exact .refl s

theorem serveGroupSet_queues : ServesQueues serveGroupSet := by
  intro s body t data h
  unfold serveGroupSet at h
  split at h
  · cases h
  simp only [require_bind_ok] at h
  obtain ⟨-, -, ⟨⟩⟩ := h
  exact .setGroup _ _ _

theorem serveGroupRecentre_queues : ServesQueues serveGroupRecentre := by
  intro s body t data h
  unfold serveGroupRecentre at h
  split at h
  · cases h
  split at h
  · split at h
    · cases h
    · cases h; exact .setGroup _ _ _
  · cases h

theorem serveMapSet_queues : ServesQueues serveMapSet := by
  intro s body t data h
  unfold serveMapSet at h
  split at h
  · cases h
  split at h
  · cases h
  simp only [require_bind_ok] at h
  obtain ⟨-, ⟨⟩⟩ := h
  exact .same rfl rfl

theorem serveMapCommit_queues : ServesQueues serveMapCommit := by
  rintro s body t data ⟨⟩
  exact .same rfl rfl

theorem serveMapDiscard_queues : ServesQueues serveMapDiscard := by
  intro s body t data h
  simp only [serveMapDiscard] at h
  split at h
  · cases h; exact .same rfl rfl
  split at h
  · cases h
  · cases h; exact .same rfl rfl

theorem serveMapQuery_queues : ServesQueues serveMapQuery := by
  intro s body t data h
  simp only [serveMapQuery] at h
  split at h
  · cases h
  simp only [require_bind_ok] at h
  obtain ⟨-, ⟨⟩⟩ := h
  split
  · exact .same rfl rfl
  · exact .refl s

theorem serveReturnSet_queues : ServesQueues serveReturnSet := by
  intro s body t data h
  unfold serveReturnSet at h
  split at h
  · cases h
  next r _ =>
  dsimp only at h
  split at h
  · cases h
  next y _ =>
  simp only [require_bind_ok] at h
  obtain ⟨-, -, ⟨⟩⟩ := h
  split
  · exact .same rfl rfl
  · exact .setFeed s r y

theorem serveReturnCoef_queues : ServesQueues serveReturnCoef := by
  intro s body t data h
  unfold serveReturnCoef at h
  split at h
  · cases h
  simp only [require_bind_ok] at h
  obtain ⟨-, ⟨⟩⟩ := h
  exact .setFeed _ _ _

theorem serveReturnStart_queues : ServesQueues serveReturnStart := by
  intro s body t data h
  unfold serveReturnStart at h
  split at h
  · cases h
  simp only [require_bind_ok] at h
  obtain ⟨-, -, -, ⟨⟩⟩ := h
  exact .same rfl rfl

theorem serveReturnStop_queues : ServesQueues serveReturnStop := by
  intro s body t data h
  unfold serveReturnStop at h
  split at h
  · cases h
  dsimp only at h
  split at h
  · cases h; exact .same rfl rfl
  · cases h; exact .refl s

theorem serveReturnQuery_queues : ServesQueues serveReturnQuery := by
  intro s body t data h
  unfold serveReturnQuery at h
  split at h
  · cases h
  simp only [require_bind_ok] at h
  obtain ⟨-, ⟨⟩⟩ := h
  split
  · exact .setFeed _ _ _
  · exact .refl s

theorem serveSignalSet_queues : ServesQueues serveSignalSet := by
  intro s body t data h
  unfold serveSignalSet at h
  split at h
  · cases h
  split at h
  · cases h
  · cases h; exact .same rfl rfl

theorem serveSignalOverride_queues : ServesQueues serveSignalOverride := by
  rintro s body t data ⟨⟩
  exact .same rfl rfl

theorem serveSiginMask_queues : ServesQueues serveSiginMask := by
  rintro s body t data ⟨⟩
  exact .same rfl rfl

theorem serveMeterSet_queues : ServesQueues serveMeterSet := by
  intro s body t data h
  simp only [serveMeterSet, require_bind_ok] at h
  obtain ⟨-, ⟨⟩⟩ := h
  exact .same rfl rfl

theorem serveWatchSet_queues : ServesQueues serveWatchSet := by
  intro s body t data h
  unfold serveWatchSet at h
  split at h
  · cases h
  split at h
  · cases h
  · cases h; exact .same rfl rfl

/-! ## Packets -/

theorem anchoredFor_queues (s : State) (i : Fin 32) (p : Packet) : s.KeepsQueues (s.anchoredFor i p) := by
  unfold State.anchoredFor
  split
  · exact .refl s
  · exact .same rfl rfl

theorem classifyPacket_queues (s : State) (i : Fin 32) (a : Ingest) : s.KeepsQueues (s.classifyPacket i a) :=
  ((State.KeepsQueues.setStream s i a.x).postedAll a.posts).trans (.same rfl rfl)

theorem transit_queues (s : State) (i : Fin 32) (sourceTime : Word) : s.KeepsQueues (s.transit i sourceTime) := .setStream _ _ _

theorem firstPacket_queues (s : State) (i : Fin 32) (path : PathId) (p : Packet) : s.KeepsQueues (s.firstPacket i path p) := by
  rw [firstPacket_eq]
  exact (((anchoredFor_queues s i p).trans (.setStream _ i _)).trans (transit_queues _ i _)).trans (classifyPacket_queues _ i _)

theorem relock_queues (s : State) (g : Fin 16) (cause : Fin 32) : s.KeepsQueues (s.relock g cause) :=
  ((State.KeepsQueues.mapStreams s _).trans (unanchor_queues _ g)).posted _

theorem earlyResync_queues (s : State) (i : Fin 32) (detail : Int) : s.KeepsQueues (s.earlyResync i detail) :=
  ((State.KeepsQueues.setStream s i _).posted _).trans (unanchorIfLeft_queues _ _)

theorem rejectA_queues (s : State) (i : Fin 32) : s.KeepsQueues (s.rejectA i) := by
  have counted (x : Stream) : s.KeepsQueues (s.setStream i x) := .setStream s i x
  unfold State.rejectA
  dsimp only
  split
  · exact counted _
  · exact (counted _).trans (relock_queues _ _ i)

theorem rejectB_queues (s : State) (i : Fin 32) : s.KeepsQueues (s.rejectB i) := by
  have counted (x : Stream) : s.KeepsQueues (s.setStream i x) := .setStream s i x
  unfold State.rejectB
  dsimp only
  split
  · split
    · exact counted _
    · exact (counted _).posted _
  · exact counted _

theorem ingested_queues (s : State) (i : Fin 32) (path : PathId) (p : Packet) : s.KeepsQueues (s.ingested i path p) := by
  unfold State.ingested
  split
  · exact (classifyPacket_queues s i _).trans (transit_queues _ i _)
  · exact classifyPacket_queues s i _

theorem laterPacket_queues (s : State) (i : Fin 32) (path : PathId) (p : Packet) : s.KeepsQueues (s.laterPacket i path p) := by
  obtain e | ⟨d, e⟩ | ⟨-, e⟩ | ⟨-, e⟩ := laterPacket_cases s i path p
  · rw [e]; exact ingested_queues s i path p
  · rw [e]; exact (ingested_queues s i path p).trans (earlyResync_queues _ i d)
  · rw [e]; exact rejectA_queues s i
  · rw [e]; exact rejectB_queues s i

theorem ingestStream_queues (s : State) (port : PortId) (i : Fin 32) (path : PathId) (p : Packet) :
    s.KeepsQueues (s.ingestStream port i path p) := by
  obtain e | ⟨-, c, e⟩ | ⟨-, e⟩ | ⟨-, e⟩ := ingestStream_cases s port i path p
  · rw [e]; exact .setPort s port _
  · rw [e]; exact .setStream s i _
  · rw [e]; exact firstPacket_queues s i path p
  · rw [e]; exact laterPacket_queues s i path p

theorem ingestDatagram_queues (s : State) (port : PortId) (d : List Byte) : s.KeepsQueues (s.ingestDatagram port d) := by
  obtain ⟨x, -, e⟩ | ⟨i, path, p, e⟩ := ingestDatagram_cases s port d
  · rw [e]; exact .setPort s port x
  · rw [e]; exact ingestStream_queues s port i path p

theorem arrival_queues (s : State) (port : PortId) (d : List Byte) : s.KeepsQueues (s.arrival port d) := by
  unfold State.arrival
  dsimp only
  split
  · exact (State.KeepsQueues.setPort s port _).trans (ingestDatagram_queues _ port d)
  · exact .refl s

/-! ## Other events -/

theorem boundaryWhen_queues (s : State) (due : Bool) (inp : BoundaryInput) : s.KeepsQueues (s.boundaryWhen due inp) := by
  unfold State.boundaryWhen
  split
  · exact .refl s
  split
  · obtain ⟨qs, parts⟩ := boundary_parts s inp
    rw [parts]
    exact ⟨postAll_ok _ _, id⟩
  · exact .refl s

theorem receive_queues (s : State) (bytes : List Byte) : s.KeepsQueues (s.receive bytes) := by
  unfold State.receive
  split
  · exact .refl s
  · exact .setControl fun h => h.receive bytes

theorem breakFrame_queues (s : State) : s.KeepsQueues s.breakFrame := by
  unfold State.breakFrame
  split
  · exact .refl s
  · exact .setControl fun h => h.breakFrame

theorem takeBadKind_queues (s : State) : s.KeepsQueues s.takeBadKind := by
  unfold State.takeBadKind
  split
  · exact .refl s
  split
  · exact .answer s _
  · exact .refl s

theorem resetRelease_queues (s : State) (strap : Bool) : s.KeepsQueues (s.resetRelease strap) := by
  unfold State.resetRelease
  split
  · exact ⟨id, fun h => h.same rfl rfl rfl⟩
  · exact .refl s

theorem replySent_queues (s : State) : s.KeepsQueues s.replySent := by
  unfold State.replySent
  split
  · exact .refl s
  dsimp only
  split
  · split
    · exact ⟨fun _ => NoticeQueue.reset_ok, fun h => h.sent (List.nil_sublist _) false⟩
    · exact .setControl fun h => h.sent (List.tail_sublist _) _
  · exact .setControl fun h => h.sent (List.Sublist.refl _) _

theorem hrefEdge_queues {n : Fin 48} {s t : State} (h : execHrefEdge n s = .next t) : s.KeepsQueues t := by
  unfold execHrefEdge at h
  split at h
  · cases h; exact .refl s
  · cases h; exact (State.KeepsQueues.atSample s n).trans (.same rfl rfl)

theorem carrierArrival_queues (s : State) (p : PortId) : s.KeepsQueues (s.carrierArrival p) := by
  have moved (x : Port) : s.KeepsQueues (s.setPort p x) := .setPort s p x
  unfold State.carrierArrival
  dsimp only
  split
  · exact (moved _).posted _
  all_goals exact moved _

theorem carrierLoss_queues (s : State) (p : PortId) : s.KeepsQueues (s.carrierLoss p) := by
  have moved (x : Port) : s.KeepsQueues (s.setPort p x) := .setPort s p x
  unfold State.carrierLoss
  dsimp only
  split
  · exact (moved _).posted _
  all_goals exact moved _

theorem warmUpExpiry_queues (s : State) (p : PortId) : s.KeepsQueues (s.warmUpExpiry p) := by
  have moved (x : Port) : s.KeepsQueues (s.setPort p x) := .setPort s p x
  unfold State.warmUpExpiry
  dsimp only
  split
  · split
    · exact (moved _).posted _
    · exact (moved _).posted _
  all_goals exact .refl s

/-! ## Every command -/

/-- Every command keeps both queues in order. -/
theorem exec_queues (c : Instr) (s t : State) (h : exec c s = .next t) : s.KeepsQueues t := by
  cases c with
  | powerOn strap ca cb => cases h; exact ⟨fun _ => NoticeQueue.reset_ok, fun _ => ControlLine.reset_ok strap⟩
  | resetnFall => cases h; exact ⟨fun _ => NoticeQueue.reset_ok, fun _ => ControlLine.reset_ok _⟩
  | resetnRelease strap => cases h; exact resetRelease_queues s strap
  | hrefEdge n => exact hrefEdge_queues h
  | houseBlockBoundary | houseRefLocked | slip | recentre | windowEnd | pathSilent | commitApply | returnPacketBuild
  | meterPeriodEnd => cases h; exact boundaryWhen_queues s _ _
  | carrierArrival p => cases h; exact carrierArrival_queues s p
  | carrierLoss p => cases h; exact carrierLoss_queues s p
  | warmUpExpiry p => cases h; exact warmUpExpiry_queues s p
  | packetArrival p n d => cases h; exact (State.KeepsQueues.atSample s n).trans (arrival_queues _ p d)
  | requestArrival bytes | frameCheckFail bytes | frameOverLength bytes => cases h; exact receive_queues s bytes
  | frameStopBitError bytes | interByteTimeout bytes => cases h; exact (receive_queues s bytes).trans (breakFrame_queues _)
  | replySent => cases h; exact replySent_queues s
  | badKind => cases h; exact takeBadKind_queues s
  | identify => cases h; exact take_queues serveIdentify_nothing.servesQueues s _
  | reset => cases h; exact take_queues serveReset_queues s _
  | clockQuery n => cases h; exact take_queues (serveClockQuery_queues n) s _
  | noticeFetch => cases h; exact take_queues serveNoticeFetch_queues s _
  | noticeEnable => cases h; exact take_queues serveNoticeEnable_queues s _
  | portEnable n => cases h; exact take_queues (servePortEnable_queues n) s _
  | portDisable => cases h; exact take_queues servePortDisable_queues s _
  | portBudget => cases h; exact take_queues servePortBudget_queues s _
  | portQuery n => cases h; exact take_queues (servePortQuery_queues n) s _
  | streamOpen => cases h; exact take_queues serveStreamOpen_queues s _
  | streamStart => cases h; exact take_queues serveStreamStart_queues s _
  | streamStop => cases h; exact take_queues serveStreamStop_queues s _
  | streamClose => cases h; exact take_queues serveStreamClose_queues s _
  | streamRepair => cases h; exact take_queues serveStreamRepair_queues s _
  | streamQuery => cases h; exact take_queues serveStreamQuery_nothing.servesQueues s _
  | streamClock => cases h; exact take_queues serveStreamClock_nothing.servesQueues s _
  | groupSet => cases h; exact take_queues serveGroupSet_queues s _
  | groupQuery => cases h; exact take_queues serveGroupQuery_nothing.servesQueues s _
  | groupClock => cases h; exact take_queues serveGroupClock_nothing.servesQueues s _
  | groupRecentre => cases h; exact take_queues serveGroupRecentre_queues s _
  | mapSet => cases h; exact take_queues serveMapSet_queues s _
  | mapCommit => cases h; exact take_queues serveMapCommit_queues s _
  | mapDiscard => cases h; exact take_queues serveMapDiscard_queues s _
  | mapQuery => cases h; exact take_queues serveMapQuery_queues s _
  | returnSet => cases h; exact take_queues serveReturnSet_queues s _
  | returnCoef => cases h; exact take_queues serveReturnCoef_queues s _
  | returnStart => cases h; exact take_queues serveReturnStart_queues s _
  | returnStop => cases h; exact take_queues serveReturnStop_queues s _
  | returnQuery => cases h; exact take_queues serveReturnQuery_queues s _
  | signalSet => cases h; exact take_queues serveSignalSet_queues s _
  | signalOverride => cases h; exact take_queues serveSignalOverride_queues s _
  | signalQuery => cases h; exact take_queues serveSignalQuery_nothing.servesQueues s _
  | siginMask => cases h; exact take_queues serveSiginMask_queues s _
  | meterSet => cases h; exact take_queues serveMeterSet_queues s _
  | meterRead => cases h; exact take_queues serveMeterRead_nothing.servesQueues s _
  | watchSet => cases h; exact take_queues serveWatchSet_queues s _
  | watchQuery => cases h; exact take_queues serveWatchQuery_nothing.servesQueues s _
  | testQuery => cases h; exact take_queues serveTestQuery_queues s _

/-- Every step keeps both queues in order. -/
theorem step_queues {s t : State} (h : step s = .next t) : s.KeepsQueues t := by
  unfold step at h
  split at h
  · cases h; exact .refl s
  next c rest _ =>
    have queued : s.KeepsQueues (s.withPending rest) := .same rfl rfl
    exact queued.trans (exec_queues c _ t h)

/-- Settles O56, by what every step keeps of the two queues. -/
theorem queuesKeepTheirOrder : Obligations.QueuesKeepTheirOrder :=
  ⟨fun _ _ h hstep => (step_queues hstep).notices h, fun _ _ h hstep => (step_queues hstep).control h⟩

end Sys2Proof.Machine
end

section
/-! SUPPORT. The taking of a request, its reply and the transmitter (R175, R177 to R181); and O7, O8, O9, O10 and O12. -/

namespace Sys2Proof.Machine

/-! ## The commands that take a request -/

/-- A request command is the taking of a request of its kind (R178). -/
theorem exec_request {n : Fin 48} {p : Byte × Instr} (h : p ∈ requestCommands n) :
    ∃ serve, ∀ s, exec p.2 s = .next (s.take p.1 serve) := by
  simp only [requestCommands, List.mem_cons, List.not_mem_nil, or_false] at h
  repeat' obtain rfl | h := h
  all_goals exact ⟨_, fun _ => rfl⟩

/-- No request is taken from the taking of a RESET until its reset takes effect (R181). -/
theorem next_resetTaken {s : State} (h : s.control.resetTaken = true) : s.control.next = none := if_pos h

/-- Settles O7: RESET is granted at its turn, and a control line that has taken it takes no request. -/
theorem resetRequestStopsTheTaking : Obligations.ResetRequestStopsTheTaking := by
  refine ⟨fun s hn => take_granted hn rfl rfl, fun s n p taken hp => ?_, fun s taken => ?_⟩
  · obtain ⟨serve, taking⟩ := exec_request hp
    rw [taking, take_notDue (next_resetTaken taken)]
  · exact congrArg Host.Outcome.next (takeBadKind_notDue (next_resetTaken taken))

/-- Settles O12: the request is taken at its turn, with the capacities in their order. -/
theorem identifyReportsTheCapacities : Obligations.IdentifyReportsTheCapacities := by
  intro s hn
  exact take_granted hn rfl rfl

/-! ## The last byte of a reply (R177, R178, R181) -/

theorem isReset_iff (r : Request) : r.isReset = true ↔ r.kind = 0x02 ∧ r.reply = some [0] := by
  simp [Request.isReset, Status.code]

/-- The last byte of the reply to the oldest request: it leaves the queue, and its reset takes effect when it is a RESET. -/
theorem replySent_queued {s : State} {x : Sending} {r : Request} {rest : List Request} (sending : s.control.sending = some x)
    (queued : x.queued = true) (oldest : s.control.queue = r :: rest) : s.replySent =
      if r.isReset then { s.requestReset with control := ControlLine.startReply { s.requestReset.control with sending := none } }
      else { s with control := ControlLine.startReply { s.control with queue := rest, sending := none } } := by
  simp only [State.replySent, sending, queued, oldest, List.head?_cons, Option.map_some, Option.getD_some, List.tail_cons, if_true]

theorem replySent_busy {s : State} {x : Sending} (sending : s.control.sending = some x) (busy : x.queued = false) :
    s.replySent = { s with control := ControlLine.startReply { s.control with sending := none } } := by
  simp only [State.replySent, sending, busy, Bool.false_eq_true, if_false]

/-- Settles O8, by the reply that ends. -/
theorem replySentEndsItsRequest : Obligations.ReplySentEndsItsRequest := by
  refine ⟨⟨fun s x r rest sending queued oldest other => ?_, fun s x sending busy => ?_, fun s idle => ?_⟩,
    fun s x r rest sending queued oldest kind reply => ?_⟩
  · have noReset : ¬ r.isReset = true := by rw [isReset_iff, not_and_or]; exact other
    exact congrArg Host.Outcome.next ((replySent_queued sending queued oldest).trans (if_neg noReset))
  · exact congrArg Host.Outcome.next (replySent_busy sending busy)
  · exact congrArg Host.Outcome.next (replySent_idle idle)
  · have reset : r.isReset = true := (isReset_iff r).mpr ⟨kind, reply⟩
    exact congrArg Host.Outcome.next ((replySent_queued sending queued oldest).trans (if_pos reset))

/-! ## The transmitter and the reply of a request (R175, R177, R178) -/

/-- The oldest request not yet taken gets its reply in its place. -/
theorem answerFirst_append (body : List Byte) {taken : List Request} (h : ∀ q ∈ taken, q.reply.isSome = true) {r : Request}
    (rest : List Request) (untaken : r.reply = none) :
    answerFirst body (taken ++ r :: rest) = taken ++ { r with reply := some body } :: rest := by
  induction taken with
  | nil => exact answerFirst_untaken body rest untaken
  | cons q taken ih =>
    obtain ⟨first, others⟩ := List.forall_mem_cons.mp h
    rw [List.cons_append, answerFirst_taken body _ first, ih others, List.cons_append]

theorem startReply_sending {c : ControlLine} {x : Sending} (h : c.sending = some x) : c.startReply = c := by
  simp only [ControlLine.startReply, h]

theorem startReply_busy {c : ControlLine} {b : Reply} {bs : List Reply} (idle : c.sending = none) (waiting : c.busy = b :: bs) :
    c.startReply = { c with sending := some { reply := b, queued := false }, busy := bs } := by
  simp only [ControlLine.startReply, idle, waiting]

theorem startReply_oldest {c : ControlLine} {r : Request} {rest : List Request} {body : List Byte} (idle : c.sending = none)
    (noBusy : c.busy = []) (oldest : c.queue = r :: rest) (taken : r.reply = some body) :
    c.startReply = { c with
      sending := some { reply := { kind := replyKind r.kind, tag := r.tag, body := body }, queued := true } } := by
  simp only [ControlLine.startReply, idle, noBusy, oldest, taken]

theorem startReply_waits {c : ControlLine} (idle : c.sending = none) (noBusy : c.busy = [])
    (untaken : ∀ r ∈ c.queue.head?, r.reply = none) : c.startReply = c := by
  simp only [ControlLine.startReply, idle, noBusy]
  cases oldest : c.queue with
  | nil => rfl
  | cons r rest => simp only [untaken r (by rw [oldest]; rfl)]

/-- Settles O9: the transmitter by what waits for it, and the reply of a request in its place of the queue. -/
theorem repliesAreFormedAndSentInOrder : Obligations.RepliesAreFormedAndSentInOrder := by
  refine ⟨⟨fun c x => startReply_sending, fun c b bs => startReply_busy, fun c r rest body => startReply_oldest,
    fun c => startReply_waits⟩, fun s taken rest r body queue before untaken => ?_⟩
  rw [State.answer, ControlLine.answer, queue, answerFirst_append body before rest untaken]

/-! ## Kinds and lengths (R178, R179) -/

/-- The request kinds, in the order of the table of R178: no house sample names another one. -/
def requestKinds : List Byte := (requestCommands 0).map Prod.fst

theorem requestCommands_kinds (n : Fin 48) : (requestCommands n).map Prod.fst = requestKinds := rfl

/-- The table of R178 gives a body length to the request kinds and to no other. -/
theorem bodyLength_isSome_iff (k : Byte) : (bodyLength k).isSome = true ↔ k ∈ requestKinds := by
  revert k
  decide

theorem bodyLength_eq_none_iff (k : Byte) (n : Fin 48) : bodyLength k = none ↔ ∀ p ∈ requestCommands n, p.1 ≠ k := by
  rw [← Option.not_isSome_iff_eq_none, bodyLength_isSome_iff, ← requestCommands_kinds n]
  simp only [List.mem_map, not_exists, not_and, ne_eq]

theorem takeBadKind_of_Next {s : State} {kind : Byte} {body : List Byte} (h : s.Next kind body) :
    s.takeBadKind = if bodyLength kind = none then s.answer [2] else s := by
  obtain ⟨r, next, rfl, -⟩ := next_of_Next h
  simp only [State.takeBadKind, next, Status.code]

/-- A request of a known kind whose body has another length is refused before its own checks (R179). -/
theorem take_badLength {s : State} {kind : Byte} {body : List Byte} (serve : State → List Byte → Served) (h : s.Next kind body)
    (wrong : bodyLength kind ≠ some body.length) : s.take kind serve = s.answer [3] := by
  obtain ⟨r, next, rfl, rfl⟩ := next_of_Next h
  simp only [State.take, next, wrong, if_true, if_false, Status.code]

/-- Settles O10: the kinds of the table are those of the request commands, and its lengths stand kind by kind. -/
theorem unknownKindsAndWrongLengthsAreRefused : Obligations.UnknownKindsAndWrongLengthsAreRefused := by
  refine ⟨⟨fun s n kind body hn unknown => ?_, fun s n p body hp hn wrong => ?_, fun s n p body hp hn => ?_⟩, rfl,
    fun k n => (bodyLength_eq_none_iff k n).mpr⟩
  · have none := (bodyLength_eq_none_iff kind n).mpr unknown
    exact congrArg Host.Outcome.next ((takeBadKind_of_Next hn).trans (if_pos none))
  · obtain ⟨serve, taking⟩ := exec_request hp
    rw [taking, take_badLength serve hn wrong]
  · have known : ¬ bodyLength p.1 = none := fun none => (bodyLength_eq_none_iff p.1 n).mp none p hp rfl
    exact congrArg Host.Outcome.next ((takeBadKind_of_Next hn).trans (if_neg known))

end Sys2Proof.Machine
end

section
/-! SUPPORT. A frame in the receiver, byte by byte, and how it ends (R175 to R177); and O11. -/

namespace Sys2Proof.Machine

/-! ## The receiver, byte by byte -/

theorem receive_append (c : ControlLine) (bytes more : List Byte) : c.receive (bytes ++ more) = (c.receive bytes).receive more :=
  List.foldl_append

/-- A hunting receiver passes over every byte but a sync byte (R176). -/
theorem receive_noise {c : ControlLine} (hunting : c.receiver = none) {noise : List Byte} (h : ∀ b ∈ noise, b ≠ syncByte) :
    c.receive noise = c := by
  induction noise with
  | nil => rfl
  | cons b noise ih =>
    obtain ⟨first, others⟩ := List.forall_mem_cons.mp h
    have passed : c.receiveByte b = c := by simp only [ControlLine.receiveByte, hunting, first, if_false]
    rw [ControlLine.receive, List.foldl_cons, passed]
    exact ih others

/-- A sync byte begins a frame (R176). -/
theorem receiveByte_sync {c : ControlLine} (hunting : c.receiver = none) :
    c.receiveByte syncByte = { c with receiver := some [] } := by
  simp only [ControlLine.receiveByte, hunting, if_true]

/-- The length of a frame is known from its fourth byte on (R175). -/
theorem frameLength_append {got : List Byte} (h : 4 ≤ got.length) (more : List Byte) :
    frameLength (got ++ more) = frameLength got := by
  simp only [frameLength, field2, List.drop_append, List.take_append, List.length_drop]
  simp [show 2 - (got.length - 2) = 0 by omega, show 2 - got.length = 0 by omega]

/-- A byte of a frame that it does not end, with a length in range once that is known, stands in the receiver (R176). -/
theorem receiveByte_part {c : ControlLine} {got : List Byte} (inFrame : c.receiver = some got) (b : Byte)
    (goesOn : 4 ≤ (got ++ [b]).length → frameLength (got ++ [b]) ≤ 1024 ∧ (got ++ [b]).length ≠ 6 + frameLength (got ++ [b])) :
    c.receiveByte b = { c with receiver := some (got ++ [b]) } := by
  simp only [ControlLine.receiveByte, inFrame]
  split
  · rfl
  next long =>
    obtain ⟨length, unfinished⟩ := goesOn (not_lt.mp long)
    rw [if_neg (not_lt.mpr length), if_neg unfinished]

/-- The bytes of a frame that is not yet whole stand in the receiver (R176). -/
theorem receive_part {c : ControlLine} {got : List Byte} (inFrame : c.receiver = some got) (more : List Byte)
    (short : (got ++ more).length < 6 + frameLength (got ++ more)) (length : frameLength (got ++ more) ≤ 1024) :
    c.receive more = { c with receiver := some (got ++ more) } := by
  induction more generalizing c got with
  | nil => rw [List.append_nil, ← inFrame]; rfl
  | cons b more ih =>
    rw [List.append_cons] at short length ⊢
    have taken : c.receiveByte b = { c with receiver := some (got ++ [b]) } := by
      refine receiveByte_part inFrame b fun known => ?_
      rw [frameLength_append known] at short length
      rw [List.length_append] at short
      omega
    rw [ControlLine.receive, List.foldl_cons, taken]
    exact ih rfl short length

/-! ## A whole frame (R175, R176) -/

/-- The bytes of a frame that its check covers (R175). -/
def coveredBytes (kind tag : Byte) (body : List Byte) : List Byte := [kind, tag] ++ be16 body.length ++ body

theorem frameBytes_eq (kind tag : Byte) (body : List Byte) : frameBytes kind tag body =
    syncByte :: (coveredBytes kind tag body ++ be16 (crc16 (coveredBytes kind tag body)).toNat) := rfl

theorem coveredBytes_length (kind tag : Byte) (body : List Byte) : (coveredBytes kind tag body).length = 4 + body.length := by
  simp only [coveredBytes, List.length_append, be16_length, List.length_cons, List.length_nil]

section

variable (c : ControlLine) (kind tag : Byte) {body : List Byte} (fits : body.length ≤ 1024)
include fits

theorem frameLength_covered (more : List Byte) : frameLength (coveredBytes kind tag body ++ more) = body.length := by
  rw [coveredBytes, List.append_assoc]
  exact field2_append [kind, tag] (body ++ more) (by omega)

/-- A whole frame arrives when its check matches, and is discarded otherwise (R175, R176). -/
theorem endFrame_covered (check : Half) : c.endFrame (coveredBytes kind tag body ++ be16 check.toNat) =
    if crc16 (coveredBytes kind tag body) = check then ControlLine.arrive { c with receiver := none } kind tag body
    else c.discardFrame := by
  have length : 4 + body.length = (coveredBytes kind tag body).length := (coveredBytes_length kind tag body).symm
  have covered : (coveredBytes kind tag body ++ be16 check.toNat).take (4 + body.length) = coveredBytes kind tag body := by
    rw [length, List.take_left]
  have read : field2 (coveredBytes kind tag body ++ be16 check.toNat) (4 + body.length) = check.toNat := by
    rw [length, ← List.append_nil (_ ++ be16 check.toNat)]
    exact field2_append _ [] check.isLt
  simp only [ControlLine.endFrame, frameLength_covered kind tag fits, covered, read, BitVec.toNat_inj]
  rfl

/-- The last byte of a frame ends it (R176). -/
theorem receiveByte_last {got : List Byte} {b : Byte} (inFrame : c.receiver = some got) {check : Half}
    (whole : got ++ [b] = coveredBytes kind tag body ++ be16 check.toNat) :
    c.receiveByte b = c.endFrame (coveredBytes kind tag body ++ be16 check.toNat) := by
  have length : (coveredBytes kind tag body ++ be16 check.toNat).length = 6 + body.length := by
    rw [List.length_append, coveredBytes_length, be16_length]
    omega
  simp only [ControlLine.receiveByte, inFrame, whole, length, frameLength_covered kind tag fits]
  rw [if_neg (by omega), if_neg (not_lt.mpr fits), if_pos True.intro]

/-- A hunting receiver takes a whole frame, and hunts again (R175, R176). -/
theorem receive_frame (hunting : c.receiver = none) (check : Half) :
    c.receive (syncByte :: (coveredBytes kind tag body ++ be16 check.toNat)) =
      if crc16 (coveredBytes kind tag body) = check then c.arrive kind tag body else c.discardFrame := by
  have begun : c.receive [syncByte] = { c with receiver := some [] } := receiveByte_sync hunting
  have most : ControlLine.receive { c with receiver := some [] } (coveredBytes kind tag body ++ [byteOf (check.toNat / 256)]) =
      { c with receiver := some (coveredBytes kind tag body ++ [byteOf (check.toNat / 256)]) } := by
    have length := frameLength_covered kind tag fits [byteOf (check.toNat / 256)]
    refine receive_part (got := []) (c := { c with receiver := some [] }) rfl _ ?_ (by rw [List.nil_append, length]; exact fits)
    rw [List.nil_append, length, List.length_append, coveredBytes_length, List.length_singleton]
    omega
  have hunts : ({ c with receiver := none } : ControlLine) = c := by rw [← hunting]
  calc c.receive (syncByte :: (coveredBytes kind tag body ++ be16 check.toNat))
      = ((c.receive [syncByte]).receive (coveredBytes kind tag body ++ [byteOf (check.toNat / 256)])).receiveByte
          (byteOf check.toNat) := by
        rw [show be16 check.toNat = [byteOf (check.toNat / 256)] ++ [byteOf check.toNat] from rfl, ← List.append_assoc,
          ← List.singleton_append, receive_append, receive_append]
        rfl
    _ = ControlLine.endFrame { c with receiver := some (coveredBytes kind tag body ++ [byteOf (check.toNat / 256)]) }
          (coveredBytes kind tag body ++ be16 check.toNat) := by
        rw [begun, most]
        exact receiveByte_last _ kind tag fits rfl (List.append_assoc _ _ _)
    _ = _ := by
        rw [endFrame_covered _ kind tag fits]
        simp only [hunts, ControlLine.discardFrame]

end

/-! ## Frames that fail (R176) -/

theorem discardFrame_hunting {c : ControlLine} (hunting : c.receiver = none) :
    c.discardFrame = { c with errors := c.errors + 1 } := by
  rw [ControlLine.discardFrame, ← hunting]

/-- A length above 1,024 ends a frame at its fourth byte (R176). -/
theorem receive_overLength {c : ControlLine} (hunting : c.receiver = none) (kind tag : Byte) {n : Nat} (above : 1024 < n)
    (below : n < 65536) : c.receive ([syncByte, kind, tag] ++ be16 n) = c.discardFrame := by
  have begun : c.receive [syncByte] = { c with receiver := some [] } := receiveByte_sync hunting
  have length : frameLength ([kind, tag] ++ be16 n) = n := by
    rw [← List.append_nil ([kind, tag] ++ be16 n)]
    exact field2_append [kind, tag] [] below
  have header : ControlLine.receive { c with receiver := some [] } [kind, tag, byteOf (n / 256)] =
      { c with receiver := some [kind, tag, byteOf (n / 256)] } := rfl
  calc c.receive ([syncByte, kind, tag] ++ be16 n)
      = ((c.receive [syncByte]).receive [kind, tag, byteOf (n / 256)]).receiveByte (byteOf n) := rfl
    _ = ControlLine.discardFrame { c with receiver := some [kind, tag, byteOf (n / 256)] } := by
        rw [begun, header]
        exact if_pos (length.symm ▸ above)
    _ = c.discardFrame := rfl

theorem breakFrame_hunting {c : ControlLine} (hunting : c.receiver = none) : c.breakFrame = c := by
  simp only [ControlLine.breakFrame, hunting]

theorem breakFrame_inFrame {c : ControlLine} {got : List Byte} (inFrame : c.receiver = some got) :
    c.breakFrame = { c with receiver := none, errors := c.errors + 1 } := by
  simp only [ControlLine.breakFrame, inFrame, ControlLine.discardFrame]

/-! ## The queue and the BUSY replies (R177) -/

theorem arrive_room {c : ControlLine} (room : c.queue.length < 4) (kind tag : Byte) (body : List Byte) :
    c.arrive kind tag body = { c with queue := c.queue ++ [{ kind := kind, tag := tag, body := body, reply := none }] } :=
  if_pos room

theorem arrive_full {c : ControlLine} (full : 4 ≤ c.queue.length) (kind tag : Byte) (body : List Byte) :
    c.arrive kind tag body =
      ControlLine.startReply { c with busy := c.busy ++ [{ kind := replyKind kind, tag := tag, body := [1] }] } :=
  if_neg (not_lt.mpr full)

/-! ## Every clause of O11 -/

theorem receive_high {s : State} (high : s.resetLow = false) (bytes : List Byte) :
    s.receive bytes = { s with control := s.control.receive bytes } := by
  simp only [State.receive, high, Bool.false_eq_true, if_false]

theorem stateBreakFrame_high {s : State} (high : s.resetLow = false) : s.breakFrame = { s with control := s.control.breakFrame } := by
  simp only [State.breakFrame, high, Bool.false_eq_true, if_false]

theorem stateBreakFrame_hunting {s : State} (hunting : s.control.receiver = none) : s.breakFrame = s := by
  unfold State.breakFrame
  split
  · rfl
  · rw [breakFrame_hunting hunting]

theorem receive_nil (s : State) : s.receive [] = s := by
  unfold State.receive
  split
  · rfl
  · rfl

/-- A good frame behind any noise arrives at the queue (R175 to R177). -/
theorem receive_goodFrame {s : State} (high : s.resetLow = false) (hunting : s.control.receiver = none) {noise : List Byte}
    (quiet : ∀ b ∈ noise, b ≠ syncByte) (kind tag : Byte) {body : List Byte} (fits : body.length ≤ 1024) :
    s.receive (noise ++ frameBytes kind tag body) = { s with control := s.control.arrive kind tag body } := by
  rw [receive_high high, receive_append, receive_noise hunting quiet, frameBytes_eq, receive_frame _ kind tag fits hunting,
    if_pos rfl]

/-- A frame that a hunting receiver takes and discards is counted (R176). -/
theorem receive_failed {s : State} (high : s.resetLow = false) (hunting : s.control.receiver = none) {bytes : List Byte}
    (failed : s.control.receive bytes = s.control.discardFrame) :
    s.receive bytes = { s with control := { s.control with errors := s.control.errors + 1 } } := by
  rw [receive_high high, failed, discardFrame_hunting hunting]

/-- Settles O11: a good frame by the room in the queue, then the four failures. -/
theorem framesReachTheQueueOrAreCounted : Obligations.FramesReachTheQueueOrAreCounted := by
  refine ⟨fun s kind tag body noise high hunting fits quiet => ⟨fun room => ?_, fun full => ?_⟩,
    fun s kind tag body check high hunting fits differs => ?_, fun s kind tag n high hunting above below => ?_,
    fun s got high inFrame => ?_, fun s hunting => ?_⟩
  · have arrived := receive_goodFrame high hunting quiet kind tag fits
    rw [arrive_room room] at arrived
    exact congrArg Host.Outcome.next arrived
  · have arrived := receive_goodFrame high hunting quiet kind tag fits
    rw [arrive_full full] at arrived
    exact congrArg Host.Outcome.next arrived
  · have failed := (receive_frame s.control kind tag fits hunting check).trans (if_neg differs.symm)
    exact congrArg Host.Outcome.next (receive_failed high hunting failed)
  · exact congrArg Host.Outcome.next (receive_failed high hunting (receive_overLength hunting kind tag above below))
  · have broken : (s.receive []).breakFrame = { s with control := s.control.breakFrame } := by
      rw [receive_nil, stateBreakFrame_high high]
    rw [breakFrame_inFrame inFrame] at broken
    exact ⟨congrArg Host.Outcome.next broken, congrArg Host.Outcome.next broken⟩
  · have stands : (s.receive []).breakFrame = s := by rw [receive_nil, stateBreakFrame_hunting hunting]
    exact ⟨congrArg Host.Outcome.next stands, congrArg Host.Outcome.next stands⟩

end Sys2Proof.Machine
end

section
/-! SUPPORT. The notice queue by cases (R185, R188), and its two requests (R184, R186, R187); and O13 and O14. -/

namespace Sys2Proof.Machine

/-! ## The four cases of a posting (R185) -/

theorem matchesPost_iff (n : Notice) (p : Post) : n.matchesPost p = true ↔ n.kind = p.kind ∧ n.subject = p.subject := by
  simp only [Notice.matchesPost, Bool.and_eq_true, beq_iff_eq]

theorem any_matchesPost_eq_false {entries : List Notice} {p : Post}
    (h : ∀ m ∈ entries, ¬(m.kind = p.kind ∧ m.subject = p.subject)) : entries.any (·.matchesPost p) = false := by
  simpa only [List.any_eq_false, matchesPost_iff] using h

/-- Entries of another kind or subject stand through a coalescing update. -/
theorem map_update_others {entries : List Notice} {p : Post} (hbc : Word)
    (h : ∀ m ∈ entries, ¬(m.kind = p.kind ∧ m.subject = p.subject)) :
    (entries.map fun n => if n.matchesPost p then n.update p hbc else n) = entries := by
  have stands (m : Notice) (hm : m ∈ entries) : (if m.matchesPost p then m.update p hbc else m) = m :=
    if_neg fun found => h m hm ((matchesPost_iff m p).mp found)
  exact (List.map_congr_left stands).trans (List.map_id' entries)

theorem post_disabled {nq : NoticeQueue} {p : Post} (hbc : Word) (h : nq.queueEnable.getLsbD p.kind.code = false) :
    nq.post hbc p = nq := if_pos h

/-- The one entry of the notice's kind and subject coalesces with it (R185, case 2). -/
theorem post_coalesces {nq : NoticeQueue} {p : Post} (hbc : Word) {before after : List Notice} {n : Notice}
    (enabled : nq.queueEnable.getLsbD p.kind.code = true) (entries : nq.entries = before ++ n :: after)
    (same : n.kind = p.kind ∧ n.subject = p.subject)
    (others : ∀ m ∈ before ++ after, ¬(m.kind = p.kind ∧ m.subject = p.subject)) :
    nq.post hbc p = { nq with entries := before ++ n.update p hbc :: after } := by
  have found := (matchesPost_iff n p).mpr same
  have present : nq.entries.any (·.matchesPost p) = true := by
    rw [entries, List.any_append, List.any_cons, found, Bool.true_or, Bool.or_true]
  obtain ⟨old, new⟩ := List.forall_mem_append.mp others
  rw [NoticeQueue.post, if_neg (by rw [enabled]; decide), if_pos present, entries, List.map_append, List.map_cons,
    map_update_others hbc old, map_update_others hbc new, if_pos found]

theorem post_queued {nq : NoticeQueue} {p : Post} (hbc : Word) (enabled : nq.queueEnable.getLsbD p.kind.code = true)
    (new : ∀ m ∈ nq.entries, ¬(m.kind = p.kind ∧ m.subject = p.subject)) (room : nq.entries.length < 64) :
    nq.post hbc p = { nq with entries := nq.entries ++
      [{ kind := p.kind, subject := p.subject, hbc := hbc, detail := word p.detail, repeats := 0 }] } := by
  rw [NoticeQueue.post, if_neg (by rw [enabled]; decide), any_matchesPost_eq_false new, if_neg Bool.false_ne_true, if_pos room]

theorem post_lost {nq : NoticeQueue} {p : Post} (hbc : Word) (enabled : nq.queueEnable.getLsbD p.kind.code = true)
    (new : ∀ m ∈ nq.entries, ¬(m.kind = p.kind ∧ m.subject = p.subject)) (full : 64 ≤ nq.entries.length) :
    nq.post hbc p = { nq with lost := nq.lost + 1 } := by
  rw [NoticeQueue.post, if_neg (by rw [enabled]; decide), any_matchesPost_eq_false new, if_neg Bool.false_ne_true,
    if_neg (not_lt.mpr full)]

/-- The repeat count stops at 255 (R185). -/
theorem bumpRepeat_eq (r : BitVec 8) : bumpRepeat r = if r = 255 then 255 else r + 1 := by
  unfold bumpRepeat
  split
  next full => exact full
  next => rfl

/-- ALERT_N is low exactly while an entry of an alert-enabled kind is queued (R188). -/
theorem alertN_low_iff (s : State) :
    s.alertN = false ↔ ∃ n ∈ s.notices.entries, s.notices.alertEnable.getLsbD n.kind.code = true := by
  simp only [State.alertN, NoticeQueue.alertN, Bool.not_eq_false', List.any_eq_true]

/-- Settles O13, case by case. -/
theorem noticePostingFollowsItsFourCases : Obligations.NoticePostingFollowsItsFourCases := by
  refine ⟨fun nq hbc p => post_disabled hbc, fun nq hbc p before after n enabled entries kind subject others => ?_,
    fun nq hbc p enabled new => ⟨post_queued hbc enabled new, post_lost hbc enabled new⟩, fun nq hbc p => post_ok hbc p,
    alertN_low_iff⟩
  rw [post_coalesces hbc enabled entries ⟨kind, subject⟩ others, Notice.update, bumpRepeat_eq]

/-! ## NOTICE_FETCH (R184, R186) -/

/-- The URGENT kinds are those of codes 0 to 5 (R184). -/
theorem urgent_eq (k : NoticeKind) : k.urgent = decide (k.code < 6) := by cases k <;> rfl

/-- The entries in the order in which a NOTICE_FETCH takes them: the URGENT ones, then the others, each class in arrival order
(R186). -/
def NoticeQueue.fetchOrder (nq : NoticeQueue) : List Notice :=
  (nq.entries.filter fun e => e.kind.code < 6) ++ (nq.entries.filter fun e => 6 ≤ e.kind.code)

theorem fetched_eq (nq : NoticeQueue) (n : Nat) : nq.fetched n = nq.fetchOrder.take n := by
  simp only [NoticeQueue.fetched, NoticeQueue.fetchOrder, urgent_eq, ← decide_not, not_lt]

theorem fetchOrder_perm (nq : NoticeQueue) : nq.fetchOrder.Perm nq.entries := by
  have classes := List.filter_append_perm (fun e : Notice => decide (e.kind.code < 6)) nq.entries
  simpa only [NoticeQueue.fetchOrder, ← decide_not, not_lt] using classes

theorem NoticeQueue.Ok.nodup {nq : NoticeQueue} (h : nq.Ok) : nq.entries.Nodup :=
  h.distinct.imp fun apart e => apart (by rw [e]; exact ⟨rfl, rfl⟩)

/-- The front of a rearranged list, and what stands outside it in the list itself, are together that list. -/
theorem take_append_rest_perm {α : Type} [DecidableEq α] {l ordered : List α} (once : l.Nodup) (same : ordered.Perm l) (n : Nat) :
    (ordered.take n ++ l.filter fun e => !(ordered.take n).contains e).Perm l := by
  have apart : (ordered.take n ++ ordered.drop n).Nodup := by rw [List.take_append_drop]; exact same.nodup_iff.mpr once
  have rest : ((ordered.take n ++ ordered.drop n).filter fun e => !(ordered.take n).contains e) = ordered.drop n := by
    have front : ((ordered.take n).filter fun e => !(ordered.take n).contains e) = [] :=
      List.filter_eq_nil_iff.mpr fun e he => by simp only [List.contains_iff_mem.mpr he, Bool.not_true, Bool.false_eq_true, not_false_iff]
    have back : ((ordered.drop n).filter fun e => !(ordered.take n).contains e) = ordered.drop n :=
      List.filter_eq_self.mpr fun e he => by
        have outside : e ∉ ordered.take n := fun taken => List.disjoint_of_nodup_append apart taken he
        simpa only [Bool.not_eq_true', List.contains_eq_mem, decide_eq_false_iff_not] using outside
    rw [List.filter_append, front, back, List.nil_append]
  have parts := (same.symm.filter fun e => !(ordered.take n).contains e).append_left (ordered.take n)
  rw [List.take_append_drop] at rest
  rw [rest, List.take_append_drop] at parts
  exact parts.trans same

theorem noticeBytes_eq (e : Notice) : e.bytes =
    [byteOf e.kind.code, if e.kind.code < 6 then 0 else 1, byteOf e.subject] ++ beWord e.hbc ++ beWord e.detail ++ [e.repeats] := by
  simp only [Notice.bytes, urgent_eq, decide_eq_true_eq, List.cons_append, List.nil_append]

/-- A check of two parts. -/
theorem require_and_bind {β : Type} (a b : Prop) [Decidable a] [Decidable b] (st : Status) (k : Unit → Except Status β) :
    (require (decide a && decide b) st >>= k) = if a ∧ b then k () else .error st := by
  rw [← Bool.decide_and]
  by_cases h : a ∧ b
  · rw [decide_eq_true h, if_pos h]; rfl
  · rw [decide_eq_false h, if_neg h]; rfl

/-- NOTICE_FETCH as it is served (R186). -/
theorem serveNoticeFetch_eq (s : State) (n : Byte) : serveNoticeFetch s [n] =
    if 1 ≤ n.toNat ∧ n.toNat ≤ 16 then
      .ok ({ s with notices := s.notices.afterFetch n.toNat },
        beWord s.notices.lost ++ be32 (s.notices.fetched n.toNat).length ++ be32 (s.notices.afterFetch n.toNat).entries.length ++
          (s.notices.fetched n.toNat).flatMap Notice.bytes)
    else .error .badValue := by
  unfold serveNoticeFetch
  dsimp only [field1_cons]
  rw [require_and_bind]
  rfl

/-! ## NOTICE_ENABLE (R187) -/

theorem serveNoticeEnable_eq (s : State) (q a : Word) : serveNoticeEnable s (beWord q ++ beWord a) =
    if q.toNat < 4194304 ∧ a.toNat < 4194304 then
      .ok ({ s with notices := { s.notices with queueEnable := q.truncate 22, alertEnable := a.truncate 22 } }, beWord q ++ beWord a)
    else .error .badValue := by
  have queue : field4 (beWord q ++ beWord a) 0 = q.toNat := field4_append [] (beWord a) q.isLt
  have alert : field4 (beWord q ++ beWord a) 4 = a.toNat := by
    have read := field4_append (beWord q) [] a.isLt
    rwa [List.append_nil] at read
  unfold serveNoticeEnable
  rw [queue, alert, require_and_bind]
  rfl

/-! ## Both requests -/

/-- Settles O14: the fetch by its number, with what it takes and leaves, and the masks by their range. -/
theorem noticeRequests : Obligations.NoticeRequests := by
  refine ⟨fun s n hn => ⟨fun bad => ?_, fun ok low high => ?_⟩, fun s q a hn => ?_⟩
  · have out : ¬(1 ≤ n.toNat ∧ n.toNat ≤ 16) := by
      obtain rfl | above := bad
      · decide
      · omega
    exact take_refused hn rfl ((serveNoticeFetch_eq s n).trans (if_neg out))
  · refine ⟨s.notices.fetched n.toNat, (s.notices.afterFetch n.toNat).entries, ?_, fetched_eq _ _, List.filter_sublist, ?_⟩
    · have served := (serveNoticeFetch_eq s n).trans (if_pos ⟨low, high⟩)
      rw [funext noticeBytes_eq] at served
      exact take_granted hn rfl served
    · rw [NoticeQueue.afterFetch, fetched_eq]
      exact take_append_rest_perm ok.nodup (fetchOrder_perm _) _
  · have served := serveNoticeEnable_eq s q a
    split
    next range => exact take_granted hn rfl (served.trans (if_pos range))
    next out => exact take_refused hn rfl (served.trans (if_neg out))

end Sys2Proof.Machine
end

section
/-! SUPPORT. The commands that wait, which every event and every served request leaves as they stand (00_scope 2); and O1 and O2. -/

namespace Sys2Proof.Machine

/-! ## Packets -/

@[simp] theorem unanchor_pending (s : State) (g : Fin 16) : (s.unanchor g).pending = s.pending := rfl

@[simp] theorem unanchorIfLeft_pending (s : State) (g : Fin 16) : (s.unanchorIfLeft g).pending = s.pending := by
  unfold State.unanchorIfLeft
  split
  · exact unanchor_pending s g
  · rfl

theorem anchoredFor_pending (s : State) (i : Fin 32) (p : Packet) : (s.anchoredFor i p).pending = s.pending := by
  unfold State.anchoredFor
  split <;> rfl

theorem classifyPacket_pending (s : State) (i : Fin 32) (a : Ingest) : (s.classifyPacket i a).pending = s.pending := rfl

theorem primedBy_pending (s : State) (i : Fin 32) (p : Packet) : (s.primedBy i p).pending = s.pending := anchoredFor_pending s i p

theorem firstPacket_pending (s : State) (i : Fin 32) (path : PathId) (p : Packet) : (s.firstPacket i path p).pending = s.pending := by
  rw [firstPacket_eq, classifyPacket_pending, primedBy_pending]

theorem rejectA_pending (s : State) (i : Fin 32) : (s.rejectA i).pending = s.pending := by
  unfold State.rejectA
  dsimp only
  split <;> rfl

theorem rejectB_pending (s : State) (i : Fin 32) : (s.rejectB i).pending = s.pending := by
  unfold State.rejectB
  dsimp only
  split
  · split <;> rfl
  · rfl

theorem ingested_pending (s : State) (i : Fin 32) (path : PathId) (p : Packet) : (s.ingested i path p).pending = s.pending := by
  unfold State.ingested
  split <;> rfl

theorem earlyResync_pending (s : State) (i : Fin 32) (detail : Int) : (s.earlyResync i detail).pending = s.pending :=
  unanchorIfLeft_pending _ _

theorem laterPacket_pending (s : State) (i : Fin 32) (path : PathId) (p : Packet) : (s.laterPacket i path p).pending = s.pending := by
  obtain e | ⟨d, e⟩ | ⟨-, e⟩ | ⟨-, e⟩ := laterPacket_cases s i path p
  · rw [e]; exact ingested_pending s i path p
  · rw [e]; exact (earlyResync_pending _ i d).trans (ingested_pending s i path p)
  · rw [e]; exact rejectA_pending s i
  · rw [e]; exact rejectB_pending s i

theorem ingestStream_pending (s : State) (port : PortId) (i : Fin 32) (path : PathId) (p : Packet) :
    (s.ingestStream port i path p).pending = s.pending := by
  obtain e | ⟨-, c, e⟩ | ⟨-, e⟩ | ⟨-, e⟩ := ingestStream_cases s port i path p
  · rw [e]; exact setPort_pending s port _
  · rw [e]; exact setStream_pending s i _
  · rw [e]; exact firstPacket_pending s i path p
  · rw [e]; exact laterPacket_pending s i path p

theorem ingestDatagram_pending (s : State) (port : PortId) (d : List Byte) : (s.ingestDatagram port d).pending = s.pending := by
  obtain ⟨x, -, e⟩ | ⟨i, path, p, e⟩ := ingestDatagram_cases s port d
  · rw [e]; exact setPort_pending s port x
  · rw [e]; exact ingestStream_pending s port i path p

theorem arrival_pending (s : State) (port : PortId) (d : List Byte) : (s.arrival port d).pending = s.pending := by
  unfold State.arrival
  dsimp only
  split
  · exact (ingestDatagram_pending _ port d).trans (setPort_pending s port _)
  · rfl

/-! ## Other events -/

theorem boundaryWhen_pending (s : State) (due : Bool) (inp : BoundaryInput) : (s.boundaryWhen due inp).pending = s.pending := by
  unfold State.boundaryWhen
  split
  · rfl
  split
  · obtain ⟨qs, parts⟩ := boundary_parts s inp
    rw [parts]
  · rfl

theorem hrefEdge_pending (n : Fin 48) (s : State) : ∃ t, execHrefEdge n s = .next t ∧ t.pending = s.pending := by
  unfold execHrefEdge
  split
  · exact ⟨_, rfl, rfl⟩
  · exact ⟨_, rfl, atSample_pending s n⟩

theorem carrierArrival_pending (s : State) (p : PortId) : (s.carrierArrival p).pending = s.pending := by
  unfold State.carrierArrival
  dsimp only
  split
  all_goals exact setPort_pending s p _

theorem carrierLoss_pending (s : State) (p : PortId) : (s.carrierLoss p).pending = s.pending := by
  unfold State.carrierLoss
  dsimp only
  split
  all_goals exact setPort_pending s p _

theorem warmUpExpiry_pending (s : State) (p : PortId) : (s.warmUpExpiry p).pending = s.pending := by
  unfold State.warmUpExpiry
  dsimp only
  split
  · split
    · exact setPort_pending s p _
    · exact setPort_pending s p _
  all_goals rfl

theorem receive_pending (s : State) (bytes : List Byte) : (s.receive bytes).pending = s.pending := by
  unfold State.receive
  split <;> rfl

theorem breakFrame_pending (s : State) : s.breakFrame.pending = s.pending := by
  unfold State.breakFrame
  split <;> rfl

theorem takeBadKind_pending (s : State) : s.takeBadKind.pending = s.pending := by
  unfold State.takeBadKind
  split
  · rfl
  split <;> rfl

theorem resetRelease_pending (s : State) (strap : Bool) : (s.resetRelease strap).pending = s.pending := by
  unfold State.resetRelease
  split <;> rfl

theorem replySent_pending (s : State) : s.replySent.pending = s.pending := by
  unfold State.replySent
  split
  · rfl
  dsimp only
  split
  · split <;> rfl
  · rfl

/-! ## Requests -/

/-- What a request's serving grants has the waiting commands of `s`. -/
def Served.KeepsPending (r : Served) (s : State) : Prop := ∀ t data, r = .ok (t, data) → t.pending = s.pending

namespace Served.KeepsPending

theorem refused {s : State} (st : Status) : Served.KeepsPending (.error st) s := by
  rintro _ _ ⟨⟩

theorem granted {s t : State} (h : t.pending = s.pending) (data : List Byte) : Served.KeepsPending (.ok (t, data)) s := by
  rintro _ _ ⟨⟩
  exact h

/-- A serving that checks first. -/
theorem checked {s : State} {α : Type} (c : Except Status α) {k : α → Served} (h : ∀ a, (k a).KeepsPending s) :
    Served.KeepsPending (c >>= k) s := by
  cases c with
  | error st => exact refused st
  | ok a => exact h a

end Served.KeepsPending

/-- A request's effects leave the waiting commands. -/
def ServesKeepingPending (serve : State → List Byte → Served) : Prop := ∀ s body, (serve s body).KeepsPending s

theorem ServesNothing.keepsPending {serve : State → List Byte → Served} (h : ServesNothing serve) : ServesKeepingPending serve :=
  fun s body t data e => by rw [h s body t data e]

/-- A request that is served at a house sample (log 1). -/
theorem ServesKeepingPending.atSample {serve : State → List Byte → Served} (h : ServesKeepingPending serve) (n : Fin 48) :
    ServesKeepingPending fun s body => serve (s.atSample n) body :=
  fun s body t data e => (h (s.atSample n) body t data e).trans (atSample_pending s n)

/-- The taking of a request, whether refused, served or not due. -/
theorem take_pending {serve : State → List Byte → Served} (h : ServesKeepingPending serve) (s : State) (kind : Byte) :
    (s.take kind serve).pending = s.pending := by
  obtain e | ⟨body, e⟩ | ⟨r, t, data, -, -, -, served, e⟩ := take_cases s kind serve
  · rw [e]
  · rw [e]; exact answer_pending s body
  · rw [e]; exact (answer_pending t _).trans (h s r.body t data served)

/-! ### Control line, clock and ports -/

theorem serveReset_pending : ServesKeepingPending serveReset := fun _ _ => .granted rfl _

theorem serveClockQuery_pending : ServesKeepingPending serveClockQuery := fun _ _ => .granted rfl _

theorem serveNoticeFetch_pending : ServesKeepingPending serveNoticeFetch := fun _ _ => .checked _ fun _ => .granted rfl _

theorem serveNoticeEnable_pending : ServesKeepingPending serveNoticeEnable := fun _ _ => .checked _ fun _ => .granted rfl _

theorem servePortEnable_pending : ServesKeepingPending servePortEnable :=
  fun s _ => .checked _ fun _ => .granted (setPort_pending s _ _) _

theorem servePortDisable_pending : ServesKeepingPending servePortDisable :=
  fun s _ => .checked _ fun _ => .granted (setPort_pending s _ _) _

theorem servePortBudget_pending : ServesKeepingPending servePortBudget :=
  fun s _ => .checked _ fun _ => .checked _ fun _ => .granted (setPort_pending s _ _) _

theorem servePortQuery_pending : ServesKeepingPending servePortQuery := by
  refine fun s _ => .checked _ fun _ => .granted ?_ _
  split
  · exact setPort_pending s _ _
  · rfl

/-! ### Streams and groups -/

theorem serveStreamOpen_pending : ServesKeepingPending serveStreamOpen := by
  intro s body
  unfold serveStreamOpen
  split
  · exact .refused _
  split
  · exact .refused _
  split
  · exact .refused _
  · exact .checked _ fun _ => .granted rfl _

theorem serveStreamStart_pending : ServesKeepingPending serveStreamStart := by
  intro s body
  unfold serveStreamStart
  split
  · exact .refused _
  split
  · exact .granted rfl _
  · exact .refused _

theorem stopStream_pending (s : State) (i : Fin 32) : (s.stopStream i).pending = s.pending := unanchorIfLeft_pending _ _

theorem serveStreamStop_pending : ServesKeepingPending serveStreamStop := by
  intro s body
  unfold serveStreamStop
  split
  · exact .refused _
  split
  · exact .refused _
  · exact .granted rfl _
  all_goals exact .granted (stopStream_pending s _) _

theorem closeStream_pending (s : State) (i : Fin 32) : (s.closeStream i).pending = s.pending := unanchorIfLeft_pending _ _

theorem serveStreamClose_pending : ServesKeepingPending serveStreamClose := by
  intro s body
  unfold serveStreamClose
  split
  · exact .refused _
  split
  · exact .refused _
  · exact .granted (closeStream_pending s _) _

theorem serveStreamRepair_pending : ServesKeepingPending serveStreamRepair := by
  intro s body
  unfold serveStreamRepair
  split
  · exact .refused _
  dsimp only
  split
  · exact .refused _
  split
  · exact .refused _
  · exact .granted rfl _
  · exact .granted rfl _

theorem serveTestQuery_pending : ServesKeepingPending serveTestQuery := by
  intro s body
  unfold serveTestQuery
  split
  · exact .refused _
  refine .checked _ fun _ => .granted ?_ _
  split <;> rfl

theorem serveGroupSet_pending : ServesKeepingPending serveGroupSet := by
  intro s body
  unfold serveGroupSet
  split
  · exact .refused _
  · exact .checked _ fun _ => .checked _ fun _ => .granted rfl _

theorem serveGroupRecentre_pending : ServesKeepingPending serveGroupRecentre := by
  intro s body
  unfold serveGroupRecentre
  split
  · exact .refused _
  split
  · split
    · exact .refused _
    · exact .granted rfl _
  · exact .refused _

/-! ### Output map -/

theorem serveMapSet_pending : ServesKeepingPending serveMapSet := by
  intro s body
  unfold serveMapSet
  split
  · exact .refused _
  split
  · exact .refused _
  · exact .checked _ fun _ => .granted rfl _

theorem serveMapCommit_pending : ServesKeepingPending serveMapCommit := fun _ _ => .granted rfl _

theorem serveMapDiscard_pending : ServesKeepingPending serveMapDiscard := by
  intro s body
  unfold serveMapDiscard
  dsimp only
  split
  · exact .granted rfl _
  split
  · exact .refused _
  · exact .granted rfl _

theorem serveMapQuery_pending : ServesKeepingPending serveMapQuery := by
  intro s body
  unfold serveMapQuery
  dsimp only
  split
  · exact .refused _
  refine .checked _ fun _ => .granted ?_ _
  split <;> rfl

/-! ### Return feeds -/

theorem serveReturnSet_pending : ServesKeepingPending serveReturnSet := by
  intro s body
  unfold serveReturnSet
  split
  · exact .refused _
  dsimp only
  split
  · exact .refused _
  refine .checked _ fun _ => .checked _ fun _ => .granted ?_ _
  split <;> rfl

theorem serveReturnCoef_pending : ServesKeepingPending serveReturnCoef := by
  intro s body
  unfold serveReturnCoef
  split
  · exact .refused _
  · exact .checked _ fun _ => .granted rfl _

theorem serveReturnStart_pending : ServesKeepingPending serveReturnStart := by
  intro s body
  unfold serveReturnStart
  split
  · exact .refused _
  · exact .checked _ fun _ => .checked _ fun _ => .checked _ fun _ => .granted rfl _

theorem serveReturnStop_pending : ServesKeepingPending serveReturnStop := by
  intro s body
  unfold serveReturnStop
  split
  · exact .refused _
  dsimp only
  split
  · exact .granted rfl _
  · exact .granted rfl _

theorem serveReturnQuery_pending : ServesKeepingPending serveReturnQuery := by
  intro s body
  unfold serveReturnQuery
  split
  · exact .refused _
  refine .checked _ fun _ => .granted ?_ _
  split <;> rfl

/-! ### Output lines, meters and watches -/

theorem serveSignalSet_pending : ServesKeepingPending serveSignalSet := by
  intro s body
  unfold serveSignalSet
  split
  · exact .refused _
  split
  · exact .refused _
  · exact .granted rfl _

theorem serveSignalOverride_pending : ServesKeepingPending serveSignalOverride := fun _ _ => .granted rfl _

theorem serveSiginMask_pending : ServesKeepingPending serveSiginMask := fun _ _ => .granted rfl _

theorem serveMeterSet_pending : ServesKeepingPending serveMeterSet := fun _ _ => .checked _ fun _ => .granted rfl _

theorem serveWatchSet_pending : ServesKeepingPending serveWatchSet := by
  intro s body
  unfold serveWatchSet
  split
  · exact .refused _
  split
  · exact .refused _
  · exact .granted rfl _

/-! ## Every command -/

/-- Settles O2, command by command. -/
theorem everyCommandEndsInANextState : Obligations.EveryCommandEndsInANextState := by
  intro c s
  cases c with
  | powerOn | resetnFall => exact ⟨_, rfl, rfl⟩
  | resetnRelease strap => exact ⟨_, rfl, resetRelease_pending s strap⟩
  | hrefEdge n => exact hrefEdge_pending n s
  | houseBlockBoundary | houseRefLocked | slip | recentre | windowEnd | pathSilent | commitApply | returnPacketBuild
  | meterPeriodEnd => exact ⟨_, rfl, boundaryWhen_pending s _ _⟩
  | carrierArrival p => exact ⟨_, rfl, carrierArrival_pending s p⟩
  | carrierLoss p => exact ⟨_, rfl, carrierLoss_pending s p⟩
  | warmUpExpiry p => exact ⟨_, rfl, warmUpExpiry_pending s p⟩
  | packetArrival p n d => exact ⟨_, rfl, (arrival_pending _ p d).trans (atSample_pending s n)⟩
  | requestArrival bytes | frameCheckFail bytes | frameOverLength bytes => exact ⟨_, rfl, receive_pending s bytes⟩
  | frameStopBitError bytes | interByteTimeout bytes => exact ⟨_, rfl, (breakFrame_pending _).trans (receive_pending s bytes)⟩
  | replySent => exact ⟨_, rfl, replySent_pending s⟩
  | badKind => exact ⟨_, rfl, takeBadKind_pending s⟩
  | identify => exact ⟨_, rfl, take_pending serveIdentify_nothing.keepsPending s _⟩
  | reset => exact ⟨_, rfl, take_pending serveReset_pending s _⟩
  | clockQuery n => exact ⟨_, rfl, take_pending (serveClockQuery_pending.atSample n) s _⟩
  | noticeFetch => exact ⟨_, rfl, take_pending serveNoticeFetch_pending s _⟩
  | noticeEnable => exact ⟨_, rfl, take_pending serveNoticeEnable_pending s _⟩
  | portEnable n => exact ⟨_, rfl, take_pending (servePortEnable_pending.atSample n) s _⟩
  | portDisable => exact ⟨_, rfl, take_pending servePortDisable_pending s _⟩
  | portBudget => exact ⟨_, rfl, take_pending servePortBudget_pending s _⟩
  | portQuery n => exact ⟨_, rfl, take_pending (servePortQuery_pending.atSample n) s _⟩
  | streamOpen => exact ⟨_, rfl, take_pending serveStreamOpen_pending s _⟩
  | streamStart => exact ⟨_, rfl, take_pending serveStreamStart_pending s _⟩
  | streamStop => exact ⟨_, rfl, take_pending serveStreamStop_pending s _⟩
  | streamClose => exact ⟨_, rfl, take_pending serveStreamClose_pending s _⟩
  | streamRepair => exact ⟨_, rfl, take_pending serveStreamRepair_pending s _⟩
  | streamQuery => exact ⟨_, rfl, take_pending serveStreamQuery_nothing.keepsPending s _⟩
  | streamClock => exact ⟨_, rfl, take_pending serveStreamClock_nothing.keepsPending s _⟩
  | groupSet => exact ⟨_, rfl, take_pending serveGroupSet_pending s _⟩
  | groupQuery => exact ⟨_, rfl, take_pending serveGroupQuery_nothing.keepsPending s _⟩
  | groupClock => exact ⟨_, rfl, take_pending serveGroupClock_nothing.keepsPending s _⟩
  | groupRecentre => exact ⟨_, rfl, take_pending serveGroupRecentre_pending s _⟩
  | mapSet => exact ⟨_, rfl, take_pending serveMapSet_pending s _⟩
  | mapCommit => exact ⟨_, rfl, take_pending serveMapCommit_pending s _⟩
  | mapDiscard => exact ⟨_, rfl, take_pending serveMapDiscard_pending s _⟩
  | mapQuery => exact ⟨_, rfl, take_pending serveMapQuery_pending s _⟩
  | returnSet => exact ⟨_, rfl, take_pending serveReturnSet_pending s _⟩
  | returnCoef => exact ⟨_, rfl, take_pending serveReturnCoef_pending s _⟩
  | returnStart => exact ⟨_, rfl, take_pending serveReturnStart_pending s _⟩
  | returnStop => exact ⟨_, rfl, take_pending serveReturnStop_pending s _⟩
  | returnQuery => exact ⟨_, rfl, take_pending serveReturnQuery_pending s _⟩
  | signalSet => exact ⟨_, rfl, take_pending serveSignalSet_pending s _⟩
  | signalOverride => exact ⟨_, rfl, take_pending serveSignalOverride_pending s _⟩
  | signalQuery => exact ⟨_, rfl, take_pending serveSignalQuery_nothing.keepsPending s _⟩
  | siginMask => exact ⟨_, rfl, take_pending serveSiginMask_pending s _⟩
  | meterSet => exact ⟨_, rfl, take_pending serveMeterSet_pending s _⟩
  | meterRead => exact ⟨_, rfl, take_pending serveMeterRead_nothing.keepsPending s _⟩
  | watchSet => exact ⟨_, rfl, take_pending serveWatchSet_pending s _⟩
  | watchQuery => exact ⟨_, rfl, take_pending serveWatchQuery_nothing.keepsPending s _⟩
  | testQuery => exact ⟨_, rfl, take_pending serveTestQuery_pending s _⟩

/-! ## A step -/

theorem step_cons {s : State} {c : Instr} {rest : List Instr} (h : s.pending = c :: rest) : step s = exec c (s.withPending rest) := by
  simp only [step, h]

theorem step_idle {s : State} (h : s.pending = []) : step s = .next s := by simp only [step, h]

/-- Settles O1, by the two cases of the queue. -/
theorem stepRunsTheFrontCommand : Obligations.StepRunsTheFrontCommand :=
  ⟨fun _ _ _ h => step_cons h, fun _ h => step_idle h⟩

end Sys2Proof.Machine
end
